-- ==== Sys2Proof/Word.lean ====
section
/-! DEFINITION. The byte: the one word that moves on the supervision link and on the card bus. -/

namespace Sys2Proof

/-- A character of the supervision line, or a byte of a card bus record (R174, R178). -/
abbrev Byte := BitVec 8

/-- A slot number, 0..15 (00_scope.md, Numbering). -/
abbrev SlotId := Fin 16

end Sys2Proof
end

