-- ==== Sys2Proof/Syntax.lean ====
section
/-! DEFINITION. The commands: one constructor for each row of spec/opcode_table.json, with the operands the
row's rule gives the event. -/

namespace Sys2Proof

/-- The two supply inputs (R121). -/
inductive FeedId where
  | a
  | b
  deriving DecidableEq, Repr

/-- What a card says in answer to the header (R153): it accepts, or it gives a completion byte at once. -/
inductive HeaderAnswer where
  | accept
  | completion (code : Byte)
  deriving DecidableEq, Repr

/-- The commands the block takes. A request row carries the tag and the body bytes of its frame, so that the
length and every value stay the part's to judge (R166, R176). -/
inductive Instr where
  /-- DEVICE_RESET, R172. -/
  | deviceReset
  /-- RESET_RELEASE, R172. -/
  | resetRelease
  /-- CHARACTER_RECEIVED, R163. -/
  | characterReceived (c : Byte)
  /-- LINE_ERROR, R163. -/
  | lineError
  /-- GAP_TIMER_EXPIRY, R164. -/
  | gapTimerExpiry
  /-- FRAME_SENT, R171. -/
  | frameSent
  /-- BAD_KIND, R166: a received frame whose kind is no request kind. -/
  | badKind (kind tag : Byte) (body : List Byte)
  /-- SET_FEEDS, R132. -/
  | setFeeds (tag : Byte) (body : List Byte)
  /-- SET_BUDGET, R133. -/
  | setBudget (tag : Byte) (body : List Byte)
  /-- SET_RELINK, R23. -/
  | setRelink (tag : Byte) (body : List Byte)
  /-- SET_NOTICES, R169. -/
  | setNotices (tag : Byte) (body : List Byte)
  /-- LOAD_SLOT, R76. -/
  | loadSlot (tag : Byte) (body : List Byte)
  /-- START_SHELF, R80. -/
  | startShelf (tag : Byte) (body : List Byte)
  /-- DRILL, R50. -/
  | drill (tag : Byte) (body : List Byte)
  /-- RESET, R173. -/
  | reset (tag : Byte) (body : List Byte)
  /-- GET_SHELF, R168. -/
  | getShelf (tag : Byte) (body : List Byte)
  /-- GET_SLOT, R95. -/
  | getSlot (tag : Byte) (body : List Byte)
  /-- GET_EPISODE, R74. -/
  | getEpisode (tag : Byte) (body : List Byte)
  /-- CREATE_LINK, R13. -/
  | createLink (tag : Byte) (body : List Byte)
  /-- REMOVE_LINK, R17. -/
  | removeLink (tag : Byte) (body : List Byte)
  /-- RETRY_LINK, R37. -/
  | retryLink (tag : Byte) (body : List Byte)
  /-- GET_LINK, R18. -/
  | getLink (tag : Byte) (body : List Byte)
  /-- FIND_LINKS, R19. -/
  | findLinks (tag : Byte) (body : List Byte)
  /-- SET_PORT, R105. -/
  | setPort (tag : Byte) (body : List Byte)
  /-- GET_PORT, R107. -/
  | getPort (tag : Byte) (body : List Byte)
  /-- CARD_PORTS, R108. -/
  | cardPorts (tag : Byte) (body : List Byte)
  /-- SLOT_RESTART, R93. -/
  | slotRestart (tag : Byte) (body : List Byte)
  /-- SLOT_RETIRE, R94. -/
  | slotRetire (tag : Byte) (body : List Byte)
  /-- REVERT, R116. -/
  | revert (tag : Byte) (body : List Byte)
  /-- FEED_SAMPLE, R122: a voltage of 0..8191 from one feed. -/
  | feedSample (feed : FeedId) (sample : BitVec 13)
  /-- ARM_TIMER_EXPIRY, R127. -/
  | armTimerExpiry
  /-- HOLD_TIMER_EXPIRY, R35. -/
  | holdTimerExpiry
  /-- CARD_ACKNOWLEDGE, R153. -/
  | cardAcknowledge
  /-- CARD_HEADER_ANSWER, R153. -/
  | cardHeaderAnswer (answer : HeaderAnswer)
  /-- CARD_DATA_RECORD, R153: the bytes the card gives; not read when the card takes a record. -/
  | cardDataRecord (bytes : List Byte)
  /-- CARD_COMPLETION, R153: the completion byte of R178. -/
  | cardCompletion (code : Byte)
  /-- RELEASE_END, R153. -/
  | releaseEnd
  /-- PHASE_TIMEOUT_EXPIRY, R154. -/
  | phaseTimeoutExpiry
  /-- ATTENTION_RISE, R91. -/
  | attentionRise (slot : SlotId)
  /-- RETURN_DEADLINE_EXPIRY, R88. -/
  | returnDeadlineExpiry (slot : SlotId)
  /-- RAMP_TIMER_EXPIRY, R142. -/
  | rampTimerExpiry (slot : SlotId)
  /-- DARK_TIMER_EXPIRY, R144. -/
  | darkTimerExpiry (slot : SlotId)
  /-- SWITCH_TRIP, R145. -/
  | switchTrip (slot : SlotId)
  /-- ACKNOWLEDGE_WITHDRAWN, R155. -/
  | acknowledgeWithdrawn
  deriving DecidableEq, Repr

end Sys2Proof
end

