-- ==== Sys2Proof/Decode.lean ====
section
/-! DEFINITION. The words of spec/opcode_table.json. The table gives no row a bit, so no word spells a command
(log 25). The frames of the supervision link are taken apart where they are received (Machine/Operands.lean). -/

namespace Sys2Proof

/-- The command a table word spells: none, for every word, since no row of the table has bits. -/
def decodeTableWord (_nbits _w : Nat) : Option Instr := none

end Sys2Proof
end

