-- ==== Sys2Proof/Config.lean ====
section
/-! DEFINITION. The numbers the spec fixes for every part (capacities, limits, defaults), and the one value it
leaves unstated. -/

namespace Sys2Proof.Config

/-- The link table's positions (R1). -/
def linkCapacity : Nat := 1024
/-- The cells of one highway (R7). -/
def cellsPerHighway : Nat := 512
/-- The highest sequence the counter gives (R5). -/
def lastSequence : Nat := 16777215
/-- The places of each requester queue (R149). -/
def requesterPlaces : Nat := 16
/-- The frames the request buffer holds (R165), and the BUSY replies that may wait. -/
def bufferPlaces : Nat := 4
/-- The notices the queue holds (R170). -/
def noticePlaces : Nat := 32
/-- The queue length at which an OVERFLOW notice joins (R170). -/
def overflowLevel : Nat := 16
/-- The gap timer, in ms (R163). -/
def gapTime : Nat := 5
/-- The number of records in the episode history (R73). -/
def historyPlaces : Nat := 4
/-- The time counter wraps after 4,294,967,295 (R168). -/
def timeModulus : Nat := 4294967296
/-- The highest filtered value and threshold (R123, R125). -/
def voltageMax : Nat := 8191
/-- The sync byte (R174). -/
def sync : Byte := 0xA5
/-- The kind byte of a reply (R175). -/
def replyKind : Byte := 0x80

/-- UNVERIFIED, safe (log 13). The byte that stands for the position of a slot's switch in a GET SLOT reply: R177
gives the field one byte and 11.5 lists no code for it, so nothing is known of it here. -/
opaque switchCode : Bool → Byte

end Sys2Proof.Config
end

