-- ==== Sys2Proof/Machine/Types.lean ====
section
/-! DEFINITION. The data of the eight blocks: plain inductives and structures, in the spec's own names. -/

namespace Sys2Proof.Machine

/-! ### Link store (R1 to R7) -/

/-- The service classes, number 0 first (00_scope.md). -/
inductive LinkClass where
  | urgent | control | trunk | line
  deriving DecidableEq, Repr

/-- The seven highway sets (00_scope.md). -/
inductive HighwaySet where
  | h0 | h1 | h2 | h3 | h01 | h23 | h0123
  deriving DecidableEq, Repr

/-- The nine link states (R3). -/
inductive LinkState where
  | pending | suspect | verifying | preparing | ready | activating | carried | deferred | releasing
  deriving DecidableEq, Repr

/-- Why a link stands on the deferred list (R21). -/
inductive DeferReason where
  | hold | refused
  deriving DecidableEq, Repr

/-- The two ends of a link. -/
inductive LinkEnd where
  | a | b
  deriving DecidableEq, Repr

/-- One end of a link: slot and port, and the home slot while the end is remapped to the spare (R2, R11). -/
structure Endpoint where
  slot : SlotId
  port : Fin 32
  home : Option SlotId
  deriving DecidableEq, Repr

/-- The defer reason and the deferred at tag: present together, while the link is DEFERRED (R21). -/
structure Deferral where
  reason : DeferReason
  since : Nat
  deriving DecidableEq, Repr

/-- A record of the link table (R2). The width is the width of the highway set; ends attached is a mark for each
end. -/
structure Link where
  id : Nat
  cls : LinkClass
  seq : Nat
  epA : Endpoint
  epB : Endpoint
  hset : HighwaySet
  index : Nat
  state : LinkState
  deferral : Option Deferral
  late : Bool
  removal : Bool
  attA : Bool
  attB : Bool
  deriving DecidableEq, Repr

/-- A held cell of the highway cell map (R7): highway, cell index, and the link that holds it. -/
structure HeldCell where
  highway : Nat
  index : Nat
  link : Nat
  deriving DecidableEq, Repr

/-- The link store: the records by rising link id, the held cells (every other cell is FREE), and the sequence
counter, `none` when spent (R1, R5, R7). -/
structure LinkStore where
  links : List Link
  cells : List HeldCell
  seq : Option Nat
  deriving DecidableEq, Repr

/-! ### The card bus (R149 to R161, R178) -/

/-- The nine orders (R158). -/
inductive OrderCode where
  | identify | readPorts | writePorts | setTerm | attach | activate | detach | survey | clear
  deriving DecidableEq, Repr

/-- What the slot registry placed an order for (R83): it tells a WRITE PORTS of a loading from one of the write
set and from a run of the cover load, carries the term a SET TERM gives, and tells of a CLEAR whether the revert it was
placed for is still in progress (R117, R119). -/
inductive RegistryUse where
  | identify
  | loadRead
  | loadWrite
  | writeSet
  | coverRun (held : SlotId) (run : Nat)
  | setTerm (term : Nat)
  | clear (reverts : Bool)
  deriving DecidableEq, Repr

/-- What the relink engine's order names beside its bus fields (R28, R29): the link and the end; `current`, that
it was decided during the link's present start; `opened`, that its slot's switch has been opened since placement. -/
structure EngineTag where
  link : Nat
  lend : LinkEnd
  current : Bool
  opened : Bool
  deriving DecidableEq, Repr

/-- Who placed an order, and for what. -/
inductive Purpose where
  | registry (use : RegistryUse)
  | engine (etag : EngineTag)
  | passThrough
  deriving DecidableEq, Repr

/-- An order at the card bus controller or in the engine's backlog (R149): slot, order, first port, count, the
records it carries to the card as bytes, and its requester's purpose. -/
structure BusOrder where
  slot : SlotId
  code : OrderCode
  first : Nat
  count : Nat
  send : List (List Byte)
  purpose : Purpose
  deriving DecidableEq, Repr

/-- The three requesters (R149). -/
inductive Requester where
  | registry | relink | passThrough
  deriving DecidableEq, Repr

/-- A card's completion (R153, R178). -/
inductive Completion where
  | done | refused | fresh
  deriving DecidableEq, Repr

/-- An outcome delivered to a requester (R157). -/
inductive OrderOutcome where
  | done | refused | fresh | noAnswer
  deriving DecidableEq, Repr

/-- How an attempt stands when it is in RELEASE (R153, R161). -/
inductive Ending where
  | completed (c : Completion)
  | failed
  | cut
  deriving DecidableEq, Repr

/-- The phases in which the part waits on the card (R153). SELECT and the sending of the header take no wait. -/
inductive Phase where
  | acknowledge
  | header
  | data
  | complete
  | release (ending : Ending)
  deriving DecidableEq, Repr

/-- The transfer in progress (R149): its order as it was granted, which a cut transfer keeps until RELEASE ends (R161);
its requester; its phase; the records the card has given; how many records the card has taken; the time left of the
present wait. -/
structure Transfer where
  order : BusOrder
  requester : Requester
  phase : Phase
  given : List (List Byte)
  taken : Nat
  wait : Nat
  deriving DecidableEq, Repr

/-- The card bus controller (R149). -/
structure CardBus where
  registryQueue : List BusOrder
  relinkQueue : List BusOrder
  pass : Option BusOrder
  registryAttempts : Nat
  relinkAttempts : Nat
  passAttempts : Nat
  lastGranted : Requester
  transfer : Option Transfer
  paused : Bool
  phaseTimeout : Nat
  deriving DecidableEq, Repr

/-! ### Relink engine (R20 to R47, R66) -/

/-- Where an in-flight link started from (R22). -/
inductive Origin where
  | queue | deferred
  deriving DecidableEq, Repr

/-- The orders a present step waits for (R22). -/
inductive EngineStep where
  | survey | attach | activateA | activateB | detach | idle
  deriving DecidableEq, Repr

/-- An attachment record (R64, R178). -/
structure Attachment where
  active : Bool
  hset : HighwaySet
  index : Nat
  role : LinkEnd
  tag : Nat
  deriving DecidableEq, Repr

/-- An entry of the in-flight set (R22). The survey record of an end is `some none` for an absent attachment. -/
structure InFlight where
  link : Nat
  origin : Origin
  step : EngineStep
  refused : Bool
  outA : Option OrderOutcome
  outB : Option OrderOutcome
  recA : Option (Option Attachment)
  recB : Option (Option Attachment)
  deriving DecidableEq, Repr

/-- The hold timer while it runs (R34): the head it was started for, and the time left. -/
structure HoldTimer where
  head : Nat
  left : Nat
  deriving DecidableEq, Repr

/-- The compare mask (R66). -/
structure CompareMask where
  hset : Bool
  index : Bool
  role : Bool
  tag : Bool
  deriving DecidableEq, Repr

/-- The relink engine (R20 to R23, R28, R34, R66). -/
structure Engine where
  queue : List Nat
  deferred : List Nat
  inFlight : List InFlight
  backlog : List BusOrder
  hold : Option HoldTimer
  window : Nat
  holdTime : Nat
  mask : CompareMask
  deriving DecidableEq, Repr

/-! ### Slot registry (R75, R78, R97, R98, R109) -/

inductive Role where
  | working | spare
  deriving DecidableEq, Repr

inductive ShedPolicy where
  | keep | shed
  deriving DecidableEq, Repr

inductive MergeFunction where
  | stored | card | agree | fill
  deriving DecidableEq, Repr

/-- A set of merge groups (R75). -/
structure GroupSet where
  line : Bool
  level : Bool
  signal : Bool
  admin : Bool
  deriving DecidableEq, Repr

/-- A slot's plan (R75); a slot whose planned field is no has none. The return deadline is in seconds. -/
structure Plan where
  role : Role
  cardType : Nat
  minRevision : Nat
  portCount : Nat
  policy : ShedPolicy
  admissionRank : Nat
  inrush : Nat
  steady : Nat
  rampTime : Nat
  returnDeadline : Nat
  mergeFunction : MergeFunction
  mergeGroups : GroupSet
  coverEnabled : Bool
  deriving DecidableEq, Repr

/-- The eleven slot states (R79). -/
inductive SlotState where
  | vacant | off | dark | queued | ramping | held | identifying | loading | live | lost | covered
  deriving DecidableEq, Repr

/-- Why a slot was lost (R89). -/
inductive LossReason where
  | late | silent | mismatch | powerFault | retired
  deriving DecidableEq, Repr

/-- The latest identification (R78). -/
inductive Identification where
  | intact | fresh
  deriving DecidableEq, Repr

inductive AttentionCause where
  | none | restarted | alarm
  deriving DecidableEq, Repr

/-- The identity record (R84). -/
structure Identity where
  cardType : Nat
  revision : Nat
  portCount : Nat
  term : Nat
  storedConfig : Bool
  cause : AttentionCause
  deriving DecidableEq, Repr

/-- The registry's order for a slot at the card bus controller (R78, R83). -/
structure RegistryOrder where
  code : OrderCode
  abandoned : Bool
  deriving DecidableEq, Repr

/-- The step of a loading (R87); the merge is taken in one step and never rested in. -/
inductive LoadStep where
  | reads | writes | writeSet | setTerm
  deriving DecidableEq, Repr

/-- The progress of a loading: its step; its next run, 0..3, which rests at the last one once the write runs are done;
and for each port the groups the merge directed to be written (R78, R87, R101). -/
structure Loading where
  step : LoadStep
  next : Nat
  write : List GroupSet
  deriving DecidableEq, Repr

/-- A port record as a card reports it (R99): each group present or absent, values as given. -/
structure PortReport where
  line : Option (Nat × Nat)
  level : Option (Int × Int)
  signal : Option (Nat × Nat)
  admin : Option Bool
  deriving DecidableEq, Repr

/-- The spare's cover load (R109). -/
structure CoverLoad where
  runs : Nat
  done : Bool
  deriving DecidableEq, Repr

/-- A slot record (R75, R78, R98, R109). The deadline is `none` when stopped, else the ms left. -/
structure SlotRec where
  plan : Option Plan
  state : SlotState
  lostReason : Option LossReason
  storedTerm : Option Nat
  latestId : Option Identification
  identity : Option Identity
  order : Option RegistryOrder
  attention : Bool
  deadline : Option Nat
  loading : Option Loading
  readBuffer : List PortReport
  clearWanted : Bool
  writeSet : List (Fin 32)
  coveredSlot : Option SlotId
  coverLoad : Option CoverLoad
  coverReason : Option LossReason
  revertMark : Bool
  deriving DecidableEq, Repr

inductive TestState where
  | normal | loopInner | loopOuter
  deriving DecidableEq, Repr

/-- A port record of the port table (R97); `blocked` is the admin state BLOCKED. -/
structure PortRec where
  lineKind : Nat
  termination : Nat
  txLevel : Int
  rxLevel : Int
  scheme : Nat
  timing : Nat
  test : TestState
  blocked : Bool
  disagreed : Bool
  disagreements : Nat
  deriving DecidableEq, Repr

/-- The slot registry: sixteen slot records and the port table (R78, R97). -/
structure Registry where
  slots : Vector SlotRec 16
  ports : Vector (Vector PortRec 32) 16
  deriving DecidableEq, Repr

/-! ### Power sequencer (R135) -/

/-- DOWN or UP (R126). -/
inductive Supply where
  | down | up
  deriving DecidableEq, Repr

/-- A power record (R135); whether the slot is queued is its membership of the admission queue. -/
structure PowerRec where
  closed : Bool
  charge : Nat
  ramp : Option Nat
  dark : Option Nat
  trips : Nat
  deriving DecidableEq, Repr

/-- The power sequencer (R135, R138, R144). -/
structure PowerSequencer where
  recs : Vector PowerRec 16
  queue : List SlotId
  darkTime : Nat
  supply : Supply
  budget : Nat
  deriving DecidableEq, Repr

/-! ### Episode controller (R48, R60, R72, R73) -/

inductive ShelfState where
  | cold | standby | settling | holdup | recovering
  deriving DecidableEq, Repr

inductive EpisodeCause where
  | feed | drill
  deriving DecidableEq, Repr

/-- An episode record (R72). `frozen` is `none` until the first freeze sets it; it then reads 0. -/
structure Episode where
  number : Nat
  cause : EpisodeCause
  begun : Nat
  ended : Option Nat
  redips : Nat
  lowestFeed : Nat
  frozen : Option Nat
  verified : Nat
  inOrder : Nat
  late : Nat
  dropped : Nat
  deferredAtEnd : Option Nat
  slotsIntact : Nat
  slotsFresh : Nat
  slotsLost : Nat
  slotsCovered : Nat
  firstActivation : Option Nat
  deriving DecidableEq, Repr

/-- The episode controller (R48, R60, R73), with the supply status as last reported to it (R128). -/
structure EpisodeController where
  shelf : ShelfState
  history : List Episode
  counter : Nat
  supply : Supply
  deriving DecidableEq, Repr

/-! ### Feed monitor (R121 to R131) -/

inductive FeedStatus where
  | low | good
  deriving DecidableEq, Repr

/-- What a seeded feed holds (R121); the filtered value is the accumulator divided by 16. -/
structure FeedReading where
  acc : Nat
  status : FeedStatus
  deriving DecidableEq, Repr

/-- A feed record (R121); seeded is the presence of the reading. -/
structure Feed where
  present : Bool
  reading : Option FeedReading
  deriving DecidableEq, Repr

inductive Coincidence where
  | any | both
  deriving DecidableEq, Repr

/-- The feed monitor (R121, R123, R125 to R131). -/
structure FeedMonitor where
  feedA : Feed
  feedB : Feed
  depth : Nat
  low : Nat
  good : Nat
  coincidence : Coincidence
  supply : Supply
  armed : Bool
  armTimer : Option Nat
  armTime : Nat
  dips : Nat
  floor : Nat
  gain : Nat
  cap : Nat
  budget : Nat
  lastReported : Nat
  deriving DecidableEq, Repr

/-! ### Supervision port (R163 to R171, R175, R177) -/

inductive SupplyEvent where
  | armed | down | up
  deriving DecidableEq, Repr

inductive EpisodeEvent where
  | begun | ended
  deriving DecidableEq, Repr

inductive LinkEvent where
  | carried | late | deferred | dropped
  deriving DecidableEq, Repr

/-- A noticeable event as its block raises it (R47, R60, R71, R96, R103, R128); its time tag is the time counter
in that event. -/
inductive Event where
  | supply (event : SupplyEvent) (status : Supply) (filteredA filteredB : Option Nat) (budget dips : Nat)
  | episode (event : EpisodeEvent) (number : Nat) (cause : EpisodeCause) (redips : Nat)
  | slotState (slot : SlotId) (before after : SlotState) (reason : Option LossReason)
  | slotAlarm (slot : SlotId) (cause : AttentionCause)
  | slotDisagreed (slot : SlotId) (port : Nat) (groups : GroupSet)
  | link (event : LinkEvent) (id : Nat) (cls : LinkClass) (reason : Option DeferReason)
  | overflow (firstLoss : Nat)
  deriving DecidableEq, Repr

/-- A notice: an event with its time tag (R169). -/
structure Notice where
  event : Event
  time : Nat
  deriving DecidableEq, Repr

/-- The statuses of a reply, code 0 first (R175). -/
inductive Status where
  | ok | clamped | busy | badKind | badLength | badArg | state | full | notFound | portBusy | cellsTaken | noCells
  | badEndpoint | loadAbove
  deriving DecidableEq, Repr

/-- A received frame (R165): kind, tag and body. -/
structure Frame where
  kind : Byte
  tag : Byte
  body : List Byte
  deriving DecidableEq, Repr

/-- A reply (R175): the kind it answers, the tag, the status, the fields after the status, and whether it answers
the request in hand (R171). -/
structure Reply where
  kind : Byte
  tag : Byte
  status : Status
  fields : List Byte
  inHand : Bool
  deriving DecidableEq, Repr

/-- The receive framer (R163): in LENGTH the length bytes so far, in FRAME the length and the bytes after it. -/
inductive Framer where
  | hunt
  | length (got : List Byte)
  | frame (len : Nat) (got : List Byte)
  deriving DecidableEq, Repr

/-- What the sending line does (R171); a reply being sent is the oldest waiting reply. -/
inductive SendLine where
  | free
  | reply
  | notice (n : Notice)
  deriving DecidableEq, Repr

/-- The notice mask (R169). -/
structure NoticeMask where
  supply : Bool
  episode : Bool
  slot : Bool
  link : Bool
  deriving DecidableEq, Repr

/-- The supervision port (R163, R165, R169 to R171). `overflow` is the first loss tag while overflow is pending. -/
structure SupervisionPort where
  framer : Framer
  gap : Option Nat
  buffer : List Frame
  replies : List Reply
  notices : List Notice
  overflow : Option Nat
  mask : NoticeMask
  line : SendLine
  deriving DecidableEq, Repr

/-! ### The blocks that act on one another inside an event -/

/-- The outcome of the pass-through order on its way to the supervision port (R108): an outcome with the records
the card gave, or the end of the order at a freeze. -/
inductive PassOutcome where
  | outcome (o : OrderOutcome) (records : List (List Byte))
  | cut
  deriving DecidableEq, Repr

/-- The six blocks between the feed monitor and the supervision port, and what they have told the port in the
present event (00_scope.md, Block overview). -/
structure Blocks where
  reg : Registry
  power : PowerSequencer
  bus : CardBus
  store : LinkStore
  engine : Engine
  ep : EpisodeController
  raised : List Event
  passOutcome : Option PassOutcome
  deriving DecidableEq, Repr

end Sys2Proof.Machine
end

