-- ==== Sys2Proof/Machine/Operands.lean ====
section
/-! DEFINITION. Bytes, codes and layouts: how numbers, named values and sets stand in the bodies of frames (R174 to
R177) and in the records of the card bus (R178, R179). -/

namespace Sys2Proof.Machine

/-! ### Numbers (R174, R176) -/

/-- The low byte of a number. -/
def byte (n : Nat) : Byte := BitVec.ofNat 8 n
/-- Two bytes, high byte first. -/
def u16 (n : Nat) : List Byte := [byte (n / 256), byte n]
/-- Three bytes, high byte first. -/
def u24 (n : Nat) : List Byte := [byte (n / 65536), byte (n / 256), byte n]
/-- Four bytes, high byte first. -/
def u32 (n : Nat) : List Byte := [byte (n / 16777216), byte (n / 65536), byte (n / 256), byte n]
/-- The number two bytes spell, high byte first. -/
def ofU16 (hi lo : Byte) : Nat := hi.toNat * 256 + lo.toNat
/-- A signed level byte, -128..127. -/
def levelByte (n : Int) : Byte := BitVec.ofInt 8 n
/-- A number brought to the nearer limit of a range (R167). -/
def clamp (lo hi n : Nat) : Nat := max lo (min hi n)
/-- A level brought to the nearer limit of a range (R105). -/
def clampInt (lo hi n : Int) : Int := max lo (min hi n)
/-- A count that saturates (00_scope.md). -/
def satAdd (limit n : Nat) : Nat := min (n + 1) limit

/-- Presence bits and sets, bit 0 first (R176). -/
def bitsOf : List Bool → Nat
  | [] => 0
  | b :: bs => b.toNat + 2 * bitsOf bs

/-! ### Named values (R176, 11.5) -/

/-- yes 1, no 0. -/
def yesNo (v : Bool) : Byte := if v then 1 else 0
/-- yes or no sent as anything but 1 or 0 is no named value (R176). -/
def readYesNo (b : Byte) : Option Bool := if b = 0 then some false else if b = 1 then some true else none

def LinkClass.code : LinkClass → Nat
  | .urgent => 0 | .control => 1 | .trunk => 2 | .line => 3
def LinkClass.ofCode : Nat → Option LinkClass
  | 0 => some .urgent | 1 => some .control | 2 => some .trunk | 3 => some .line | _ => none

def HighwaySet.code : HighwaySet → Nat
  | .h0 => 0 | .h1 => 1 | .h2 => 2 | .h3 => 3 | .h01 => 4 | .h23 => 5 | .h0123 => 6
def HighwaySet.ofCode : Nat → Option HighwaySet
  | 0 => some .h0 | 1 => some .h1 | 2 => some .h2 | 3 => some .h3 | 4 => some .h01 | 5 => some .h23
  | 6 => some .h0123 | _ => none
/-- The highways of a set (00_scope.md). -/
def HighwaySet.highways : HighwaySet → List Nat
  | .h0 => [0] | .h1 => [1] | .h2 => [2] | .h3 => [3] | .h01 => [0, 1] | .h23 => [2, 3] | .h0123 => [0, 1, 2, 3]
/-- The width of a set (00_scope.md). -/
def HighwaySet.width (h : HighwaySet) : Nat := h.highways.length

def LinkState.code : LinkState → Nat
  | .pending => 0 | .suspect => 1 | .verifying => 2 | .preparing => 3 | .ready => 4 | .activating => 5
  | .carried => 6 | .deferred => 7 | .releasing => 8
def LinkState.ofCode : Nat → Option LinkState
  | 0 => some .pending | 1 => some .suspect | 2 => some .verifying | 3 => some .preparing | 4 => some .ready
  | 5 => some .activating | 6 => some .carried | 7 => some .deferred | 8 => some .releasing | _ => none

def DeferReason.code : DeferReason → Nat
  | .hold => 0 | .refused => 1
def LinkEnd.code : LinkEnd → Nat
  | .a => 0 | .b => 1
def Supply.code : Supply → Nat
  | .down => 0 | .up => 1
def ShelfState.code : ShelfState → Nat
  | .cold => 0 | .standby => 1 | .settling => 2 | .holdup => 3 | .recovering => 4
def Coincidence.code : Coincidence → Nat
  | .any => 0 | .both => 1
def Coincidence.ofCode : Nat → Option Coincidence
  | 0 => some .any | 1 => some .both | _ => none
def SlotState.code : SlotState → Nat
  | .vacant => 0 | .off => 1 | .dark => 2 | .queued => 3 | .ramping => 4 | .held => 5 | .identifying => 6
  | .loading => 7 | .live => 8 | .lost => 9 | .covered => 10
def LossReason.code : LossReason → Nat
  | .late => 0 | .silent => 1 | .mismatch => 2 | .powerFault => 3 | .retired => 4
def Role.code : Role → Nat
  | .working => 0 | .spare => 1
def Role.ofCode : Nat → Option Role
  | 0 => some .working | 1 => some .spare | _ => none
def ShedPolicy.code : ShedPolicy → Nat
  | .keep => 0 | .shed => 1
def ShedPolicy.ofCode : Nat → Option ShedPolicy
  | 0 => some .keep | 1 => some .shed | _ => none
def MergeFunction.code : MergeFunction → Nat
  | .stored => 0 | .card => 1 | .agree => 2 | .fill => 3
def MergeFunction.ofCode : Nat → Option MergeFunction
  | 0 => some .stored | 1 => some .card | 2 => some .agree | 3 => some .fill | _ => none
def Identification.code : Identification → Nat
  | .intact => 0 | .fresh => 1
def TestState.code : TestState → Nat
  | .normal => 0 | .loopInner => 1 | .loopOuter => 2
def TestState.ofCode : Nat → Option TestState
  | 0 => some .normal | 1 => some .loopInner | 2 => some .loopOuter | _ => none
def EpisodeCause.code : EpisodeCause → Nat
  | .feed => 0 | .drill => 1
/-- The order codes; 0 is none. -/
def OrderCode.code : OrderCode → Nat
  | .identify => 1 | .readPorts => 2 | .writePorts => 3 | .setTerm => 4 | .attach => 5 | .activate => 6
  | .detach => 7 | .survey => 8 | .clear => 9
def AttentionCause.code : AttentionCause → Nat
  | .none => 0 | .restarted => 1 | .alarm => 2
def AttentionCause.ofCode : Nat → Option AttentionCause
  | 0 => some .none | 1 => some .restarted | 2 => some .alarm | _ => none
def Completion.ofCode : Nat → Option Completion
  | 0 => some .done | 1 => some .refused | 2 => some .fresh | _ => none
/-- The CARD PORTS completion codes (11.4). -/
def OrderOutcome.code : OrderOutcome → Nat
  | .done => 0 | .refused => 1 | .fresh => 2 | .noAnswer => 3
/-- The status codes (R175). -/
def Status.code : Status → Nat
  | .ok => 0 | .clamped => 1 | .busy => 2 | .badKind => 3 | .badLength => 4 | .badArg => 5 | .state => 6
  | .full => 7 | .notFound => 8 | .portBusy => 9 | .cellsTaken => 10 | .noCells => 11 | .badEndpoint => 12
  | .loadAbove => 13
def SupplyEvent.code : SupplyEvent → Nat
  | .armed => 0 | .down => 1 | .up => 2
def EpisodeEvent.code : EpisodeEvent → Nat
  | .begun => 0 | .ended => 1
def LinkEvent.code : LinkEvent → Nat
  | .carried => 0 | .late => 2 | .deferred => 3 | .dropped => 4
/-- merge groups: bit 0 LINE, bit 1 LEVEL, bit 2 SIGNAL, bit 3 ADMIN. -/
def GroupSet.bits (g : GroupSet) : Nat := bitsOf [g.line, g.level, g.signal, g.admin]
/-- A bit set that names no item is refused (R176). -/
def GroupSet.ofBits (n : Nat) : Option GroupSet :=
  if n < 16 then some { line := n.testBit 0, level := n.testBit 1, signal := n.testBit 2, admin := n.testBit 3 }
  else none
/-- compare mask: bit 0 highway set, bit 1 cell index, bit 2 role, bit 3 tag. -/
def CompareMask.bits (m : CompareMask) : Nat := bitsOf [m.hset, m.index, m.role, m.tag]
def CompareMask.ofBits (n : Nat) : Option CompareMask :=
  if n < 16 then some { hset := n.testBit 0, index := n.testBit 1, role := n.testBit 2, tag := n.testBit 3 } else none

/-- An identifier of a slot, refused outside 0..15. -/
def readSlot (b : Byte) : Option SlotId := if h : b.toNat < 16 then some ⟨b.toNat, h⟩ else none
/-- An identifier of a port, refused outside 0..31. -/
def readPort (b : Byte) : Option (Fin 32) := if h : b.toNat < 32 then some ⟨b.toNat, h⟩ else none

/-! ### The check and the frame (R174) -/

/-- One message bit taken into the remainder. -/
def crcBit (r : BitVec 16) (bit : Bool) : BitVec 16 :=
  if r.msb != bit then (r <<< 1) ^^^ 0x1021 else r <<< 1

/-- One byte taken into the remainder, most significant bit first. -/
def crcByte (r : BitVec 16) (b : Byte) : BitVec 16 :=
  [7, 6, 5, 4, 3, 2, 1, 0].foldl (fun r i => crcBit r (b.getLsbD i)) r

/-- R174: the CRC-16 of the covered bytes, from a remainder of all ones. -/
def crc16 (bytes : List Byte) : BitVec 16 := bytes.foldl crcByte 0xFFFF

/-- The bytes a frame's check covers: length, kind, tag and body. -/
def Frame.covered (f : Frame) : List Byte := u16 (f.body.length + 2) ++ f.kind :: f.tag :: f.body

/-- R174: a frame as it stands on the line. -/
def Frame.wire (f : Frame) : List Byte := Config.sync :: f.covered ++ u16 (crc16 f.covered).toNat

/-- R175: a reply's frame. -/
def Reply.frame (r : Reply) : Frame :=
  { kind := Config.replyKind, tag := r.tag, body := r.kind :: byte r.status.code :: r.fields }

/-- The kind byte of a notice (R175). -/
def Event.kind : Event → Byte
  | .supply .. => 0x40
  | .episode .. => 0x41
  | .slotState .. => 0x42
  | .slotAlarm .. => 0x42
  | .slotDisagreed .. => 0x42
  | .link .. => 0x43
  | .overflow .. => 0x44

/-- The body of a notice, in the layout of 11.4. -/
def Notice.body (n : Notice) : List Byte :=
  match n.event with
  | .supply e status fa fb budget dips =>
    [byte e.code, byte status.code, byte (bitsOf [fa.isSome, fb.isSome])] ++ u16 (fa.getD 0) ++ u16 (fb.getD 0)
      ++ u16 budget ++ u16 dips ++ u32 n.time
  | .episode e number cause redips => byte e.code :: u16 number ++ byte cause.code :: u32 n.time ++ u16 redips
  | .slotState slot before after reason =>
    [0, byte slot.val, byte before.code, byte after.code, byte ((reason.map LossReason.code).getD 0)] ++ u32 n.time
  | .slotAlarm slot cause => [1, byte slot.val, byte cause.code, 0, 0] ++ u32 n.time
  | .slotDisagreed slot port groups => [2, byte slot.val, byte port, byte groups.bits, 0] ++ u32 n.time
  | .link e id cls reason =>
    byte e.code :: u16 id ++ [byte cls.code, byte ((reason.map DeferReason.code).getD 0)] ++ u32 n.time
  | .overflow firstLoss => u32 firstLoss ++ u32 n.time

/-- A notice's frame, with tag 0 (R171). -/
def Notice.frame (n : Notice) : Frame := { kind := n.event.kind, tag := 0, body := n.body }

/-- R177: the body lengths allowed for a request kind; `none` for a kind that is no request kind (R175). -/
def allowedLengths (kind : Byte) : Option (List Nat) :=
  match kind.toNat with
  | 0x01 => some [10] | 0x02 => some [6] | 0x03 => some [7] | 0x04 => some [4] | 0x05 => some [2, 19]
  | 0x06 => some [0] | 0x07 => some [1] | 0x08 => some [0] | 0x09 => some [0] | 0x0A => some [1]
  | 0x0B => some [1] | 0x0C => some [9] | 0x0D => some [2] | 0x0E => some [2] | 0x0F => some [2]
  | 0x10 => some [8] | 0x11 => some [11] | 0x12 => some [2] | 0x13 => some [3] | 0x14 => some [1]
  | 0x15 => some [1] | 0x16 => some [1] | _ => none

/-! ### Records a card gives (R178, R179) -/

/-- R179, Identity: the record, or `none` when it fails its layout. -/
def readIdentity : List Byte → Option Identity
  | [type, revision, ports, term, stored, cause] =>
    match readYesNo stored, AttentionCause.ofCode cause.toNat with
    | some s, some c =>
      if revision.toNat ≤ 15 ∧ ports.toNat ≤ 32 then
        some { cardType := type.toNat, revision := revision.toNat, portCount := ports.toNat, term := term.toNat,
               storedConfig := s, cause := c }
      else none
    | _, _ => none
  | _ => none

/-- R179, Attachment: `some none` is the absent record; `none` a record that fails its layout. -/
def readAttachment : List Byte → Option (Option Attachment)
  | [flags, hset, i1, i0, role, t1, t0] =>
    if flags.toNat = 0 then some none
    else if flags.toNat = 1 ∨ flags.toNat = 3 then
      match HighwaySet.ofCode hset.toNat with
      | some h =>
        if ofU16 i1 i0 ≤ 511 ∧ role.toNat ≤ 1 ∧ ofU16 t1 t0 ≤ 1023 then
          some (some { active := flags.toNat = 3, hset := h, index := ofU16 i1 i0,
                       role := if role.toNat = 0 then .a else .b, tag := ofU16 t1 t0 })
        else none
      | none => none
    else none
  | _ => none

/-- R99, R179, Port record: the groups a card reports; the TEST group is read and disregarded, and of ADMIN bit 0
is read. -/
def readPortReport : List Byte → Option PortReport
  | [presence, kind, termination, tx, rx, scheme, timing, _test, admin] =>
    if presence.toNat < 32 then
      some { line := if presence.getLsbD 0 then some (kind.toNat, termination.toNat) else none
             level := if presence.getLsbD 1 then some (tx.toInt, rx.toInt) else none
             signal := if presence.getLsbD 2 then some (scheme.toNat, timing.toNat) else none
             admin := if presence.getLsbD 4 then some (admin.getLsbD 0) else none }
    else none
  | _ => none

/-- R108, R176: a reported record as a CARD PORTS reply carries it: present groups as given, absent groups 0
(DEDUCED, unsafe, log 22). -/
def relayPortRecord : List Byte → List Byte
  | [presence, kind, termination, tx, rx, scheme, timing, test, admin] =>
    let keep (i : Nat) (b : Byte) : Byte := if presence.getLsbD i then b else 0
    [presence, keep 0 kind, keep 0 termination, keep 1 tx, keep 1 rx, keep 2 scheme, keep 2 timing, keep 3 test,
     keep 4 admin]
  | other => other

/-- The record an order asks of the card passes its layout (R158, R179). -/
def recordFits (code : OrderCode) (bytes : List Byte) : Bool :=
  match code with
  | .identify => (readIdentity bytes).isSome
  | .readPorts => (readPortReport bytes).isSome
  | .survey => (readAttachment bytes).isSome
  | _ => true

/-! ### Records the part sends (R178) -/

/-- A port record with the groups given, the TEST group as given, every other group absent (R99). -/
def portRecordBytes (groups : GroupSet) (test : TestState) (p : PortRec) : List Byte :=
  let keep (v : Bool) (b : Byte) : Byte := if v then b else 0
  [byte (bitsOf [groups.line, groups.level, groups.signal, true, groups.admin]),
   keep groups.line (byte p.lineKind), keep groups.line (byte p.termination),
   keep groups.level (levelByte p.txLevel), keep groups.level (levelByte p.rxLevel),
   keep groups.signal (byte p.scheme), keep groups.signal (byte p.timing),
   byte test.code, keep groups.admin (yesNo p.blocked)]

/-- ATTACH's attachment: present set, active clear. -/
def attachmentBytes (hset : HighwaySet) (index : Nat) (role : LinkEnd) (tag : Nat) : List Byte :=
  [1, byte hset.code] ++ u16 index ++ byte role.code :: u16 tag

/-- R178: the header of a transfer: order code, first port, count. -/
def BusOrder.header (o : BusOrder) : List Byte := [byte o.code.code, byte o.first, byte o.count]

/-- How many records the card gives for an order (R158). -/
def BusOrder.fromCard (o : BusOrder) : Nat :=
  match o.code with
  | .identify => 1
  | .readPorts => o.count
  | .survey => 1
  | _ => 0

/-- How many records move in the DATA phase of the order, in either direction (R153). -/
def BusOrder.records (o : BusOrder) : Nat := o.fromCard + o.send.length

/-! ### Fields of requests -/

/-- R76 step 1: the plan fields of a LOAD SLOT of 19 bytes, each in its range; ramp time and return deadline as
carried, since step 4 clamps them. Steady is judged against 1..2000 here and against inrush at step 3 (DEDUCED,
unsafe, log 12). -/
def readPlan : List Byte → Option Plan
  | [role, type, minRev, ports, policy, rank, in1, in0, st1, st0, ra1, ra0, de1, de0, fn, groups, cover] =>
    match Role.ofCode role.toNat, ShedPolicy.ofCode policy.toNat, MergeFunction.ofCode fn.toNat,
        GroupSet.ofBits groups.toNat, readYesNo cover with
    | some role, some policy, some fn, some groups, some cover =>
      if 1 ≤ type.toNat ∧ minRev.toNat ≤ 15 ∧ 1 ≤ ports.toNat ∧ ports.toNat ≤ 32 ∧ rank.toNat ≤ 3
          ∧ 1 ≤ ofU16 in1 in0 ∧ ofU16 in1 in0 ≤ 2000 ∧ 1 ≤ ofU16 st1 st0 ∧ ofU16 st1 st0 ≤ 2000 then
        some { role, cardType := type.toNat, minRevision := minRev.toNat, portCount := ports.toNat, policy,
               admissionRank := rank.toNat, inrush := ofU16 in1 in0, steady := ofU16 st1 st0,
               rampTime := ofU16 ra1 ra0, returnDeadline := ofU16 de1 de0, mergeFunction := fn,
               mergeGroups := groups, coverEnabled := cover }
      else none
    | _, _, _, _, _ => none
  | _ => none

/-- The plan's 18 bytes in a GET SLOT reply, planned onward; 0 after planned for a VACANT slot (11.4). -/
def planBytes : Option Plan → List Byte
  | none => List.replicate 18 0
  | some p =>
    [1, byte p.role.code, byte p.cardType, byte p.minRevision, byte p.portCount, byte p.policy.code,
     byte p.admissionRank] ++ u16 p.inrush ++ u16 p.steady ++ u16 p.rampTime ++ u16 p.returnDeadline
      ++ [byte p.mergeFunction.code, byte p.mergeGroups.bits, yesNo p.coverEnabled]

/-- The identity's six bytes (11.6), 0 when absent. -/
def identityBytes : Option Identity → List Byte
  | none => List.replicate 6 0
  | some i =>
    [byte i.cardType, byte i.revision, byte i.portCount, byte i.term, yesNo i.storedConfig, byte i.cause.code]

/-- R105: the fields a SET PORT carries, each group present or absent; levels as carried, since step 2 clamps. -/
structure PortFields where
  line : Option (Nat × Nat)
  level : Option (Int × Int)
  signal : Option (Nat × Nat)
  test : Option TestState
  admin : Option Bool
  deriving DecidableEq, Repr

/-- A field read where its group is present: `none` is a refusal, `some none` an absent group. -/
def whenPresent {α : Type} (present : Bool) (value : Option α) : Option (Option α) :=
  if present then value.map some else some none

/-- R105 step 1 over the nine bytes from presence onward. -/
def readPortFields : List Byte → Option PortFields
  | [presence, kind, termination, tx, rx, scheme, timing, test, admin] =>
    if presence.toNat < 32 then
      match whenPresent (presence.getLsbD 0)
              (if kind.toNat ≤ 15 ∧ termination.toNat ≤ 3 then some (kind.toNat, termination.toNat) else none),
            whenPresent (presence.getLsbD 2)
              (if scheme.toNat ≤ 7 ∧ timing.toNat ≤ 15 then some (scheme.toNat, timing.toNat) else none),
            whenPresent (presence.getLsbD 3) (TestState.ofCode test.toNat),
            whenPresent (presence.getLsbD 4) (readYesNo admin) with
      | some line, some signal, some test, some admin =>
        some { line, level := if presence.getLsbD 1 then some (tx.toInt, rx.toInt) else none, signal, test, admin }
      | _, _, _, _ => none
    else none
  | _ => none

/-- R19: a FIND LINKS pattern. -/
structure Pattern where
  cls : Option LinkClass
  slot : Option SlotId
  state : Option LinkState
  width : Option Nat
  hset : Option HighwaySet
  deriving DecidableEq, Repr

/-- R19: a highway set and a width that are both present agree. -/
def Pattern.agrees (p : Pattern) : Bool :=
  match p.hset, p.width with
  | some h, some w => h.width == w
  | _, _ => true

/-- A width of 1, 2 or 4. -/
def readWidth (b : Byte) : Option Nat :=
  if b.toNat = 1 ∨ b.toNat = 2 ∨ b.toNat = 4 then some b.toNat else none

/-- R19: the pattern and the starting id of a FIND LINKS, or `none` where it is refused. -/
def readPattern : List Byte → Option (Pattern × Nat)
  | [presence, cls, slot, state, width, hset, s1, s0] =>
    if presence.toNat < 32 ∧ ofU16 s1 s0 < 1024 then
      match whenPresent (presence.getLsbD 0) (LinkClass.ofCode cls.toNat),
            whenPresent (presence.getLsbD 1) (readSlot slot),
            whenPresent (presence.getLsbD 2) (LinkState.ofCode state.toNat),
            whenPresent (presence.getLsbD 3) (readWidth width),
            whenPresent (presence.getLsbD 4) (HighwaySet.ofCode hset.toNat) with
      | some cls, some slot, some state, some width, some hset =>
        let p : Pattern := { cls, slot, state, width, hset }
        if p.agrees then some (p, ofU16 s1 s0) else none
      | _, _, _, _, _ => none
    else none
  | _ => none

/-- R13: what a CREATE LINK carries. -/
structure LinkRequest where
  cls : LinkClass
  slotA : SlotId
  portA : Fin 32
  slotB : SlotId
  portB : Fin 32
  width : Nat
  place : Option (HighwaySet × Nat)
  deriving DecidableEq, Repr

/-- R13 step 1 over the nine bytes of a CREATE LINK; a set of 0xFF and an index of 0xFFFF are absent. -/
def readLinkRequest : List Byte → Option LinkRequest
  | [cls, sa, pa, sb, pb, width, hset, i1, i0] =>
    match LinkClass.ofCode cls.toNat, readSlot sa, readPort pa, readSlot sb, readPort pb, readWidth width with
    | some cls, some slotA, some portA, some slotB, some portB, some width =>
      if hset.toNat = 0xFF ∧ ofU16 i1 i0 = 0xFFFF then
        some { cls, slotA, portA, slotB, portB, width, place := none }
      else
        match HighwaySet.ofCode hset.toNat with
        | some h =>
          if ofU16 i1 i0 ≤ 511 ∧ h.width = width then
            some { cls, slotA, portA, slotB, portB, width, place := some (h, ofU16 i1 i0) }
          else none
        | none => none
    | _, _, _, _, _, _ => none
  | _ => none

end Sys2Proof.Machine
end

