-- ==== Sys2Proof/Machine/State.lean ====
section
/-! DEFINITION. The state of the part, how a step may stop, and the state right after reset. -/

namespace Sys2Proof.Machine

/-- The part: the blocks, the feed monitor, the supervision port, the time counter (R168), whether the reset pin
is held (R172), and the commands waiting, first in first out. -/
structure State where
  blk : Blocks
  feed : FeedMonitor
  port : SupervisionPort
  time : Nat
  resetHeld : Bool
  pending : List Instr
  deriving DecidableEq, Repr

/-- The part has no machine fault: no command raises one, so the type has no constructor. -/
inductive Fault where
  deriving DecidableEq, Repr

/-- How a command may be turned away. -/
inductive Refusal where
  /-- An instruction without a meaning; safe. Raised by no arm: every command has its meaning. -/
  | notModelled (mnemonic : String)
  deriving DecidableEq, Repr

/-- R97, the reset column of the port table. -/
def PortRec.reset : PortRec :=
  { lineKind := 0, termination := 0, txLevel := 0, rxLevel := 0, scheme := 0, timing := 0, test := .normal,
    blocked := false, disagreed := false, disagreements := 0 }

/-- R75, R78, R98, R109: a slot record at reset. -/
def SlotRec.reset : SlotRec :=
  { plan := none, state := .vacant, lostReason := none, storedTerm := none, latestId := none, identity := none,
    order := none, attention := false, deadline := none, loading := none, readBuffer := [], clearWanted := false,
    writeSet := [], coveredSlot := none, coverLoad := none, coverReason := none, revertMark := false }

/-- R135: a power record at reset. -/
def PowerRec.reset : PowerRec := { closed := false, charge := 0, ramp := none, dark := none, trips := 0 }

/-- R78, R97. -/
def Registry.reset : Registry :=
  { slots := Vector.replicate 16 SlotRec.reset, ports := Vector.replicate 16 (Vector.replicate 32 PortRec.reset) }

/-- R135. -/
def PowerSequencer.reset : PowerSequencer :=
  { recs := Vector.replicate 16 PowerRec.reset, queue := [], darkTime := 500, supply := .down, budget := 0 }

/-- R149, R154. -/
def CardBus.reset : CardBus :=
  { registryQueue := [], relinkQueue := [], pass := none, registryAttempts := 0, relinkAttempts := 0,
    passAttempts := 0, lastGranted := .passThrough, transfer := none, paused := false, phaseTimeout := 10 }

/-- R1, R5, R7. -/
def LinkStore.reset : LinkStore := { links := [], cells := [], seq := some 0 }

/-- R20 to R23, R28, R34, R66. -/
def Engine.reset : Engine :=
  { queue := [], deferred := [], inFlight := [], backlog := [], hold := none, window := 4, holdTime := 10000,
    mask := { hset := true, index := true, role := true, tag := true } }

/-- R48, R60, R73, R128. -/
def EpisodeController.reset : EpisodeController := { shelf := .cold, history := [], counter := 0, supply := .down }

/-- R121 to R131. -/
def FeedMonitor.reset : FeedMonitor :=
  { feedA := { present := true, reading := none }, feedB := { present := true, reading := none }, depth := 3,
    low := 4000, good := 4300, coincidence := .any, supply := .down, armed := false, armTimer := none,
    armTime := 1000, dips := 0, floor := 4000, gain := 32, cap := 600, budget := 0, lastReported := 0 }

/-- R163, R165, R169 to R171. -/
def SupervisionPort.reset : SupervisionPort :=
  { framer := .hunt, gap := none, buffer := [], replies := [], notices := [], overflow := none,
    mask := { supply := true, episode := true, slot := true, link := true }, line := .free }

/-- The blocks at reset (R172). -/
def Blocks.reset : Blocks :=
  { reg := .reset, power := .reset, bus := .reset, store := .reset, engine := .reset, ep := .reset, raised := [],
    passOutcome := none }

/-- The part right after reset (R172): every block at its reset values, the time counter at 0, the pin released
(DEDUCED, log 5), and no command waiting. -/
def State.reset : State :=
  { blk := .reset, feed := .reset, port := .reset, time := 0, resetHeld := false, pending := [] }

end Sys2Proof.Machine
end

