-- ==== Sys2Proof/Machine/Ops.lean ====
section
/-! DEFINITION. The named operations over one block's data: reading and writing a slot record, a power record, a
port record, a link record, an in-flight entry, the open episode record, and raising a notice. -/

namespace Sys2Proof.Machine

/-- The sixteen slots, lowest first. -/
def allSlots : List SlotId := List.finRange 16

/-- The ports of a card below a port count, lowest first. -/
def portsBelow (n : Nat) : List (Fin 32) := (List.finRange 32).filter (fun p => p.val < n)

/-! ### Slot registry -/

def Blocks.slot (b : Blocks) (i : SlotId) : SlotRec := b.reg.slots[i]

def Blocks.modSlot (b : Blocks) (i : SlotId) (f : SlotRec → SlotRec) : Blocks :=
  { b with reg := { b.reg with slots := b.reg.slots.set i.val (f b.reg.slots[i]) i.isLt } }

def Blocks.port (b : Blocks) (i : SlotId) (p : Fin 32) : PortRec := b.reg.ports[i][p]

def Blocks.modPort (b : Blocks) (i : SlotId) (p : Fin 32) (f : PortRec → PortRec) : Blocks :=
  { b with reg := { b.reg with
      ports := b.reg.ports.set i.val (b.reg.ports[i].set p.val (f b.reg.ports[i][p]) p.isLt) i.isLt } }

/-- Whether a slot state is one with the switch closed (R79). -/
def SlotState.powered : SlotState → Bool
  | .ramping | .held | .identifying | .loading | .live => true
  | .vacant | .off | .dark | .queued | .lost | .covered => false

/-- Whether the return deadline may run in a slot state (R79). -/
def SlotState.timed : SlotState → Bool
  | .ramping | .identifying | .loading => true
  | .vacant | .off | .dark | .queued | .held | .live | .lost | .covered => false

/-- A slot record in a new state, with the presence rules of R78 and R79: the lost reason only while LOST, the
latest identification until HELD or unpowered, the identity until unpowered, the deadline only in the states that
time it, the loading and the read buffer only in LOADING. -/
def SlotRec.enter (r : SlotRec) (st : SlotState) : SlotRec :=
  { r with
    state := st
    lostReason := if st = .lost then r.lostReason else none
    latestId := if st.powered && st != .held then r.latestId else none
    identity := if st.powered then r.identity else none
    deadline := if st.timed then r.deadline else none
    loading := if st = .loading then r.loading else none
    readBuffer := if st = .loading then r.readBuffer else [] }

/-- R75: the return deadline of a slot's plan in ms. -/
def SlotRec.deadlineTime (r : SlotRec) : Nat := ((r.plan.map Plan.returnDeadline).getD 0) * 1000

/-- R86: the next term of a slot, never 0. -/
def SlotRec.nextTerm (r : SlotRec) : Nat :=
  match r.storedTerm with
  | none => 1
  | some t => if t < 255 then t + 1 else 1

/-! ### Power sequencer -/

def Blocks.powerRec (b : Blocks) (i : SlotId) : PowerRec := b.power.recs[i]

def Blocks.modPower (b : Blocks) (i : SlotId) (f : PowerRec → PowerRec) : Blocks :=
  { b with power := { b.power with recs := b.power.recs.set i.val (f b.power.recs[i]) i.isLt } }

/-- R136: the admitted load, the sum of the charges. -/
def PowerSequencer.load (p : PowerSequencer) : Nat := (p.recs.toList.map PowerRec.charge).sum

/-! ### Episode controller -/

/-- R48: the newest record while it is open. -/
def EpisodeController.openRecord (ep : EpisodeController) : Option Episode :=
  match ep.history with
  | e :: _ => if e.ended.isNone then some e else none
  | [] => none

/-- R48: whether an episode is open. -/
def EpisodeController.isOpen (ep : EpisodeController) : Bool := ep.openRecord.isSome

/-- A change of the open record; nothing while none is open (R73: fields are changed only while it is open). -/
def EpisodeController.modOpen (ep : EpisodeController) (f : Episode → Episode) : EpisodeController :=
  match ep.history with
  | e :: rest => if e.ended.isNone then { ep with history := f e :: rest } else ep
  | [] => ep

/-- R69: a count in the open record. -/
def Blocks.tally (b : Blocks) (f : Episode → Episode) : Blocks := { b with ep := b.ep.modOpen f }

def Episode.countVerified (e : Episode) : Episode := { e with verified := satAdd 65535 e.verified }
def Episode.countInOrder (e : Episode) : Episode := { e with inOrder := satAdd 65535 e.inOrder }
def Episode.countLate (e : Episode) : Episode := { e with late := satAdd 65535 e.late }
def Episode.countDropped (e : Episode) : Episode := { e with dropped := satAdd 65535 e.dropped }
def Episode.countSlotIntact (e : Episode) : Episode := { e with slotsIntact := satAdd 65535 e.slotsIntact }
def Episode.countSlotFresh (e : Episode) : Episode := { e with slotsFresh := satAdd 65535 e.slotsFresh }
def Episode.countSlotLost (e : Episode) : Episode := { e with slotsLost := satAdd 65535 e.slotsLost }
def Episode.countSlotCovered (e : Episode) : Episode := { e with slotsCovered := satAdd 65535 e.slotsCovered }
/-- R69: the first activation tag, kept once set. -/
def Episode.noteActivation (t : Nat) (e : Episode) : Episode :=
  { e with firstActivation := some (e.firstActivation.getD t) }

/-! ### Notices on their way to the port -/

def Blocks.raise (b : Blocks) (e : Event) : Blocks := { b with raised := b.raised ++ [e] }

/-! ### Link store -/

def Link.endpoint (l : Link) : LinkEnd → Endpoint
  | .a => l.epA
  | .b => l.epB

/-- Ends attached, for one end (R2). -/
def Link.attached (l : Link) : LinkEnd → Bool
  | .a => l.attA
  | .b => l.attB

def Link.setAttached (l : Link) (e : LinkEnd) (v : Bool) : Link :=
  match e with
  | .a => { l with attA := v }
  | .b => { l with attB := v }

/-- Ends attached is none. -/
def Link.noneAttached (l : Link) : Bool := !l.attA && !l.attB

/-- R12: the slots an endpoint names. -/
def Endpoint.names (e : Endpoint) (s : SlotId) : Bool := e.slot == s || e.home == some s

/-- R12: two endpoints collide. -/
def Endpoint.collides (e f : Endpoint) : Bool := e.port == f.port && (f.names e.slot || (e.home.any f.names))

/-- R12: a link references a slot. -/
def Link.references (l : Link) (s : SlotId) : Bool := l.epA.names s || l.epB.names s

/-- An endpoint of the link stands on the slot. -/
def Link.endsOn (l : Link) (s : SlotId) : Bool := l.epA.slot == s || l.epB.slot == s

/-- R4: the first link ranks higher. -/
def Link.above (l m : Link) : Bool :=
  decide (l.cls.code < m.cls.code) || (l.cls.code == m.cls.code && decide (l.seq < m.seq))

def LinkStore.find (st : LinkStore) (id : Nat) : Option Link := st.links.find? (fun l => l.id == id)

def Blocks.link (b : Blocks) (id : Nat) : Option Link := b.store.find id

def Blocks.mapLinks (b : Blocks) (f : Link → Link) : Blocks :=
  { b with store := { b.store with links := b.store.links.map f } }

def Blocks.modLink (b : Blocks) (id : Nat) (f : Link → Link) : Blocks :=
  b.mapLinks (fun l => if l.id = id then f l else l)

/-- R1: a record joins the table at its id. -/
def insertLink (l : Link) : List Link → List Link
  | [] => [l]
  | m :: ms => if l.id < m.id then l :: m :: ms else m :: insertLink l ms

/-- R1: the lowest free position at or above `at`, if one is free. -/
def lowestFree (links : List Link) : (fuel : Nat) → (at_ : Nat) → Option Nat
  | 0, _ => none
  | n + 1, at_ => if links.any (fun l => l.id == at_) then lowestFree links n (at_ + 1) else some at_

/-- R7: the cells of a set at an index, held by a link. -/
def cellsOf (h : HighwaySet) (index link : Nat) : List HeldCell :=
  h.highways.map (fun hw => { highway := hw, index := index, link := link })

/-- R8: every cell of the set at the index is FREE. -/
def cellsFree (cells : List HeldCell) (h : HighwaySet) (index : Nat) : Bool :=
  h.highways.all (fun hw => !cells.any (fun c => c.highway == hw && c.index == index))

/-- R9: the candidate sets of a width, in order of trial. -/
def candidates : Nat → List HighwaySet
  | 1 => [.h0, .h1, .h2, .h3]
  | 2 => [.h01, .h23]
  | 4 => [.h0123]
  | _ => []

/-- R9: the first free set, index by index from `index`. -/
def searchCells (cells : List HeldCell) (width : Nat) : (fuel : Nat) → (index : Nat) → Option (HighwaySet × Nat)
  | 0, _ => none
  | n + 1, index =>
    match (candidates width).find? (fun h => cellsFree cells h index) with
    | some h => some (h, index)
    | none => searchCells cells width n (index + 1)

/-- R6: renumbering gives each record the number of records of lower sequence. -/
def renumber (links : List Link) : List Link :=
  links.map (fun l => { l with seq := (links.filter (fun m => decide (m.seq < l.seq))).length })

/-- R5, R6: the store as it stands when the next sequence is given, and that sequence. -/
def LinkStore.nextSequence (st : LinkStore) : LinkStore × Nat :=
  match st.seq with
  | some n => (st, n)
  | none => ({ st with links := renumber st.links }, st.links.length)

/-- R5: the counter after a sequence was given. -/
def sequenceAfter (n : Nat) : Option Nat := if n = Config.lastSequence then none else some (n + 1)

/-- R10: a record is deleted with its cells. -/
def LinkStore.delete (st : LinkStore) (id : Nat) : LinkStore :=
  { st with links := st.links.filter (fun l => l.id != id), cells := st.cells.filter (fun c => c.link != id) }

/-- R11: an endpoint on the lost slot moved to the spare. -/
def Endpoint.remap (s spare : SlotId) (e : Endpoint) : Endpoint :=
  if e.slot = s then { e with slot := spare, home := some s } else e

/-- R11: an endpoint whose home is the slot set back to it. -/
def Endpoint.restore (s : SlotId) (e : Endpoint) : Endpoint :=
  if e.home = some s then { e with slot := s, home := none } else e

def Blocks.remapLinks (b : Blocks) (s spare : SlotId) : Blocks :=
  b.mapLinks (fun l => { l with epA := l.epA.remap s spare, epB := l.epB.remap s spare })

def Blocks.restoreLinks (b : Blocks) (s : SlotId) : Blocks :=
  b.mapLinks (fun l => { l with epA := l.epA.restore s, epB := l.epB.restore s })

/-! ### Relink engine: its collections -/

def Blocks.entry (b : Blocks) (id : Nat) : Option InFlight := b.engine.inFlight.find? (fun f => f.link == id)

def Blocks.modEntry (b : Blocks) (id : Nat) (g : InFlight → InFlight) : Blocks :=
  { b with engine := { b.engine with inFlight := b.engine.inFlight.map (fun f => if f.link = id then g f else f) } }

/-- What an order of the relink engine names. -/
def BusOrder.etag (o : BusOrder) : Option EngineTag :=
  match o.purpose with
  | .engine e => some e
  | _ => none

def BusOrder.forLink (o : BusOrder) (id : Nat) : Bool := o.etag.any (fun e => e.link == id)

def BusOrder.forEnd (o : BusOrder) (id : Nat) (e : LinkEnd) : Bool :=
  o.etag.any (fun x => x.link == id && x.lend == e)

def BusOrder.modTag (o : BusOrder) (f : EngineTag → EngineTag) : BusOrder :=
  match o.purpose with
  | .engine e => { o with purpose := .engine (f e) }
  | _ => o

/-- R28: an order of the link is outstanding. -/
def Blocks.outstanding (b : Blocks) (id : Nat) : Bool := b.bus.relinkQueue.any (fun o => o.forLink id)

def Blocks.putBacklog (b : Blocks) (orders : List BusOrder) : Blocks :=
  { b with engine := { b.engine with backlog := b.engine.backlog ++ orders } }

def Blocks.filterBacklog (b : Blocks) (keep : BusOrder → Bool) : Blocks :=
  { b with engine := { b.engine with backlog := b.engine.backlog.filter keep } }

def Blocks.setHold (b : Blocks) (h : Option HoldTimer) : Blocks := { b with engine := { b.engine with hold := h } }

/-- R24: an id placed after every link that ranks higher and before every link that ranks lower. -/
def rankInsert (st : LinkStore) (l : Link) : List Nat → List Nat
  | [] => [l.id]
  | q :: qs =>
    match st.find q with
    | some m => if l.above m then l.id :: q :: qs else q :: rankInsert st l qs
    | none => q :: rankInsert st l qs

/-- R24: a link joins the restore queue at its rank; a link already there keeps its entry. -/
def Blocks.joinQueue (b : Blocks) (id : Nat) : Blocks :=
  if id ∈ b.engine.queue then b
  else
    match b.link id with
    | some l => { b with engine := { b.engine with queue := rankInsert b.store l b.engine.queue } }
    | none => b

def Blocks.leaveQueue (b : Blocks) (id : Nat) : Blocks :=
  { b with engine := { b.engine with queue := b.engine.queue.filter (fun q => q != id) } }

def Blocks.leaveDeferred (b : Blocks) (id : Nat) : Blocks :=
  { b with engine := { b.engine with deferred := b.engine.deferred.filter (fun q => q != id) } }

/-- R28: the link's orders still in the backlog are withdrawn. -/
def Blocks.withdraw (b : Blocks) (id : Nat) : Blocks := b.filterBacklog (fun o => !o.forLink id)

/-- R22, R28, R29: the link leaves the in-flight set, its backlog orders are withdrawn, and its placed orders are
stale from here on. -/
def Blocks.leaveInFlight (b : Blocks) (id : Nat) : Blocks :=
  let b := b.withdraw id
  { b with
    engine := { b.engine with inFlight := b.engine.inFlight.filter (fun f => f.link != id) }
    bus := { b.bus with relinkQueue := b.bus.relinkQueue.map (fun o =>
      if o.forLink id then o.modTag (fun e => { e with current := false }) else o) } }

def Blocks.setLinkState (b : Blocks) (id : Nat) (st : LinkState) : Blocks :=
  b.modLink id (fun l => { l with state := st })

end Sys2Proof.Machine
end

