-- ==== Sys2Proof/Machine/Flags.lean ====
section
/-! DEFINITION. The conditions the rules read: who is the spare and what it holds, which links are eligible, when a
timer runs, when the episode may close, and the feed monitor's judgements. -/

namespace Sys2Proof.Machine

/-! ### Slots and cover -/

/-- The slot planned SPARE, if one is (R75, R76). -/
def Blocks.plannedSpare (b : Blocks) : Option SlotId :=
  allSlots.find? (fun i => (b.slot i).plan.any (fun p => p.role == .spare))

/-- R109: the slot that holds `s`. -/
def Blocks.holder (b : Blocks) (s : SlotId) : Option SlotId :=
  allSlots.find? (fun i => (b.slot i).coveredSlot == some s)

/-- R98: the slot whose port records are written to the card in slot `i`. -/
def Blocks.recordSource (b : Blocks) (i : SlotId) : SlotId := ((b.slot i).coveredSlot).getD i

/-- The plan that directs what is written to the card in slot `i`: the held slot's for the spare while it holds
one (R112), else the slot's own. -/
def Blocks.sourcePlan (b : Blocks) (i : SlotId) : Option Plan := (b.slot (b.recordSource i)).plan

/-- The ports that are written to the card in slot `i` (R104, R112). -/
def Blocks.sourcePorts (b : Blocks) (i : SlotId) : Nat := ((b.sourcePlan i).map Plan.portCount).getD 0

/-- R56: the slot's plan gives the shed policy KEEP. -/
def Blocks.isKeep (b : Blocks) (i : SlotId) : Bool := (b.slot i).plan.any (fun p => p.policy == .keep)

def Blocks.isLive (b : Blocks) (i : SlotId) : Bool := (b.slot i).state == .live

/-- R84: the card fits the plan. -/
def Plan.fits (p : Plan) (id : Identity) : Bool :=
  id.cardType == p.cardType && decide (p.minRevision ≤ id.revision) && decide (p.portCount ≤ id.portCount)

/-- R100, R112: the runs of a port count. -/
def runsOf (portCount : Nat) : Nat := (portCount + 7) / 8
/-- R100: the ports of one run. -/
def runCount (portCount run : Nat) : Nat := min 8 (portCount - 8 * run)

/-- R110: the spare that can cover a slot lost for the reason, if one can. -/
def Blocks.coverTarget (b : Blocks) (i : SlotId) (reason : LossReason) : Option SlotId :=
  match (b.slot i).plan, b.plannedSpare with
  | some p, some t =>
    if p.role = .working ∧ p.coverEnabled = true ∧ reason ≠ .retired
        ∧ (b.slot t).plan.any (fun q => q.cardType == p.cardType) = true
        ∧ (b.slot t).state = .live ∧ (b.slot t).coveredSlot = none
        ∧ b.store.links.any (fun l => l.endsOn t) = false then some t
    else none
  | _, _ => none

/-! ### Links -/

/-- R25: the port table record the engine reads for an endpoint is BLOCKED. -/
def Blocks.endpointBlocked (b : Blocks) (e : Endpoint) : Bool := (b.port (e.home.getD e.slot) e.port).blocked

/-- R25 condition 4 for one endpoint. -/
def Blocks.coverLoaded (b : Blocks) (e : Endpoint) : Bool :=
  match e.home with
  | none => true
  | some s =>
    match b.holder s with
    | some t => (b.slot t).coverLoad.any (fun c => c.done)
    | none => false

/-- R25: what eligibility asks of one endpoint. -/
def Blocks.endpointEligible (b : Blocks) (e : Endpoint) : Bool :=
  b.isLive e.slot && !b.endpointBlocked e && b.coverLoaded e

/-- R25: the link is eligible. -/
def Blocks.eligible (b : Blocks) (l : Link) : Bool :=
  b.endpointEligible l.epA && b.endpointEligible l.epB && !l.removal

/-- R27 choice 1 for one endpoint slot: LIVE and identified intact. -/
def Blocks.intact (b : Blocks) (i : SlotId) : Bool := b.isLive i && (b.slot i).latestId == some .intact

/-- R27 choice 1. -/
def Blocks.verifiable (b : Blocks) (l : Link) : Bool :=
  l.state == .suspect && b.intact l.epA.slot && b.intact l.epB.slot && !l.removal

/-- R56: both endpoint slots are KEEP slots. -/
def Blocks.keepsBoth (b : Blocks) (l : Link) : Bool := b.isKeep l.epA.slot && b.isKeep l.epB.slot

/-- R26: the start rule is applied. -/
def ShelfState.starts : ShelfState → Bool
  | .cold | .standby | .recovering => true
  | .settling | .holdup => false

/-- R34: the hold timer may run. -/
def ShelfState.holds : ShelfState → Bool
  | .standby | .settling | .recovering => true
  | .cold | .holdup => false

/-- R34: the head the hold timer runs for, when its four conditions hold together. -/
def Blocks.holdDue (b : Blocks) : Option Nat :=
  match b.engine.queue with
  | [] => none
  | h :: _ =>
    match b.link h with
    | some l =>
      if b.ep.shelf.holds = true ∧ (l.state = .pending ∨ l.state = .suspect) ∧ b.eligible l = false then some h
      else none
    | none => none

/-- R65: one field of an attachment compared, when the mask selects it. -/
def maskMatch (selected equal : Bool) : Bool := !selected || equal

/-- R65: an end matches. -/
def CompareMask.endMatches (m : CompareMask) (l : Link) (e : LinkEnd) (answer : Option (Option Attachment)) : Bool :=
  match answer with
  | some (some a) =>
    a.active && maskMatch m.hset (a.hset == l.hset) && maskMatch m.index (a.index == l.index)
      && maskMatch m.role (a.role == e) && maskMatch m.tag (a.tag == l.id)
  | _ => false

/-! ### Episode -/

/-- R70: a slot state that holds the episode open. -/
def SlotState.holdsOpen : SlotState → Bool
  | .dark | .queued | .ramping | .held | .identifying | .loading => true
  | .vacant | .off | .live | .lost | .covered => false

/-- R70: the open episode closes. -/
def Blocks.closes (b : Blocks) : Bool :=
  b.ep.shelf == .recovering && b.engine.queue.isEmpty && allSlots.all (fun i => !(b.slot i).state.holdsOpen)

/-! ### Feed monitor -/

/-- R121: the filtered value. -/
def FeedReading.filtered (r : FeedReading) : Nat := r.acc / 16

/-- R126: the reading of a counted feed, one present and seeded. -/
def Feed.counted (f : Feed) : Option FeedReading := if f.present then f.reading else none

def FeedMonitor.countedFeeds (m : FeedMonitor) : List FeedReading :=
  m.feedA.counted.toList ++ m.feedB.counted.toList

/-- R130: the smaller filtered value of the counted feeds. -/
def FeedMonitor.fmin (m : FeedMonitor) : Option Nat :=
  match m.feedA.counted, m.feedB.counted with
  | some a, some b => some (min a.filtered b.filtered)
  | some a, none => some a.filtered
  | none, some b => some b.filtered
  | none, none => none

/-- R126: the supply status as judged over the counted feeds. -/
def FeedMonitor.judgedSupply (m : FeedMonitor) : Supply :=
  match m.countedFeeds with
  | [] => m.supply
  | fs =>
    match m.coincidence with
    | .any =>
      if fs.any (fun r => r.status == .low) then .down else if fs.all (fun r => r.status == .good) then .up else m.supply
    | .both =>
      if fs.all (fun r => r.status == .low) then .down else if fs.any (fun r => r.status == .good) then .up else m.supply

/-- R130: the budget. -/
def FeedMonitor.computeBudget (m : FeedMonitor) : Nat :=
  match m.fmin with
  | none => 0
  | some f => if f ≤ m.floor then 0 else min m.cap ((f - m.floor) * m.gain / 64)

end Sys2Proof.Machine
end

