-- ==== Sys2Proof/Machine/Engine.lean ====
section
/-! DEFINITION. The relink engine (R20 to R47, R64 to R67): starting, activating, holding, deferring, releasing and
dropping links, and what the slot registry's reports do to them. `t` is the time counter in the present event. -/

namespace Sys2Proof.Machine

/-! ### Orders -/

/-- R28, R30, R64: an order for one end of a link, addressed to the endpoint's slot and port. -/
def engineOrder (l : Link) (e : LinkEnd) (code : OrderCode) (current : Bool) : BusOrder :=
  { slot := (l.endpoint e).slot, code, first := (l.endpoint e).port.val, count := 1
    send := if code = .attach then [attachmentBytes l.hset l.index e l.id] else []
    purpose := .engine { link := l.id, lend := e, current, opened := false } }

/-- R43: a DETACH for the end is outstanding or in the backlog. -/
def Blocks.detachPending (b : Blocks) (id : Nat) (e : LinkEnd) : Bool :=
  (b.bus.relinkQueue ++ b.engine.backlog).any (fun o => o.code == .detach && o.forEnd id e)

/-! ### Ends attached (R29, R44) -/

/-- R44: the ends whose endpoint satisfies `p` count as detached, and their DETACH orders in the backlog are
withdrawn. -/
def Blocks.detachWhere (b : Blocks) (p : Endpoint → Bool) : Blocks :=
  let gone (o : BusOrder) : Bool :=
    o.code == .detach && o.etag.any (fun e => (b.link e.link).any (fun l => p (l.endpoint e.lend)))
  let b := b.filterBacklog (fun o => !gone o)
  b.mapLinks (fun l => { l with attA := l.attA && !p l.epA, attB := l.attB && !p l.epB })

/-- R44: every end on the slot counts as detached. -/
def Blocks.detachSlot (b : Blocks) (i : SlotId) : Blocks := b.detachWhere (fun e => e.slot == i)

/-- R44: one end counts as detached. -/
def Blocks.detachEnd (b : Blocks) (id : Nat) (e : LinkEnd) : Blocks :=
  (b.filterBacklog (fun o => !(o.code == .detach && o.forEnd id e))).modLink id (fun l => l.setAttached e false)

/-- R29: the placed orders addressed to a slot whose switch opens. -/
def Blocks.markOpened (b : Blocks) (i : SlotId) : Blocks :=
  { b with bus := { b.bus with relinkQueue := b.bus.relinkQueue.map (fun o =>
      if o.slot = i then o.modTag (fun e => { e with opened := true }) else o) } }

/-- R44, R98: the slot's switch was opened: its ends count as detached and its write set is emptied. -/
def Blocks.switchOpened (b : Blocks) (i : SlotId) : Blocks :=
  ((b.detachSlot i).markOpened i).modSlot i (fun r => { r with writeSet := [] })

/-! ### Leaving the collections -/

/-- R41, R42, R46: the link leaves whichever collection holds it and becomes RELEASING. -/
def Blocks.release (b : Blocks) (id : Nat) : Blocks :=
  (((b.leaveInFlight id).leaveQueue id).leaveDeferred id).modLink id
    (fun l => { l with state := .releasing, deferral := none })

/-- R35, R36: the link becomes DEFERRED at the tail of the deferred list. -/
def Blocks.defer (b : Blocks) (t : Nat) (id : Nat) (reason : DeferReason) : Blocks :=
  match b.link id with
  | none => b
  | some l =>
    let b := (b.leaveInFlight id).leaveQueue id
    let b := b.modLink id (fun l => { l with state := .deferred, deferral := some { reason, since := t } })
    let b := { b with engine := { b.engine with deferred := b.engine.deferred ++ [id] } }
    b.raise (.link .deferred id l.cls (some reason))

/-- R40, R111, R118: a link returns to PENDING, or to RELEASING when its removal was requested in flight. -/
def Blocks.returnLink (b : Blocks) (id : Nat) : Blocks :=
  match b.link id with
  | none => b
  | some l =>
    match l.state with
    | .verifying | .preparing | .ready | .activating =>
      if l.removal then b.release id
      else ((b.leaveInFlight id).setLinkState id .pending).joinQueue id
    | .suspect => b.setLinkState id .pending
    | .carried => (b.setLinkState id .pending).joinQueue id
    | .pending | .deferred | .releasing => b

/-- The ids of the links that satisfy `p`, lowest first. -/
def Blocks.linkIds (b : Blocks) (p : Link → Bool) : List Nat := (b.store.links.filter p).map Link.id

/-- R40: the slot was found fresh, restarted or switched off in place. Its links are taken lowest id first (DESIGN CHOICE,
unsafe, log 26). -/
def Blocks.slotInPlace (b : Blocks) (i : SlotId) : Blocks :=
  (b.linkIds (fun l => l.endsOn i)).foldl Blocks.returnLink (b.detachSlot i)

/-- R111: the report of cover for slot `s`. Its links are taken lowest id first (DESIGN CHOICE, unsafe, log 26). -/
def Blocks.coverReport (b : Blocks) (s : SlotId) : Blocks :=
  (b.linkIds (fun l => l.epA.home == some s || l.epB.home == some s)).foldl Blocks.returnLink b

/-- R46: one link is dropped. -/
def Blocks.dropLink (b : Blocks) (id : Nat) : Blocks :=
  match b.link id with
  | none => b
  | some l => ((b.release id).raise (.link .dropped id l.cls none)).tally Episode.countDropped

/-- R46: the links that satisfy `p` and are not RELEASING are dropped, lowest id first (DESIGN CHOICE, unsafe, log 26). -/
def Blocks.dropLinks (b : Blocks) (p : Link → Bool) : Blocks :=
  (b.linkIds (fun l => p l && l.state != .releasing)).foldl Blocks.dropLink b

/-! ### Becoming CARRIED (R32, R33, R47, R65, R68) -/

/-- R32, R33, R47: an activated link becomes CARRIED. While an episode is open the CARRIED notice is withheld (R68). -/
def Blocks.carry (b : Blocks) (t : Nat) (f : InFlight) : Blocks :=
  match b.link f.link with
  | none => b
  | some l =>
    let quiet := b.ep.isOpen
    let b := ((b.leaveInFlight l.id).leaveQueue l.id).setLinkState l.id .carried
    let b := b.tally (Episode.noteActivation t)
    match f.origin with
    | .queue =>
      let b := b.tally Episode.countInOrder
      if quiet then b else b.raise (.link .carried l.id l.cls none)
    | .deferred => (b.tally Episode.countLate).raise (.link .late l.id l.cls none)

/-- R65: a verified link becomes CARRIED with both ends attached. -/
def Blocks.verify (b : Blocks) (id : Nat) : Blocks :=
  (((b.leaveInFlight id).leaveQueue id).modLink id
    (fun l => { l with state := .carried, attA := true, attB := true })).tally Episode.countVerified

/-! ### Starting (R26, R27, R30, R64) -/

/-- What the start rule gives: the link, its origin, and whether it is verified or prepared. -/
structure Start where
  id : Nat
  origin : Origin
  survey : Bool
  deriving DecidableEq, Repr

/-- R27: the first link the three choices give. -/
def Blocks.startChoice (b : Blocks) : Option Start :=
  match b.engine.queue.find? (fun id => (b.link id).any b.verifiable) with
  | some id => some { id, origin := .queue, survey := true }
  | none =>
    match (b.engine.queue.take b.engine.window).find?
        (fun id => (b.link id).any (fun l => l.state == .pending && b.eligible l)) with
    | some id => some { id, origin := .queue, survey := false }
    | none =>
      match b.engine.deferred.find? (fun id => (b.link id).any (fun l =>
          l.deferral.any (fun d => d.reason == .hold) && b.eligible l)) with
      | some id => some { id, origin := .deferred, survey := false }
      | none => none

/-- R22: a new in-flight entry. -/
def InFlight.new (id : Nat) (origin : Origin) (step : EngineStep) : InFlight :=
  { link := id, origin, step, refused := false, outA := none, outB := none, recA := none, recB := none }

/-- R27, R30, R64: a link starts. -/
def Blocks.start (b : Blocks) (c : Start) : Blocks :=
  match b.link c.id with
  | none => b
  | some l =>
    let step := if c.survey then EngineStep.survey else EngineStep.attach
    let code := if c.survey then OrderCode.survey else OrderCode.attach
    let b := if c.origin = .deferred then
        (b.leaveDeferred c.id).modLink c.id (fun l => { l with deferral := none, late := true }) else b
    let b := b.setLinkState c.id (if c.survey then .verifying else .preparing)
    let b := { b with engine := { b.engine with inFlight := b.engine.inFlight ++ [InFlight.new c.id c.origin step] } }
    b.putBacklog [engineOrder l .a code true, engineOrder l .b code true]

/-- R27: starts, until the set holds W entries or no choice gives a link. -/
def Blocks.startLoop : Nat → Blocks → Blocks
  | 0, b => b
  | n + 1, b =>
    if b.engine.inFlight.length < b.engine.window then
      match b.startChoice with
      | some c => Blocks.startLoop n (b.start c)
      | none => b
    else b

/-- R26, R27: the start rule. The in-flight set holds at most 8, so 8 starts are enough. -/
def Blocks.startRule (b : Blocks) : Blocks := if b.ep.shelf.starts then Blocks.startLoop 8 b else b

/-! ### Activation (R31 to R33) -/

/-- R31, R32: a READY link whose removal is not requested becomes ACTIVATING. -/
def Blocks.activate (b : Blocks) (id : Nat) : Blocks :=
  match b.link id with
  | none => b
  | some l =>
    if l.state = .ready ∧ l.removal = false then
      let b := b.setLinkState id .activating
      let b := b.modEntry id (fun f => { f with step := .activateA, outA := none, outB := none })
      b.putBacklog [engineOrder l .a .activate true]
    else b

/-- R31, R33: the head is considered, and every READY link of origin DEFERRED, in the order of their start (DESIGN CHOICE,
unsafe, log 26). -/
def Blocks.activateReady (b : Blocks) : Blocks :=
  let ids := (b.engine.inFlight.filter (fun f => f.origin == .deferred)).map InFlight.link
  (b.engine.queue.take 1 ++ ids).foldl Blocks.activate b

/-! ### The hold timer (R34, R35) -/

/-- R26, R31, R34, R35: the start rule, the head's activation, and the hold timer judged on the head. With H 0 the
timer expires at the moment it is started, and the next head is judged. -/
def Blocks.judgeHead (t : Nat) : Nat → Blocks → Blocks
  | 0, b => b
  | n + 1, b =>
    let b := b.startRule.activateReady
    match b.holdDue with
    | none => b.setHold none
    | some h =>
      if b.engine.hold.any (fun x => x.head == h) then b
      else if b.engine.holdTime = 0 then Blocks.judgeHead t n ((b.setHold none).defer t h .hold)
      else b.setHold (some { head := h, left := b.engine.holdTime })

/-! ### Removal, refusal and release (R36, R41 to R45) -/

/-- R41: an accepted REMOVE LINK. What becomes of a RELEASING link, R43 and R45 judge. -/
def Blocks.removeLink (b : Blocks) (id : Nat) : Blocks :=
  match b.link id with
  | none => b
  | some l =>
    match l.state with
    | .verifying | .preparing | .ready | .activating => (b.withdraw id).modLink id (fun l => { l with removal := true })
    | .pending | .suspect | .deferred | .carried => b.release id
    | .releasing => b

/-- R42: a flagged in-flight link with no order outstanding becomes RELEASING. Several are taken in the order of their start
(log 26). -/
def Blocks.flagPass (b : Blocks) : Blocks :=
  (b.engine.inFlight.map InFlight.link).foldl
    (fun b id => if (b.link id).any (fun l => l.removal) && !b.outstanding id then b.release id else b) b

/-- R36: one link on its refusal path, with no order outstanding. The DETACH of end A stands before that of end B (DESIGN
CHOICE, unsafe, log 26). -/
def Blocks.refuse (t : Nat) (b : Blocks) (id : Nat) : Blocks :=
  match b.entry id, b.link id with
  | some f, some l =>
    if f.refused && !l.removal && !b.outstanding id then
      if l.noneAttached then b.defer t id .refused
      else if f.step = .detach then b
      else
        let b := b.modEntry id (fun f => { f with step := .detach, outA := none, outB := none })
        b.putBacklog ((if l.attA then [engineOrder l .a .detach true] else [])
          ++ (if l.attB then [engineOrder l .b .detach true] else []))
    else b
  | _, _ => b

/-- R36, for every in-flight link, in the order of their start (DESIGN CHOICE, unsafe, log 26). -/
def Blocks.refusalPass (t : Nat) (b : Blocks) : Blocks :=
  (b.engine.inFlight.map InFlight.link).foldl (Blocks.refuse t) b

/-- R43: a DETACH for an end of a RELEASING link. -/
def Blocks.decideDetach (b : Blocks) (l : Link) (e : LinkEnd) : Blocks :=
  if l.attached e && b.isLive (l.endpoint e).slot && !b.detachPending l.id e then
    b.putBacklog [engineOrder l e .detach false] else b

/-- R43, R45: one RELEASING link is deleted, or its DETACH orders are decided, end A before end B (DESIGN CHOICE, unsafe, log
26). -/
def Blocks.releaseOne (b : Blocks) (id : Nat) : Blocks :=
  match b.link id with
  | none => b
  | some l =>
    if l.state = .releasing then
      if l.noneAttached && !b.outstanding id then { b with store := b.store.delete id }
      else (b.decideDetach l .a).decideDetach l .b
    else b

/-- R43, R45, for every RELEASING link, lowest id first (DESIGN CHOICE, unsafe, log 26). -/
def Blocks.releasePass (b : Blocks) : Blocks :=
  (b.linkIds (fun l => l.state == .releasing)).foldl Blocks.releaseOne b

/-- What the engine judges at the end of an event: flagged links, refusal paths, RELEASING links, then the start
rule, activation and the hold timer (DESIGN CHOICE, unsafe, log 6 and 7). -/
def Blocks.judgeEngine (t : Nat) (b : Blocks) : Blocks :=
  let b := (b.flagPass.refusalPass t).releasePass
  Blocks.judgeHead t (b.engine.queue.length + 1) b

/-- R51, R52: in SETTLING a READY link of origin QUEUE that is not the head is stood down. -/
def Blocks.standDown (b : Blocks) : Blocks :=
  if b.ep.shelf = .settling then
    let ids := (b.engine.inFlight.filter (fun f => f.origin == .queue)).map InFlight.link
    ids.foldl (fun b id =>
      if (b.link id).any (fun l => l.state == .ready && !l.removal) && b.engine.queue.head? != some id then
        (b.leaveInFlight id).setLinkState id .pending else b) b
  else b

/-! ### Outcomes (R29, R30, R32, R36, R65) -/

/-- R29: what a completion does to ends attached, whatever the link's state. -/
def Blocks.accountEnds (b : Blocks) (o : BusOrder) (e : EngineTag) (out : OrderOutcome) : Blocks :=
  match o.code, out with
  | .attach, .done | .activate, .done =>
    if e.opened || (b.link e.link).any (fun l => !(l.endpoint e.lend).names o.slot) then b
    else b.modLink e.link (fun l => l.setAttached e.lend true)
  | .attach, .fresh | .activate, .fresh | .survey, .fresh => b.detachEnd e.link e.lend
  | .detach, .done | .detach, .refused | .detach, .fresh => b.detachEnd e.link e.lend
  | _, _ => b

/-- R22: an end's outcome kept in the entry. -/
def InFlight.note (f : InFlight) (e : LinkEnd) (out : OrderOutcome) : InFlight :=
  match e with
  | .a => { f with outA := some out }
  | .b => { f with outB := some out }

/-- R22, R64: an end's survey record kept in the entry. -/
def InFlight.noteRecord (f : InFlight) (e : LinkEnd) (answer : Option Attachment) : InFlight :=
  match e with
  | .a => { f with recA := some answer }
  | .b => { f with recB := some answer }

/-- R64: a survey answer that ends its half of the step. -/
def surveyEnds (out : Option OrderOutcome) : Bool := out == some .done || out == some .refused

/-- R65: the SURVEY step of a link whose removal is not requested is judged. -/
def Blocks.judgeSurvey (b : Blocks) (l : Link) (f : InFlight) : Blocks :=
  if surveyEnds f.outA && surveyEnds f.outB then
    if f.outA == some .done && f.outB == some .done && b.engine.mask.endMatches l .a f.recA
        && b.engine.mask.endMatches l .b f.recB then b.verify l.id
    else (b.leaveInFlight l.id).setLinkState l.id .pending
  else b

/-- R30: the ATTACH step of a link whose removal is not requested and whose start was not refused. -/
def Blocks.judgeAttach (b : Blocks) (l : Link) (f : InFlight) : Blocks :=
  if f.outA == some .done && f.outB == some .done && !f.refused then
    (b.setLinkState l.id .ready).modEntry l.id (fun f => { f with step := .idle, outA := none, outB := none })
  else b

/-- R32: the ACTIVATE steps of a link whose removal is not requested and whose start was not refused. -/
def Blocks.judgeActivate (t : Nat) (b : Blocks) (l : Link) (f : InFlight) : Blocks :=
  if f.refused then b
  else if f.step = .activateA ∧ f.outA = some .done then
    let b := b.modEntry l.id (fun f => { f with step := .activateB, outA := none, outB := none })
    b.putBacklog [engineOrder l .b .activate true]
  else if f.step = .activateB ∧ f.outB = some .done then b.carry t f
  else b

/-- R36: a REFUSED completion that counts toward an ATTACH or ACTIVATE step: the entry's refused field becomes yes
and an order of the other end still in the backlog is withdrawn. -/
def Blocks.noteRefusal (b : Blocks) (id : Nat) : Blocks :=
  (b.modEntry id (fun f => { f with refused := true })).withdraw id

/-- R29, R30, R32, R36, R42, R65: a completion counts toward the link's present step. -/
def Blocks.countOutcome (t : Nat) (b : Blocks) (o : BusOrder) (e : EngineTag) (out : OrderOutcome)
    (answer : Option Attachment) : Blocks :=
  let b := b.modEntry e.link (fun f => f.note e.lend out)
  let b := if o.code = .survey ∧ out = .done then b.modEntry e.link (fun f => f.noteRecord e.lend answer) else b
  let b := if (o.code = .attach ∨ o.code = .activate) ∧ out = .refused then b.noteRefusal e.link else b
  match b.entry e.link, b.link e.link with
  | some f, some l =>
    if l.removal then b
    else
      match f.step with
      | .survey => b.judgeSurvey l f
      | .attach => b.judgeAttach l f
      | .activateA | .activateB => b.judgeActivate t l f
      | .detach | .idle => b
  | _, _ => b

/-- R29: an outcome of one of the engine's orders. A stale one updates ends attached and does nothing more. -/
def Blocks.engineOutcome (t : Nat) (b : Blocks) (o : BusOrder) (e : EngineTag) (out : OrderOutcome)
    (records : List (List Byte)) : Blocks :=
  let b := b.accountEnds o e out
  if e.current && (b.entry e.link).isSome then
    b.countOutcome t o e out ((records.head?.bind readAttachment).getD none)
  else b

/-- R28: the oldest backlog orders are placed while the engine's requester queue has a place. -/
def Blocks.placeBacklog (b : Blocks) : Blocks :=
  let room := Config.requesterPlaces - b.bus.relinkQueue.length
  { b with
    bus := { b.bus with relinkQueue := b.bus.relinkQueue ++ b.engine.backlog.take room }
    engine := { b.engine with backlog := b.engine.backlog.drop room } }

/-- R38: an accepted SET PORT retries the links deferred with REFUSED on the port. -/
def Link.retried (l : Link) : Link :=
  { l with deferral := l.deferral.map (fun d => { d with reason := .hold }) }

/-- R38: an endpoint of the link is on the port, by slot or home slot. -/
def Link.onPort (l : Link) (i : SlotId) (p : Fin 32) : Bool :=
  (l.epA.names i && l.epA.port == p) || (l.epB.names i && l.epB.port == p)

end Sys2Proof.Machine
end

