-- ==== Sys2Proof/Machine/Power.lean ====
section
/-! DEFINITION. The power sequencer's operations (R136 to R145): switches, charges, the admission queue and its
judgement, and the slot states that follow them. -/

namespace Sys2Proof.Machine

/-- R138: the first slot comes before the second in the admission queue. -/
def Blocks.admittedBefore (b : Blocks) (i j : SlotId) : Bool :=
  let rank (k : SlotId) : Nat := ((b.slot k).plan.map Plan.admissionRank).getD 0
  decide (rank i < rank j) || (rank i == rank j && decide (i < j))

/-- R138: a slot placed in the admission queue's order. -/
def Blocks.admissionInsert (b : Blocks) (i : SlotId) : List SlotId → List SlotId
  | [] => [i]
  | j :: js => if b.admittedBefore i j then i :: j :: js else j :: b.admissionInsert i js

def Blocks.setPowerQueue (b : Blocks) (q : List SlotId) : Blocks := { b with power := { b.power with queue := q } }

/-- R138: a slot joins the admission queue, at most once. -/
def Blocks.joinAdmission (b : Blocks) (i : SlotId) : Blocks :=
  if i ∈ b.power.queue then b else b.setPowerQueue (b.admissionInsert i b.power.queue)

def Blocks.leaveAdmission (b : Blocks) (i : SlotId) : Blocks := b.setPowerQueue (b.power.queue.filter (fun j => j != i))

/-- R137, R148: a CLOSED switch is opened, its charge removed and its ramp stopped, and the opening is reported; an
OPEN switch stays as it is. -/
def Blocks.openSwitch (b : Blocks) (i : SlotId) : Blocks :=
  if (b.powerRec i).closed then
    (b.modPower i (fun r => { r with closed := false, charge := 0, ramp := none })).switchOpened i
  else b

/-- R137, the shed request: the dark timer starts, or starts afresh. -/
def Blocks.powerShed (b : Blocks) (i : SlotId) : Blocks :=
  ((b.openSwitch i).leaveAdmission i).modPower i (fun r => { r with ramp := none, dark := some b.power.darkTime })

/-- R137, the off request. -/
def Blocks.powerOff (b : Blocks) (i : SlotId) : Blocks :=
  ((b.openSwitch i).leaveAdmission i).modPower i (fun r => { r with ramp := none, dark := none })

/-! ### Slot states -/

/-- R83, R150: the slot's order is on the bus. A cut transfer carries it no more (R161). -/
def Blocks.onBus (b : Blocks) (i : SlotId) : Bool :=
  match b.bus.transfer with
  | some tr =>
    tr.requester == .registry && tr.phase != .release .cut && (b.bus.registryQueue.head?).any (fun o => o.slot == i)
  | none => false

/-- R150: a withdrawn order leaves the registry queue; if it was the head, the head's attempt count returns to 0. -/
def CardBus.withdrawRegistry (bus : CardBus) (i : SlotId) : CardBus :=
  { bus with
    registryQueue := bus.registryQueue.filter (fun o => o.slot != i)
    registryAttempts := if (bus.registryQueue.head?).any (fun o => o.slot == i) then 0 else bus.registryAttempts }

/-- R83: the slot's outstanding order is abandoned: carried to its end when it is on the bus, withdrawn when not. -/
def Blocks.abandonOrder (b : Blocks) (i : SlotId) : Blocks :=
  match (b.slot i).order with
  | none => b
  | some o =>
    if b.onBus i then b.modSlot i (fun r => { r with order := some { o with abandoned := true } })
    else { b with bus := b.bus.withdrawRegistry i }.modSlot i (fun r => { r with order := none })

/-- R83, R96: a change of a slot's state: its outstanding order is abandoned and a SLOT notice is raised. -/
def Blocks.changeState (b : Blocks) (i : SlotId) (st : SlotState) : Blocks :=
  let before := (b.slot i).state
  if before = st then b
  else
    let b := (b.abandonOrder i).modSlot i (fun r => r.enter st)
    b.raise (.slotState i before st (b.slot i).lostReason)

/-- R113: the spare has left LIVE in place, so the slot it covers becomes LOST with its cover reason. Its notice is raised
right after the spare's own (R55 and R169 give no order; DESIGN CHOICE, unsafe, log 36). -/
def Blocks.spareLeftLive (b : Blocks) (i : SlotId) : Blocks :=
  match (b.slot i).coveredSlot with
  | none => b
  | some s =>
    if (b.slot s).state = .covered then
      ((b.modSlot s (fun r => { r with lostReason := r.coverReason })).changeState s .lost).tally Episode.countSlotLost
    else b

/-- R113: the spare is LIVE again, so the LOST slot it holds becomes COVERED. Its notice is raised right after the spare's
own (R169 gives no order; DESIGN CHOICE, unsafe, log 36). -/
def Blocks.coverAgain (b : Blocks) (i : SlotId) : Blocks :=
  match (b.slot i).coveredSlot with
  | none => b
  | some s =>
    if (b.slot s).state = .lost then (b.changeState s .covered).tally Episode.countSlotCovered else b

/-- R117: a CLEAR is outstanding for the spare, and the revert it was placed for is still in progress. -/
def Blocks.clearOutstanding (b : Blocks) (spare : SlotId) : Bool :=
  (b.slot spare).order == some { code := .clear, abandoned := false }
    && b.bus.registryQueue.any (fun o => o.slot == spare && o.purpose == .registry (.clear true))

/-- R117: a slot with revert mark yes is LIVE, so a CLEAR is wanted for the spare, unless one is outstanding for this
revert (DEDUCED, unsafe, log 17). -/
def Blocks.wantClear (b : Blocks) (i : SlotId) : Blocks :=
  if (b.slot i).revertMark then
    match b.holder i with
    | some t =>
      if b.clearOutstanding t then b
      else b.modSlot t (fun r => { r with clearWanted := true })
    | none => b
  else b

/-- A slot enters a state other than LOST, with what follows for the cover relation (R113, R117). The notice of the slot is
raised first and that of the slot it holds right after it, whatever their numbers: at a freeze (R55), a restart (R92), an
identification and the end of a loading (DESIGN CHOICE, unsafe, log 36). -/
def Blocks.enterState (b : Blocks) (i : SlotId) (st : SlotState) : Blocks :=
  let before := (b.slot i).state
  let b := b.changeState i st
  if st = .live then (b.coverAgain i).wantClear i
  else if before = .live ∧ st ≠ .live then b.spareLeftLive i
  else b

/-- R88: the return deadline timer starts with the plan's duration. -/
def Blocks.startDeadline (b : Blocks) (i : SlotId) : Blocks :=
  b.modSlot i (fun r => { r with deadline := some r.deadlineTime })

/-! ### Admission (R139, R140) -/

/-- R139: the head of the admission queue, when it is admitted. -/
def Blocks.admissible (b : Blocks) : Option SlotId :=
  match b.power.queue with
  | [] => none
  | i :: _ =>
    match (b.slot i).plan with
    | none => none
    | some p =>
      if b.power.supply = .up ∧ b.ep.shelf ≠ .holdup ∧ b.power.load + p.inrush ≤ b.power.budget then some i else none

/-- R140, R81: the head is admitted, and its slot goes from QUEUED to RAMPING with its return deadline started. -/
def Blocks.admitSlot (b : Blocks) (i : SlotId) : Blocks :=
  match (b.slot i).plan with
  | none => b
  | some p =>
    let b := (b.leaveAdmission i).modPower i
      (fun r => { r with closed := true, charge := p.inrush, ramp := some p.rampTime })
    if (b.slot i).state = .queued then (b.enterState i .ramping).startDeadline i else b

/-- R139: the queue is judged, again and again, until it is empty or its head is not admitted. -/
def Blocks.admitLoop : Nat → Blocks → Blocks
  | 0, b => b
  | n + 1, b =>
    match b.admissible with
    | some i => Blocks.admitLoop n (b.admitSlot i)
    | none => b

/-- R139: the queue holds at most 16 slots, so 16 admissions are enough. -/
def Blocks.judgeAdmission (b : Blocks) : Blocks := Blocks.admitLoop 16 b

/-- R137, the queue request, taken whole: the slot joins the admission queue, and the queue is judged. -/
def Blocks.powerQueue (b : Blocks) (i : SlotId) : Blocks :=
  if (b.powerRec i).closed = true ∨ i ∈ b.power.queue then b
  else ((b.modPower i (fun r => { r with dark := none })).joinAdmission i).judgeAdmission

/-- R77, R80: a slot becomes QUEUED, and the registry asks the power sequencer to queue it. -/
def Blocks.queueSlot (b : Blocks) (i : SlotId) : Blocks := (b.enterState i .queued).powerQueue i

end Sys2Proof.Machine
end

