-- ==== Sys2Proof/Machine/Registry.lean ====
section
/-! DEFINITION. The slot registry: loss and cover (R89, R90, R109 to R119), identification and loading (R83 to R87,
R100 to R104), what order a slot wants, and the outcomes of the registry's orders. -/

namespace Sys2Proof.Machine

/-! ### Loss, cover and the loss of the spare -/

/-- R118, R115, R119: the spare holds no slot any more. -/
def Blocks.endHold (b : Blocks) (spare : SlotId) : Blocks :=
  b.modSlot spare (fun r => { r with coveredSlot := none, coverLoad := none, writeSet := [], clearWanted := false })

/-- R110: cover is taken. -/
def Blocks.takeCover (b : Blocks) (i spare : SlotId) (reason : LossReason) : Blocks :=
  let b := b.modSlot i (fun r => { r with coverReason := some reason })
  let b := b.changeState i .covered
  let b := b.modSlot spare (fun r =>
    { r with coveredSlot := some i, coverLoad := some { runs := 0, done := false }, writeSet := [] })
  ((b.remapLinks i spare).tally Episode.countSlotCovered).coverReport i

/-- R115, R46: the spare was lost while it held `s`. Its covered slot is settled, it holds nothing any more, and the links on
it are dropped as by a loss without cover, their ends on it detached (R44). -/
def Blocks.spareLost (b : Blocks) (spare s : SlotId) (reason : LossReason) : Blocks :=
  let b :=
    if (b.slot s).revertMark then b.modSlot s (fun r => { r with revertMark := false, coverReason := none })
    else
      let entry := (b.slot s).state != .lost
      let b := b.modSlot s (fun r => { r with lostReason := some reason, coverReason := none })
      if entry then (b.changeState s .lost).tally Episode.countSlotLost else b
  ((b.endHold spare).detachSlot spare).dropLinks (fun l => l.endsOn spare)

/-- R119, RETIRED: the cover of `s` ends; its links are dropped, and their ends on the spare are detached as R43 and
R44 give. -/
def Blocks.retireHeld (b : Blocks) (s : SlotId) : Blocks :=
  let b := b.modSlot s (fun r => { r with revertMark := false, coverReason := none })
  let b := match b.holder s with
    | some t =>
      let b := if (b.slot t).order.any (fun (o : RegistryOrder) => o.code == OrderCode.clear) then b.abandonOrder t else b
      b.endHold t
    | none => b
  b.dropLinks (fun l => l.epA.home == some s || l.epB.home == some s)

/-- R119: a CLEAR whose revert has ended by the loss of its slot. -/
def BusOrder.endRevert (o : BusOrder) : BusOrder :=
  match o.purpose with
  | .registry (.clear _) => { o with purpose := .registry (.clear false) }
  | _ => o

/-- R119: a CLEAR outstanding for the spare is carried to its end, but it completes no revert, be it one begun later. -/
def Blocks.endClearRevert (b : Blocks) (spare : SlotId) : Blocks :=
  { b with bus := { b.bus with
      registryQueue := b.bus.registryQueue.map (fun o => if o.slot = spare then o.endRevert else o) } }

/-- R119: a slot with revert mark yes was lost. -/
def Blocks.revertingLost (b : Blocks) (s : SlotId) (reason : LossReason) : Blocks :=
  if reason = .retired then b.retireHeld s
  else
    let b := b.modSlot s (fun r => { r with coverReason := some reason, revertMark := false })
    match b.holder s with
    | some t =>
      let b := (b.modSlot t (fun r => { r with clearWanted := false })).endClearRevert t
      if b.isLive t then (b.changeState s .covered).tally Episode.countSlotCovered else b
    | none => b

/-- R90: the registry settles the links of a slot that became LOST. -/
def Blocks.settleLoss (b : Blocks) (i : SlotId) (reason : LossReason) : Blocks :=
  match (b.slot i).coveredSlot with
  | some s => b.spareLost i s reason
  | none =>
    if (b.slot i).revertMark then b.revertingLost i reason
    else
      match b.coverTarget i reason with
      | some t => b.takeCover i t reason
      | none => (b.detachSlot i).dropLinks (fun l => l.endsOn i)

/-- R90: a slot becomes LOST. Its entry to LOST is raised first, then what the loss brings: COVERED or the LOST of the slot
it held, then LINK DROPPED (R169 leaves the order open; DESIGN CHOICE, unsafe, log 36). -/
def Blocks.lose (b : Blocks) (i : SlotId) (reason : LossReason) : Blocks :=
  let b := b.modSlot i (fun r => { r with lostReason := some reason, attention := false })
  let b := b.changeState i .lost
  let b := (b.powerOff i).tally Episode.countSlotLost
  b.settleLoss i reason

/-- R89: the states in which an unanswered or refused order makes its slot LOST. -/
def SlotState.inService : SlotState → Bool
  | .identifying | .loading | .live => true
  | _ => false

/-- R89: a slot becomes LOST on an order's outcome, in the states in which the cause is taken. -/
def Blocks.loseInService (b : Blocks) (i : SlotId) (reason : LossReason) : Blocks :=
  if (b.slot i).state.inService then b.lose i reason else b

/-- R92: a FRESH completion of an order addressed to a LIVE slot is a restart of its card. -/
def Blocks.cardRestart (b : Blocks) (i : SlotId) : Blocks :=
  if b.isLive i then
    let b := b.enterState i .identifying
    let b := (b.modSlot i (fun r => { r with latestId := some .fresh, attention := false })).startDeadline i
    (b.slotInPlace i).tally Episode.countSlotFresh
  else b

/-! ### The merge (R101 to R103) -/

/-- What the merge decides for one group of one port. -/
structure MergeChoice where
  copy : Bool
  write : Bool
  mark : Bool
  deriving DecidableEq, Repr

/-- How a card reported a group: fit, and equal to the table's. `none` is a group reported absent. -/
structure Reported where
  fit : Bool
  equal : Bool
  deriving DecidableEq, Repr

/-- R101: the merge function's table. -/
def MergeFunction.choose (f : MergeFunction) (r : Option Reported) : MergeChoice :=
  match r with
  | none => { copy := false, write := true, mark := false }
  | some r =>
    match f with
    | .stored => { copy := false, write := true, mark := false }
    | .card => { copy := true, write := !r.fit, mark := false }
    | .agree =>
      if r.fit && r.equal then { copy := false, write := false, mark := false }
      else { copy := false, write := true, mark := true }
    | .fill => { copy := r.fit, write := !r.fit, mark := false }

/-- The report of a group a card never had set (R99), and of a card with no stored config (R100). -/
def PortReport.absent : PortReport := { line := none, level := none, signal := none, admin := none }

/-- R97, R99: a level pair in range. -/
def levelFits (v : Int) : Bool := decide (-120 ≤ v) && decide (v ≤ 60)

/-- R101 for one port: the table record after the merge, the groups to be written, and the groups that differed or
were unfit under AGREE. -/
def mergePort (fn : MergeFunction) (groups : GroupSet) (p : PortRec) (r : PortReport) :
    PortRec × GroupSet × GroupSet :=
  let line := r.line.map (fun v =>
    ({ fit := decide (v.1 ≤ 15) && decide (v.2 ≤ 3), equal := v.1 == p.lineKind && v.2 == p.termination } : Reported))
  let level := r.level.map (fun v =>
    ({ fit := levelFits v.1 && levelFits v.2, equal := v.1 == p.txLevel && v.2 == p.rxLevel } : Reported))
  let signal := r.signal.map (fun v =>
    ({ fit := decide (v.1 ≤ 7) && decide (v.2 ≤ 15), equal := v.1 == p.scheme && v.2 == p.timing } : Reported))
  let admin := r.admin.map (fun v => ({ fit := true, equal := v == p.blocked } : Reported))
  let cLine := fn.choose line
  let cLevel := fn.choose level
  let cSignal := fn.choose signal
  let cAdmin := fn.choose admin
  let p := match r.line with
    | some v => if groups.line && cLine.copy then { p with lineKind := min v.1 15, termination := min v.2 3 } else p
    | none => p
  let p := match r.level with
    | some v => if groups.level && cLevel.copy then
        { p with txLevel := clampInt (-120) 60 v.1, rxLevel := clampInt (-120) 60 v.2 } else p
    | none => p
  let p := match r.signal with
    | some v => if groups.signal && cSignal.copy then { p with scheme := min v.1 7, timing := min v.2 15 } else p
    | none => p
  let p := match r.admin with
    | some v => if groups.admin && cAdmin.copy then { p with blocked := v } else p
    | none => p
  (p,
   { line := groups.line && cLine.write, level := groups.level && cLevel.write
     signal := groups.signal && cSignal.write, admin := groups.admin && cAdmin.write },
   { line := groups.line && cLine.mark, level := groups.level && cLevel.mark
     signal := groups.signal && cSignal.mark, admin := groups.admin && cAdmin.mark })

/-- No group. -/
def GroupSet.isEmpty (g : GroupSet) : Bool := !g.line && !g.level && !g.signal && !g.admin

/-- R101 to R103 for one port of a slot: the table, the mark with its notice, and TEST set to NORMAL. The groups to
be written join the list. The ports of one merge are taken from 0 up (log 26). -/
def Blocks.mergeOne (plan : Plan) (i : SlotId) (reports : List PortReport) (acc : Blocks × List GroupSet)
    (p : Fin 32) : Blocks × List GroupSet :=
  let b := acc.1
  let m := mergePort plan.mergeFunction plan.mergeGroups (b.port i p) ((reports[p.val]?).getD .absent)
  let marked := !m.2.2.isEmpty
  let rec1 := { m.1 with test := .normal }
  let rec2 := if plan.mergeFunction = .agree then
      { rec1 with
        disagreed := marked
        disagreements := if marked then satAdd 255 rec1.disagreements else rec1.disagreements }
    else rec1
  let b := b.modPort i p (fun _ => rec2)
  let b := if plan.mergeFunction = .agree ∧ marked = true then b.raise (.slotDisagreed i p.val m.2.2) else b
  (b, acc.2 ++ [m.2.1])

/-- R101, R103: the merge, in one step, over the plan's ports; the loading goes on to its write runs and the read buffer is
emptied. R103 gives no order among the DISAGREED notices of one merge: they are raised lowest port first (DESIGN CHOICE,
unsafe, log 26). -/
def Blocks.merge (b : Blocks) (plan : Plan) (i : SlotId) (reports : List PortReport) : Blocks :=
  let m := (portsBelow plan.portCount).foldl (Blocks.mergeOne plan i reports) (b, [])
  m.1.modSlot i (fun r => { r with loading := some { step := .writes, next := 0, write := m.2 }, readBuffer := [] })

/-! ### Loading (R87, R98, R100, R104, R112, R114) -/

/-- R87, R98, R100, R114: a loading begins. A spare that holds a slot reads and merges nothing, and its write runs
are the cover load's, counted from 0; a cover load that was done is not done from here until the spare is LIVE again
(DESIGN CHOICE, unsafe, log 35). -/
def Blocks.beginLoading (b : Blocks) (i : SlotId) : Blocks :=
  let b := b.modSlot i (fun r => { r with writeSet := [], readBuffer := [] })
  let r := b.slot i
  match r.coveredSlot, r.plan with
  | some _, _ =>
    b.modSlot i (fun r => { r with
      loading := some { step := .writes, next := 0, write := [] }, coverLoad := some { runs := 0, done := false } })
  | none, some plan =>
    if r.identity.any Identity.storedConfig then
      b.modSlot i (fun r => { r with loading := some { step := .reads, next := 0, write := [] } })
    else b.merge plan i []
  | none, none => b

/-- R84, R85, R91: an IDENTIFY was answered DONE with a record. A fresh result was reported before only if the latest
identification still says FRESH, and HELD makes it absent, so a restart followed by a freeze is reported again (DESIGN
CHOICE, unsafe, log 31). The STATE notices are raised before ALARM (DESIGN CHOICE, unsafe, log 36). -/
def Blocks.identified (b : Blocks) (i : SlotId) (id : Identity) : Blocks :=
  let b := b.modSlot i (fun r => { r with identity := some id })
  let r := b.slot i
  match r.plan with
  | none => b
  | some plan =>
    if !plan.fits id then b.loseInService i .mismatch
    else
      let intact := r.storedTerm == some id.term
      match r.state with
      | .identifying =>
        if intact then
          let b := b.modSlot i (fun r => { r with latestId := some .intact })
          let b := (b.enterState i .live).tally Episode.countSlotIntact
          if id.cause = .alarm then b.raise (.slotAlarm i id.cause) else b
        else
          let reported := r.latestId == some .fresh
          let b := b.modSlot i (fun r => { r with latestId := some .fresh })
          let b := b.enterState i .loading
          let b := if reported then b else (b.slotInPlace i).tally Episode.countSlotFresh
          b.beginLoading i
      | .live =>
        let b := b.modSlot i (fun r => { r with attention := false })
        if intact then (if id.cause = .alarm then b.raise (.slotAlarm i id.cause) else b)
        else
          let b := b.modSlot i (fun r => { r with latestId := some .fresh })
          let b := (b.enterState i .loading).startDeadline i
          let b := (b.slotInPlace i).tally Episode.countSlotFresh
          b.beginLoading i
      | _ => b

/-- R86: SET TERM completed DONE for a slot in LOADING (its order is abandoned when it leaves LOADING, R83). A spare
loaded while it holds a slot has done its cover load (R114). -/
def Blocks.termGiven (b : Blocks) (i : SlotId) (term : Nat) : Blocks :=
  if (b.slot i).state = .loading then
    let b := b.modSlot i (fun r => { r with
      storedTerm := some term
      coverLoad := r.coverLoad.map (fun c => { c with done := true }) })
    b.enterState i .live
  else b

/-- R100: a READ PORTS run of a loading completed DONE. -/
def Blocks.runRead (b : Blocks) (i : SlotId) (records : List (List Byte)) : Blocks :=
  let r := b.slot i
  match r.loading, r.plan with
  | some ld, some plan =>
    let buffer := r.readBuffer ++ records.map (fun bytes => (readPortReport bytes).getD .absent)
    if runsOf plan.portCount ≤ ld.next + 1 then b.merge plan i buffer
    else b.modSlot i (fun r => { r with readBuffer := buffer, loading := some { ld with next := ld.next + 1 } })
  | _, _ => b

/-- R104: a write run has completed; after the last one the write set is served. -/
def Loading.advance (ports : Nat) (ld : Loading) : Loading :=
  if runsOf ports ≤ ld.next + 1 then { ld with step := .writeSet } else { ld with next := ld.next + 1 }

/-- R104, R114: a WRITE PORTS run of a loading completed DONE; in a spare that holds a slot it is a run of the cover
load. -/
def Blocks.runWritten (b : Blocks) (i : SlotId) : Blocks :=
  b.modSlot i (fun r => { r with
    loading := r.loading.map (Loading.advance (b.sourcePorts i))
    coverLoad := r.coverLoad.map (fun c => { c with runs := c.runs + 1 }) })

/-- R112: a run of the cover load completed DONE; it counts toward the cover it was placed for (log 21). -/
def Blocks.coverRunWritten (b : Blocks) (i held : SlotId) (run : Nat) : Blocks :=
  let r := b.slot i
  if r.coveredSlot = some held ∧ r.coverLoad.any (fun c => c.runs == run) = true then
    b.modSlot i (fun r => { r with coverLoad := r.coverLoad.map (fun c => { c with runs := c.runs + 1 }) })
  else b

/-- R118: the revert of slot `s` completes. -/
def Blocks.completeRevert (b : Blocks) (spare s : SlotId) : Blocks :=
  let restored := b.linkIds (fun l => l.epA.home == some s || l.epB.home == some s)
  let b := (b.detachSlot spare).restoreLinks s
  let b := b.endHold spare
  let b := b.modSlot s (fun r => { r with revertMark := false, coverReason := none })
  restored.foldl Blocks.returnLink b

/-- R117, R119: the outcome of a CLEAR to the spare. `reverts` says that the revert it was placed for is still in
progress. -/
def Blocks.cleared (b : Blocks) (i : SlotId) (reverts : Bool) (out : OrderOutcome) : Blocks :=
  match out with
  | .refused => b.loseInService i .mismatch
  | .noAnswer => b.loseInService i .silent
  | .done =>
    match (b.slot i).coveredSlot with
    | none => b
    | some s =>
      if reverts then b.completeRevert i s
      else (b.slotInPlace i).modSlot i (fun r => { r with coverLoad := some { runs := 0, done := false } })
  | .fresh =>
    match (b.slot i).coveredSlot with
    | none => b.cardRestart i
    | some s => if reverts then (b.completeRevert i s).cardRestart i else b.cardRestart i

/-- R86, R87, R89, R92, R104, R106, R112: a WRITE PORTS, READ PORTS or SET TERM did not complete DONE. -/
def Blocks.orderFailed (b : Blocks) (i : SlotId) (out : OrderOutcome) : Blocks :=
  match out with
  | .done => b
  | .noAnswer => b.loseInService i .silent
  | .refused => b.loseInService i .mismatch
  | .fresh => if b.isLive i then b.cardRestart i else b.loseInService i .mismatch

/-- R83 to R87, R91, R100, R104, R106, R112, R117: an outcome of an order the registry placed. The outcome of an
abandoned order is discarded. A FRESH completion of an IDENTIFY loses its slot, a LIVE one too, as R84 and R91 give, and
is no restart by R92 (DESIGN CHOICE, unsafe, log 30). -/
def Blocks.registryOutcome (b : Blocks) (o : BusOrder) (use : RegistryUse) (out : OrderOutcome)
    (records : List (List Byte)) : Blocks :=
  let i := o.slot
  let abandoned := ((b.slot i).order).any RegistryOrder.abandoned
  let b := b.modSlot i (fun r => { r with order := none })
  if abandoned then b
  else
    match use with
    | .identify =>
      match out with
      | .done =>
        match records.head?.bind readIdentity with
        | some id => b.identified i id
        | none => b
      | .noAnswer => b.loseInService i .silent
      | .refused | .fresh => b.loseInService i .mismatch
    | .loadRead => if out = .done then b.runRead i records else b.orderFailed i out
    | .loadWrite => if out = .done then b.runWritten i else b.orderFailed i out
    | .writeSet => b.orderFailed i out
    | .coverRun held run => if out = .done then b.coverRunWritten i held run else b.orderFailed i out
    | .setTerm term => if out = .done then b.termGiven i term else b.orderFailed i out
    | .clear reverts => b.cleared i reverts out

/-- R89, R92, R157: the report of an order that another requester placed. A NO_ANSWER loses a slot in IDENTIFYING or
LOADING too, as R89 gives, be the order a CARD PORTS (DESIGN CHOICE, unsafe, log 32). -/
def Blocks.busReport (b : Blocks) (i : SlotId) (out : OrderOutcome) : Blocks :=
  match out with
  | .fresh => b.cardRestart i
  | .noAnswer => b.loseInService i .silent
  | .done | .refused => b

/-! ### What a slot wants, and its placement (R83, R104, R106, R112, R117) -/

/-- An order that names no port (R149). -/
def plainOrder (i : SlotId) (code : OrderCode) (send : List (List Byte)) (use : RegistryUse) : BusOrder :=
  { slot := i, code, first := 0, count := 1, send, purpose := .registry use }

/-- R99, R112: the records of consecutive ports, from the card's record source, as they stand in the table. -/
def Blocks.portRecords (b : Blocks) (i : SlotId) (first count : Nat) (groups : Nat → GroupSet)
    (test : PortRec → TestState) : List (List Byte) :=
  let src := b.recordSource i
  ((portsBelow 32).filter (fun p => decide (first ≤ p.val) && decide (p.val < first + count))).map
    (fun p => portRecordBytes (groups p.val) (test (b.port src p)) (b.port src p))

/-- The groups of no plan. -/
def GroupSet.none : GroupSet := { line := false, level := false, signal := false, admin := false }

/-- The merge groups of the plan that directs what is written to the card (R106, R112). -/
def Blocks.sourceGroups (b : Blocks) (i : SlotId) : GroupSet := ((b.sourcePlan i).map Plan.mergeGroups).getD .none

/-- R104, R112: a write run; every record carries TEST as NORMAL. -/
def Blocks.writeRun (b : Blocks) (i : SlotId) (run portCount : Nat) (groups : Nat → GroupSet) (use : RegistryUse) :
    BusOrder :=
  { slot := i, code := .writePorts, first := 8 * run, count := runCount portCount run
    send := b.portRecords i (8 * run) (runCount portCount run) groups (fun _ => .normal), purpose := .registry use }

/-- R106: the length of the unbroken succession of ports at the head of a write set, at most 8. -/
def successionLength : (fuel : Nat) → List (Fin 32) → Nat
  | 0, _ => 0
  | _, [] => 0
  | _ + 1, [_] => 1
  | n + 1, p :: q :: rest => if q.val = p.val + 1 then 1 + successionLength n (q :: rest) else 1

/-- R106: a WRITE PORTS of the write set, if it holds a port. Its records carry the table's test state, in a loading too
(R104; DESIGN CHOICE against R102, unsafe, log 33). -/
def Blocks.writeSetOrder (b : Blocks) (i : SlotId) : Option BusOrder :=
  match (b.slot i).writeSet with
  | [] => none
  | p :: rest =>
    let count := successionLength 8 (p :: rest)
    some { slot := i, code := .writePorts, first := p.val, count
           send := b.portRecords i p.val count (fun _ => b.sourceGroups i) PortRec.test
           purpose := .registry .writeSet }

/-- R87, R100, R104, R106, R114: the order a loading wants next. R106 asks that no attention IDENTIFY be wanted: one is
wanted of a LIVE slot alone (R91), so an attention pending kept from before a freeze or a restart (log 16) does not hold back
the write set of a loading (DESIGN CHOICE, unsafe, log 37). -/
def Blocks.loadingOrder (b : Blocks) (i : SlotId) (ld : Loading) : BusOrder :=
  let ports := b.sourcePorts i
  let holding := (b.slot i).coveredSlot.isSome
  match ld.step with
  | .reads =>
    { slot := i, code := .readPorts, first := 8 * ld.next, count := runCount ports ld.next, send := []
      purpose := .registry .loadRead }
  | .writes =>
    let groups (p : Nat) : GroupSet := if holding then b.sourceGroups i else (ld.write[p]?).getD (b.sourceGroups i)
    b.writeRun i ld.next ports groups .loadWrite
  | .writeSet | .setTerm =>
    match b.writeSetOrder i with
    | some o => o
    | none =>
      let term := (b.slot i).nextTerm
      plainOrder i .setTerm [[byte term]] (.setTerm term)

/-- R106, R112, R117: the order a LIVE slot wants: the attention IDENTIFY, the next run of the cover load, a CLEAR,
then its write set. -/
def Blocks.liveOrder (b : Blocks) (i : SlotId) : Option BusOrder :=
  let r := b.slot i
  let ports := b.sourcePorts i
  if r.attention then some (plainOrder i .identify [] .identify)
  else
    match r.coveredSlot, r.coverLoad with
    | some s, some c =>
      if c.runs < runsOf ports ∧ (b.slot s).revertMark = false then
        some (b.writeRun i c.runs ports (fun _ => b.sourceGroups i) (.coverRun s c.runs))
      else if r.clearWanted then some (plainOrder i .clear [] (.clear true))
      else if runsOf ports ≤ c.runs then b.writeSetOrder i
      else none
    | _, _ => if r.clearWanted then some (plainOrder i .clear [] (.clear true)) else b.writeSetOrder i

/-- R83: the order wanted for a slot that has none outstanding. -/
def Blocks.wanted (b : Blocks) (i : SlotId) : Option BusOrder :=
  let r := b.slot i
  if r.order.isSome then none
  else
    match r.state, r.loading with
    | .identifying, _ => some (plainOrder i .identify [] .identify)
    | .loading, some ld => some (b.loadingOrder i ld)
    | .live, _ => b.liveOrder i
    | _, _ => none

/-- R102, R112: at the first run of a cover load, the test state of the held slot's ports is set to NORMAL. -/
def Blocks.resetHeldTests (b : Blocks) (s : SlotId) : Blocks :=
  (portsBelow (((b.slot s).plan.map Plan.portCount).getD 0)).foldl
    (fun b p => b.modPort s p (fun r => { r with test := .normal })) b

/-- What the placement of an order changes beside the queue (R78, R86, R98, R112, R117). A CLEAR once placed is wanted
no more, and is not wanted again when it is abandoned (DESIGN CHOICE, unsafe, log 34). -/
def Blocks.notePlacement (b : Blocks) (i : SlotId) (o : BusOrder) : Blocks :=
  let b := b.modSlot i (fun r => { r with order := some { code := o.code, abandoned := false } })
  match o.code with
  | .writePorts =>
    let b := b.modSlot i (fun r => { r with
      writeSet := r.writeSet.filter (fun p => !(decide (o.first ≤ p.val) && decide (p.val < o.first + o.count))) })
    let firstRun := match o.purpose with
      | .registry .loadWrite => o.first == 0
      | .registry (.coverRun _ run) => run == 0
      | _ => false
    match (b.slot i).coveredSlot with
    | some s => if firstRun then b.resetHeldTests s else b
    | none => b
  | .setTerm => b.modSlot i (fun r => { r with loading := r.loading.map (fun ld => { ld with step := .setTerm }) })
  | .clear => b.modSlot i (fun r => { r with clearWanted := false })
  | _ => b

/-- R83, R150: the slot's wanted order is placed at the tail of the registry queue. -/
def Blocks.placeWanted (b : Blocks) (i : SlotId) : Blocks :=
  match b.wanted i with
  | none => b
  | some o => { b with bus := { b.bus with registryQueue := b.bus.registryQueue ++ [o] } }.notePlacement i o

/-- R83: every slot's wanted order is placed, lowest slot first (DESIGN CHOICE, unsafe, log 26). -/
def Blocks.placeRegistry (b : Blocks) : Blocks := allSlots.foldl Blocks.placeWanted b

/-- R112: the last run of a spare's cover load has completed, its write set is empty and no write is outstanding. -/
def Blocks.coverLoadEnds (b : Blocks) (i : SlotId) : Bool :=
  let r := b.slot i
  let ports := b.sourcePorts i
  r.state == .live && r.coveredSlot.isSome && r.coverLoad.any (fun c => !c.done && decide (runsOf ports ≤ c.runs))
    && r.writeSet.isEmpty && !(r.order.any (fun o => o.code == .writePorts))

/-- R112: the cover load's done field becomes yes. -/
def Blocks.finishCoverLoad (b : Blocks) (i : SlotId) : Blocks :=
  if b.coverLoadEnds i then
    b.modSlot i (fun r => { r with coverLoad := r.coverLoad.map (fun c => { c with done := true }) })
  else b

def Blocks.finishCoverLoads (b : Blocks) : Blocks := allSlots.foldl Blocks.finishCoverLoad b

end Sys2Proof.Machine
end

