-- ==== Sys2Proof/Machine/Bus.lean ====
section
/-! DEFINITION. The card bus controller (R149 to R157, R161): the grant, the phases of an attempt, its end, and the
delivery of outcomes. The cut at a freeze stands here too. -/

namespace Sys2Proof.Machine

/-! ### Heads and attempt counts (R149) -/

def CardBus.head (bus : CardBus) : Requester → Option BusOrder
  | .registry => bus.registryQueue.head?
  | .relink => bus.relinkQueue.head?
  | .passThrough => bus.pass

def CardBus.attempts (bus : CardBus) : Requester → Nat
  | .registry => bus.registryAttempts
  | .relink => bus.relinkAttempts
  | .passThrough => bus.passAttempts

def CardBus.setAttempts (bus : CardBus) (n : Nat) : Requester → CardBus
  | .registry => { bus with registryAttempts := n }
  | .relink => { bus with relinkAttempts := n }
  | .passThrough => { bus with passAttempts := n }

/-- R156: the head leaves its queue or place. -/
def CardBus.dropHead (bus : CardBus) : Requester → CardBus
  | .registry => { bus with registryQueue := bus.registryQueue.tail }
  | .relink => { bus with relinkQueue := bus.relinkQueue.tail }
  | .passThrough => { bus with pass := none }

def CardBus.setTransfer (bus : CardBus) (tr : Option Transfer) : CardBus := { bus with transfer := tr }

/-! ### The grant (R151, R152) -/

/-- R151: the fixed cycle. -/
def Requester.next : Requester → Requester
  | .registry => .relink
  | .relink => .passThrough
  | .passThrough => .registry

/-- R151: the requester has a head waiting, and is not passed over for the pause. -/
def CardBus.waiting (bus : CardBus) (r : Requester) : Bool :=
  (bus.head r).isSome && (!bus.paused || r == .passThrough)

/-- R151: the first requester of the cycle with a head waiting, from the one after last granted. -/
def CardBus.turn (bus : CardBus) : Option Requester :=
  [bus.lastGranted.next, bus.lastGranted.next.next, bus.lastGranted].find? bus.waiting

/-- R151, R153: the bus is granted when it is free and a head is waiting, and an attempt begins with the wait for
the acknowledge. -/
def CardBus.grant (bus : CardBus) : CardBus :=
  if bus.transfer.isSome then bus
  else
    match bus.turn.bind (fun r => (bus.head r).map (fun o => (r, o))) with
    | none => bus
    | some (r, o) =>
      { bus with
        lastGranted := r
        transfer := some
          { order := o, requester := r, phase := .acknowledge, given := [], taken := 0, wait := bus.phaseTimeout } }

def Blocks.grant (b : Blocks) : Blocks := { b with bus := b.bus.grant }

/-! ### Phases (R153, R155) -/

/-- R153, R154: the attempt goes on to a phase, and a wait begins with the phase timeout in force. -/
def CardBus.goTo (bus : CardBus) (tr : Transfer) (phase : Phase) : CardBus :=
  bus.setTransfer (some { tr with phase, wait := bus.phaseTimeout })

/-- R155: the attempt fails while its card is selected and acknowledged, and goes to RELEASE. -/
def CardBus.fail (bus : CardBus) (tr : Transfer) : CardBus := bus.goTo tr (.release .failed)

/-- R153: a completion byte given in answer to the header. -/
def CardBus.headerCompletion (bus : CardBus) (tr : Transfer) (code : Byte) : CardBus :=
  match Completion.ofCode code.toNat with
  | some .refused => bus.goTo tr (.release (.completed .refused))
  | some .fresh => bus.goTo tr (.release (.completed .fresh))
  | _ => bus.fail tr

/-- R153: the card acknowledges its selection; the header is sent. -/
def CardBus.acknowledged (bus : CardBus) : CardBus :=
  match bus.transfer with
  | some tr => if tr.phase = .acknowledge then bus.goTo tr .header else bus
  | none => bus

/-- R153: the card's answer to the header. -/
def CardBus.headerAnswered (bus : CardBus) (answer : HeaderAnswer) : CardBus :=
  match bus.transfer with
  | some tr =>
    if tr.phase = .header then
      match answer with
      | .completion code => bus.headerCompletion tr code
      | .accept => if tr.order.records = 0 then bus.goTo tr .complete else bus.goTo tr .data
    else bus
  | none => bus

/-- R153, R155, R179: a record moves in the DATA phase. -/
def CardBus.recordMoved (bus : CardBus) (bytes : List Byte) : CardBus :=
  match bus.transfer with
  | some tr =>
    let o := tr.order
    if tr.phase = .data then
      if 0 < o.fromCard then
        if recordFits o.code bytes then
          bus.goTo { tr with given := tr.given ++ [bytes] }
            (if o.fromCard ≤ tr.given.length + 1 then .complete else .data)
        else bus.fail tr
      else bus.goTo { tr with taken := tr.taken + 1 } (if o.send.length ≤ tr.taken + 1 then .complete else .data)
    else bus
  | none => bus

/-! ### The end of an attempt (R153, R156, R157) -/

def Completion.outcome : Completion → OrderOutcome
  | .done => .done
  | .refused => .refused
  | .fresh => .fresh

/-- R157: the outcome goes to the requester that placed the order, and then, for an order of another requester,
FRESH and NO_ANSWER go to the slot registry too. What the engine judges of a flagged link (R42) and of a refusal path
(R36) follows both, so the last NO_ANSWER of a flagged link on a slot that is lost without cover drops the link (DESIGN
CHOICE, unsafe, log 8). -/
def Blocks.deliver (t : Nat) (b : Blocks) (o : BusOrder) (out : OrderOutcome) (given : List (List Byte)) : Blocks :=
  let records := if out = .done then given else []
  match o.purpose with
  | .registry use => b.registryOutcome o use out records
  | .engine e => (b.engineOutcome t o e out records).busReport o.slot out
  | .passThrough => { b with passOutcome := some (.outcome out records) }.busReport o.slot out

/-- R156: the order leaves its queue or place, the new head's attempt count is 0, and the outcome is delivered. The head
is the order of the transfer (R151), with the marks it was given since the grant (log 24). -/
def Blocks.finishOrder (t : Nat) (b : Blocks) (tr : Transfer) (out : OrderOutcome) : Blocks :=
  match b.bus.head tr.requester with
  | none => b
  | some o => Blocks.deliver t { b with bus := (b.bus.dropHead tr.requester).setAttempts 0 tr.requester } o out tr.given

/-- R153, R156, R161: RELEASE ends with the ending the attempt has, and the bus is free. -/
def Blocks.endAttempt (t : Nat) (b : Blocks) (tr : Transfer) (ending : Ending) : Blocks :=
  let b := { b with bus := b.bus.setTransfer none }
  match ending with
  | .cut => b
  | .completed c => b.finishOrder t tr c.outcome
  | .failed =>
    if b.bus.attempts tr.requester < 2 then
      { b with bus := b.bus.setAttempts (b.bus.attempts tr.requester + 1) tr.requester }
    else b.finishOrder t tr .noAnswer

/-- R153: the card's acknowledge is withdrawn, so RELEASE ends. -/
def Blocks.releaseEnded (t : Nat) (b : Blocks) : Blocks :=
  match b.bus.transfer with
  | some tr =>
    match tr.phase with
    | .release ending => b.endAttempt t tr ending
    | _ => b
  | none => b

/-- R155: a completion byte given in ACKNOWLEDGE is malformed: it is none of the three, or the order's records have not
moved. -/
def Transfer.earlyMalformed (tr : Transfer) (code : Byte) : Bool :=
  tr.phase == .acknowledge && ((Completion.ofCode code.toNat).isNone || decide (0 < tr.order.records))

/-- R153, R155: a completion byte. In HEADER it answers the header; before the records of the order have moved it is
malformed; in COMPLETE it is the completion. A failed attempt whose card never acknowledged ends at once. One of the three
in ACKNOWLEDGE for an order without records, and one in RELEASE, change nothing (DESIGN CHOICE, unsafe, log 15). -/
def Blocks.completionGiven (t : Nat) (b : Blocks) (code : Byte) : Blocks :=
  match b.bus.transfer with
  | some tr =>
    match tr.phase with
    | .acknowledge => if tr.earlyMalformed code then b.endAttempt t tr .failed else b
    | .header => { b with bus := b.bus.headerCompletion tr code }
    | .data => { b with bus := b.bus.fail tr }
    | .complete =>
      match Completion.ofCode code.toNat with
      | some c => { b with bus := b.bus.goTo tr (.release (.completed c)) }
      | none => { b with bus := b.bus.fail tr }
    | .release _ => b
  | none => b

/-- R153, R154, R156: the wait on the card runs out. -/
def Blocks.phaseTimedOut (t : Nat) (b : Blocks) : Blocks :=
  match b.bus.transfer with
  | some tr =>
    match tr.phase with
    | .acknowledge => b.endAttempt t tr .failed
    | .header | .data | .complete => { b with bus := b.bus.fail tr }
    | .release ending => b.endAttempt t tr ending
  | none => b

/-- R155: the card withdraws its acknowledge before it is deselected. RELEASE then ends at RELEASE_END or at its
wait's end (DEDUCED, unsafe, log 14). -/
def CardBus.acknowledgeWithdrawn (bus : CardBus) : CardBus :=
  match bus.transfer with
  | some tr =>
    match tr.phase with
    | .header | .data | .complete => bus.fail tr
    | .acknowledge | .release _ => bus
  | none => bus

/-! ### The cut at a freeze (R152, R161) -/

/-- R161: the cut transfer goes to RELEASE; one whose card never acknowledged ends at the deselection (R153). -/
def CardBus.cutTransfer (bus : CardBus) : CardBus :=
  match bus.transfer with
  | none => bus
  | some tr =>
    match tr.phase with
    | .acknowledge => bus.setTransfer none
    | .release _ => bus.setTransfer (some { tr with phase := .release .cut })
    | .header | .data | .complete => bus.goTo tr (.release .cut)

/-- R161: the pass-through order is the one cut. -/
def CardBus.cutsPass (bus : CardBus) : Bool :=
  bus.transfer.any (fun tr => tr.requester == .passThrough && tr.phase != .release .cut)

/-- R161: the card bus controller's part of a freeze. -/
def Blocks.cutBus (b : Blocks) : Blocks :=
  let cutsPass := b.bus.cutsPass
  let bus := b.bus.cutTransfer
  { b with
    bus := { bus with
      registryQueue := [], relinkQueue := [], registryAttempts := 0, relinkAttempts := 0, paused := true
      pass := if cutsPass then none else bus.pass
      passAttempts := if cutsPass then 0 else bus.passAttempts }
    passOutcome := if cutsPass then some .cut else b.passOutcome }

end Sys2Proof.Machine
end

