-- ==== Sys2Proof/Machine/Episode.lean ====
section
/-! DEFINITION. The episode controller (R48 to R63, R68 to R73): opening and closing a record, the freeze with its
part at each block, recovery, and the reports of the supply. -/

namespace Sys2Proof.Machine

def Blocks.setShelf (b : Blocks) (st : ShelfState) : Blocks := { b with ep := { b.ep with shelf := st } }

/-! ### Opening a record (R51, R60, R73) -/

/-- R60: the episode counter advances. -/
def advanceCounter (n : Nat) : Nat := if n = 65535 then 1 else n + 1

/-- R60: a new record. `fmin` is the smaller filtered value of the counted feeds, absent when none is counted. -/
def Episode.opened (number : Nat) (cause : EpisodeCause) (t : Nat) (fmin : Option Nat) : Episode :=
  { number, cause, begun := t, ended := none, redips := 0, lowestFeed := fmin.getD Config.voltageMax, frozen := none,
    verified := 0, inOrder := 0, late := 0, dropped := 0, deferredAtEnd := none, slotsIntact := 0, slotsFresh := 0,
    slotsLost := 0, slotsCovered := 0, firstActivation := none }

/-- R51, R60, R73: a record opens as the newest of at most four, and EPISODE BEGUN is raised. -/
def Blocks.openEpisode (t : Nat) (cause : EpisodeCause) (fmin : Option Nat) (b : Blocks) : Blocks :=
  let n := advanceCounter b.ep.counter
  { b with ep := { b.ep with
      counter := n
      history := (Episode.opened n cause t fmin :: b.ep.history).take Config.historyPlaces } }.raise
    (.episode .begun n cause 0)

/-! ### The freeze (R54 to R60) -/

/-- R55, R83: every registry order is ended without an outcome. -/
def Blocks.endRegistryOrders (b : Blocks) : Blocks :=
  allSlots.foldl (fun b i => b.modSlot i (fun r => { r with order := none })) b

/-- R56: SUSPECT when both endpoint slots are KEEP slots, PENDING otherwise. -/
def Blocks.frozenState (b : Blocks) (l : Link) : LinkState := if b.keepsBoth l then .suspect else .pending

/-- R56, R57: a link after the freeze, judged on the plans as they stand. -/
def Blocks.frozenLink (b : Blocks) (l : Link) : Link :=
  match l.state with
  | .carried => { l with late := false, state := b.frozenState l }
  | .verifying | .preparing | .ready | .activating =>
    if l.removal then { l with late := false, state := .releasing } else { l with late := false, state := b.frozenState l }
  | .deferred => { l with late := false, state := .pending, deferral := none }
  | .pending | .suspect | .releasing => { l with late := false }

/-- R56, R57: the relink engine's part of a freeze. -/
def Blocks.freezeLinks (b : Blocks) : Blocks :=
  let b := b.mapLinks b.frozenLink
  let keep (id : Nat) : Bool := (b.link id).any (fun l => l.state != .releasing)
  let b := { b with engine := { b.engine with
    queue := b.engine.queue.filter keep, deferred := [], inFlight := [], backlog := [], hold := none } }
  (b.linkIds (fun l => l.state != .releasing)).foldl Blocks.joinQueue b

/-- R55, R143: what a freeze does with one slot. Where the slot is a spare, the LOST notice of the slot it covers (R113) is
raised with its own, out of the lowest-first order of the freeze (DESIGN CHOICE, unsafe, log 36). -/
def Blocks.freezeSlot (b : Blocks) (i : SlotId) : Blocks :=
  match (b.slot i).plan with
  | none => b
  | some p =>
    match p.policy with
    | .shed =>
      if (b.powerRec i).closed = true ∨ i ∈ b.power.queue then (b.powerShed i).enterState i .dark else b
    | .keep => if (b.slot i).state.inService then b.enterState i .held else b

/-- R55, R88: every return deadline timer stops. -/
def Blocks.stopDeadlines (b : Blocks) : Blocks :=
  allSlots.foldl (fun b i => b.modSlot i (fun r => { r with deadline := none })) b

/-- R60: the re-dip count goes up by one. -/
def Episode.countRedip (e : Episode) : Episode := { e with redips := satAdd 65535 e.redips }

/-- R60: the links frozen tally, set at the first freeze of the record. -/
def Episode.setFrozen (n : Nat) (e : Episode) : Episode := { e with frozen := some (e.frozen.getD n) }

/-- R62: recovery begins. -/
def Blocks.recoverSlot (b : Blocks) (i : SlotId) : Blocks :=
  match (b.slot i).state with
  | .held => (b.enterState i .identifying).startDeadline i
  | .ramping => b.startDeadline i
  | _ => b

/-- R62, R88: the shelf becomes RECOVERING, the bus resumes, and HELD slots are identified. -/
def Blocks.recover (b : Blocks) : Blocks :=
  allSlots.foldl Blocks.recoverSlot ({ b with bus := { b.bus with paused := false } }.setShelf .recovering)

/-- R54 to R61: the freeze, in one event at every block, with the record already open. After its parts the shelf is in
HOLDUP, or passes on to RECOVERING while the supply as reported is UP. -/
def Blocks.freeze (b : Blocks) : Blocks :=
  let b := b.cutBus.endRegistryOrders.freezeLinks
  let b := (allSlots.foldl Blocks.freezeSlot b).stopDeadlines
  let b := (b.tally (Episode.setFrozen b.engine.queue.length)).setShelf .holdup
  if b.ep.supply = .up then b.recover else b

/-! ### Reports of the supply (R49, R53, R62, R63) -/

/-- R53: a dip in SETTLING makes the open record one of cause FEED. -/
def Episode.overtaken (e : Episode) : Episode := { e with cause := .feed }

/-- R49: a DOWN or an UP as the feed monitor reports it. -/
def Blocks.supplyReport (t : Nat) (status : Supply) (fmin : Option Nat) (b : Blocks) : Blocks :=
  let b := { b with ep := { b.ep with supply := status } }
  match status with
  | .down =>
    match b.ep.shelf with
    | .standby => (b.openEpisode t .feed fmin).freeze
    | .settling => (b.tally (fun e => e.overtaken.countRedip)).freeze
    | .recovering => (b.tally Episode.countRedip).freeze
    | .cold | .holdup => b
  | .up =>
    match b.ep.shelf with
    | .holdup => b.recover
    | .cold | .standby | .settling | .recovering => b

/-- R69: the lowest filtered feed follows each smaller value handed while the record is open. -/
def Episode.handFeed (f : Nat) (e : Episode) : Episode := { e with lowestFeed := min f e.lowestFeed }

/-- R69, R131. -/
def Blocks.handFmin (b : Blocks) (fmin : Option Nat) : Blocks :=
  match fmin with
  | some f => b.tally (Episode.handFeed f)
  | none => b

/-! ### The close (R70, R71) -/

/-- R71: the record's last fields. -/
def Episode.close (t deferred : Nat) (e : Episode) : Episode :=
  { e with ended := some t, deferredAtEnd := some deferred }

/-- R70, R71: the open episode closes when its conditions hold. EPISODE ENDED follows every other notice of the event
(DESIGN CHOICE, unsafe, log 36). -/
def Blocks.judgeClose (t : Nat) (b : Blocks) : Blocks :=
  if b.closes then
    match b.ep.openRecord with
    | some e =>
      ((b.tally (Episode.close t b.engine.deferred.length)).setShelf .standby).raise
        (.episode .ended e.number e.cause e.redips)
    | none => b
  else b

/-! ### The end of an event -/

/-- R51, R54: in SETTLING the emptied in-flight set brings the drill's freeze. -/
def Blocks.judgeSettled (t : Nat) (b : Blocks) : Blocks :=
  if b.ep.shelf = .settling ∧ b.engine.inFlight = [] then Blocks.judgeEngine t b.freeze else b

/-- What the blocks judge once an event has been taken: the cover loads, the relink engine, SETTLING, the admission
queue, the close, the orders wanted, and the grant (DESIGN CHOICE, unsafe, log 6 and 9). -/
def Blocks.settle (t : Nat) (b : Blocks) : Blocks :=
  let b := (Blocks.judgeEngine t b.finishCoverLoads).standDown
  let b := (b.judgeSettled t).judgeAdmission
  (b.judgeClose t).placeRegistry.placeBacklog.grant

end Sys2Proof.Machine
end

