-- ==== Sys2Proof/Machine/Feed.lean ====
section
/-! DEFINITION. The feed monitor (R121 to R131): the filter, the statuses, the dips, arming, the budget, and the
reports to the episode controller and the power sequencer. -/

namespace Sys2Proof.Machine

/-! ### The filter and the feed status (R123 to R125) -/

/-- R123: the accumulator moves toward 16 times the sample by the gap divided by 2^k, rounded toward minus
infinity. -/
def filterStep (depth acc sample : Nat) : Nat := ((acc : Int) + (16 * (sample : Int) - acc) / 2 ^ depth).toNat

/-- R125: a feed's status from its new filtered value. -/
def judgeStatus (low good filtered : Nat) (status : FeedStatus) : FeedStatus :=
  if filtered < low then .low else if good ≤ filtered then .good else status

/-- R124: the first sample seeds the feed. -/
def FeedReading.seed (good sample : Nat) : FeedReading :=
  { acc := 16 * sample, status := if sample < good then .low else .good }

/-- R123, R125: a sample of a seeded feed. -/
def FeedReading.step (depth low good sample : Nat) (r : FeedReading) : FeedReading :=
  { acc := filterStep depth r.acc sample, status := judgeStatus low good (filterStep depth r.acc sample / 16) r.status }

def FeedMonitor.feed (m : FeedMonitor) : FeedId → Feed
  | .a => m.feedA
  | .b => m.feedB

def FeedMonitor.setFeed (m : FeedMonitor) (f : Feed) : FeedId → FeedMonitor
  | .a => { m with feedA := f }
  | .b => { m with feedB := f }

/-- R123 to R125: a present feed's sample. -/
def FeedMonitor.takeSample (m : FeedMonitor) (id : FeedId) (sample : Nat) : FeedMonitor :=
  let reading :=
    match (m.feed id).reading with
    | none => FeedReading.seed m.good sample
    | some r => r.step m.depth m.low m.good sample
  m.setFeed { m.feed id with reading := some reading } id

/-! ### Supply status, dips and arming (R126, R127, R129) -/

/-- R126, R127, R129: the supply status is judged, with what a change of it does to the dip counter and the arm
timer, and the event to be reported (R128). -/
def FeedMonitor.judgeSupply (m : FeedMonitor) : FeedMonitor × Option SupplyEvent :=
  if m.judgedSupply = m.supply then (m, none)
  else
    match m.judgedSupply with
    | .down =>
      let m := { m with supply := .down, dips := satAdd 65535 m.dips }
      if m.armed then (m, some .down) else ({ m with armTimer := none }, none)
    | .up =>
      let m := { m with supply := .up }
      if m.armed then (m, some .up)
      else if m.armTime = 0 then ({ m with armed := true, armTimer := none }, some .armed)
      else ({ m with armTimer := some m.armTime }, none)

/-- R130: the budget is computed. -/
def FeedMonitor.judgeBudget (m : FeedMonitor) : FeedMonitor := { m with budget := m.computeBudget }

/-! ### Reports (R128, R131) -/

/-- The status an event reports (R128). -/
def SupplyEvent.status : SupplyEvent → Supply
  | .armed => .up
  | .down => .down
  | .up => .up

/-- R128: the SUPPLY notice of an event. -/
def FeedMonitor.notice (m : FeedMonitor) (e : SupplyEvent) : Event :=
  .supply e m.supply (m.feedA.counted.map FeedReading.filtered) (m.feedB.counted.map FeedReading.filtered) m.budget m.dips

/-- R131: what the monitor holds once the budget has been reported. -/
def FeedMonitor.reported (m : FeedMonitor) : FeedMonitor := { m with lastReported := m.budget }

/-- R131: the budget at the power sequencer. -/
def Blocks.budgetReport (b : Blocks) (budget : Nat) : Blocks := { b with power := { b.power with budget } }

/-- R128: a report of the supply with the budget, to the power sequencer and then to the episode controller. Of the
notices it brings the SUPPLY notice is raised first, then the EPISODE notice and then those of the slots, where R169 leaves
the order of two blocks' notices open (DESIGN CHOICE, unsafe, log 36). -/
def Blocks.supplyReported (t : Nat) (m : FeedMonitor) (e : SupplyEvent) (b : Blocks) : Blocks :=
  let b := { b with power := { b.power with supply := e.status, budget := m.budget } }.raise (m.notice e)
  b.supplyReport t e.status m.fmin

/-- R128, R131: what the monitor tells the other blocks of its judgements: a supply event with the budget in one
report, or else a budget that differs from the one last reported. -/
def FeedMonitor.tell (t : Nat) (m : FeedMonitor) (e : Option SupplyEvent) (b : Blocks) : Blocks :=
  match e with
  | some e => b.supplyReported t m e
  | none => if m.budget ≠ m.lastReported then b.budgetReport m.budget else b

/-- R122: a sample of a present feed is taken whole at the monitor; an absent feed delivers none (log 4). -/
def FeedMonitor.sampled (m : FeedMonitor) (id : FeedId) (sample : Nat) : FeedMonitor × Option SupplyEvent :=
  let j := (m.takeSample id sample).judgeSupply
  (j.1.judgeBudget, j.2)

/-- R132: a feed's record under a new present setting. -/
def Feed.setPresent (v : Bool) (f : Feed) : Feed :=
  if v then (if f.present then f else { present := true, reading := none }) else { present := false, reading := none }

end Sys2Proof.Machine
end

