-- ==== Sys2Proof/Machine/Port.lean ====
section
/-! DEFINITION. The supervision port (R163 to R171): the receive framer, the waiting replies, the notice queue and the
sending line, and the end of an event, when what the blocks told the port reaches it. -/

namespace Sys2Proof.Machine

/-! ### The receive framer (R163, R164) -/

/-- R163, R164: the framer is back in HUNT with no bytes and its gap timer stopped. -/
def SupervisionPort.hunt (p : SupervisionPort) : SupervisionPort := { p with framer := .hunt, gap := none }

/-- R163: the framer keeps a byte, and its gap timer starts afresh. -/
def SupervisionPort.keep (p : SupervisionPort) (f : Framer) : SupervisionPort :=
  { p with framer := f, gap := some Config.gapTime }

/-- R164, R174: a complete frame's bytes after the length: the frame, when the check agrees. -/
def checkFrame (len : Nat) (bytes : List Byte) : Option Frame :=
  match bytes.take len, bytes.drop len with
  | kind :: tag :: body, [hi, lo] =>
    if crc16 (u16 len ++ kind :: tag :: body) = BitVec.ofNat 16 (ofU16 hi lo) then some { kind, tag, body } else none
  | _, _ => none

/-- R163, R164: a character at the framer, and the received frame it completes, if it does. -/
def SupervisionPort.character (p : SupervisionPort) (c : Byte) : SupervisionPort × Option Frame :=
  match p.framer with
  | .hunt => if c = Config.sync then (p.keep (.length []), none) else (p, none)
  | .length [] => (p.keep (.length [c]), none)
  | .length (hi :: _) =>
    if 2 ≤ ofU16 hi c ∧ ofU16 hi c ≤ 252 then (p.keep (.frame (ofU16 hi c) []), none) else (p.hunt, none)
  | .frame len got =>
    if got.length + 1 < len + 2 then (p.keep (.frame len (got ++ [c])), none) else (p.hunt, checkFrame len (got ++ [c]))

/-! ### The sending line (R170, R171) -/

/-- R170: a notice left the queue; at 16 notices with overflow pending, an OVERFLOW notice joins. -/
def SupervisionPort.noticeLeft (t : Nat) (p : SupervisionPort) : SupervisionPort :=
  match p.overflow with
  | some first =>
    if p.notices.length = Config.overflowLevel then
      { p with notices := p.notices ++ [{ event := .overflow first, time := t }], overflow := none }
    else p
  | none => p

/-- R171: when the line is free and a frame is waiting, the next one begins: the oldest reply, else the oldest
notice. -/
def SupervisionPort.begin (t : Nat) (p : SupervisionPort) : SupervisionPort :=
  match p.line, p.replies, p.notices with
  | .free, _ :: _, _ => { p with line := .reply }
  | .free, [], n :: rest => { p with line := .notice n, notices := rest }.noticeLeft t
  | _, _, _ => p

/-! ### Notices (R169, R170) -/

/-- R169: the mask lets the event's notice through. -/
def NoticeMask.enables (m : NoticeMask) : Event → Bool
  | .supply .. => m.supply
  | .episode .. => m.episode
  | .slotState .. => m.slot
  | .slotAlarm .. => m.slot
  | .slotDisagreed .. => m.slot
  | .link .. => m.link
  | .overflow .. => true

/-- R170: a notice offered to the queue. -/
def SupervisionPort.offerNotice (p : SupervisionPort) (n : Notice) : SupervisionPort :=
  if p.notices.length < Config.noticePlaces then { p with notices := p.notices ++ [n] }
  else { p with overflow := some (p.overflow.getD n.time) }

/-- R169 to R171: a notice raised by a block. -/
def SupervisionPort.takeNotice (t : Nat) (p : SupervisionPort) (e : Event) : SupervisionPort :=
  (if p.mask.enables e then p.offerNotice { event := e, time := t } else p).begin t

/-! ### Replies (R165, R166, R171, R175) -/

/-- R171: a formed reply joins the waiting replies. -/
def SupervisionPort.reply (t : Nat) (p : SupervisionPort) (r : Reply) : SupervisionPort :=
  { p with replies := p.replies ++ [r] }.begin t

/-- R165: the BUSY replies that wait. -/
def SupervisionPort.busyCount (p : SupervisionPort) : Nat := p.replies.countP (fun r => !r.inHand)

/-- R166, R171: the reply to the request in hand. -/
def SupervisionPort.answer (t : Nat) (p : SupervisionPort) (status : Status) (fields : List Byte) : SupervisionPort :=
  match p.buffer with
  | f :: _ => p.reply t { kind := f.kind, tag := f.tag, status, fields, inHand := true }
  | [] => p

/-- R165: a received frame is answered BUSY, or discarded when 4 BUSY replies wait. -/
def SupervisionPort.busy (t : Nat) (p : SupervisionPort) (f : Frame) : SupervisionPort :=
  if p.busyCount < Config.bufferPlaces then
    p.reply t { kind := f.kind, tag := f.tag, status := .busy, fields := [], inHand := false }
  else p

/-- R108, R177: the reply to a CARD PORTS from its order's outcome. -/
def PassOutcome.answer : PassOutcome → Status × List Byte
  | .outcome out records =>
    (.ok, byte out.code :: byte records.length :: (records.map relayPortRecord).flatten)
  | .cut => (.state, [])

/-! ### The end of an event -/

/-- What the blocks told the port in the event reaches it: the outcome of a CARD PORTS, then the notices in the
order they were raised (DESIGN CHOICE, log 10). -/
def SupervisionPort.hear (t : Nat) (p : SupervisionPort) (pass : Option PassOutcome) (raised : List Event) :
    SupervisionPort :=
  let p := match pass with
    | some o => p.answer t o.answer.1 o.answer.2
    | none => p
  raised.foldl (SupervisionPort.takeNotice t) p

/-- The blocks with nothing more to tell. -/
def Blocks.told (b : Blocks) : Blocks := { b with raised := [], passOutcome := none }

/-- The end of an event at the port. -/
def State.deliver (s : State) : State :=
  { s with blk := s.blk.told, port := s.port.hear s.time s.blk.passOutcome s.blk.raised }

/-- An event at the blocks behind the port: what it does to them, what they then judge, and what they tell the
port. What they judge has one fixed order (log 6, 7 and 9), the notices follow the reply to a CARD PORTS (log 10): DESIGN
CHOICE, unsafe, for every statement that names this definition. -/
def State.event (s : State) (f : Blocks → Blocks) : State :=
  { s with blk := Blocks.settle s.time (f s.blk) }.deliver

/-- R172: while the reset pin is held nothing is taken. -/
def State.running (s : State) (f : State → State) : Host.Outcome State Fault Refusal :=
  .next (if s.resetHeld then s else f s)

/-- R172, R173: the reset is taken at every block; the commands that wait are no part of it. -/
def State.resetAll (s : State) : State := { State.reset with pending := s.pending }

end Sys2Proof.Machine
end

