-- ==== Sys2Proof/Machine/Clock.lean ====
section
/-! DEFINITION. One millisecond: what a step does on an empty queue (DESIGN CHOICE, log 2). The time counter counts
(R168) and every running timer and wait comes one millisecond nearer its end; an expiry is a command of its own. -/

namespace Sys2Proof.Machine

/-- A running timer, one millisecond on. -/
def countDown (timer : Option Nat) : Option Nat := timer.map Nat.pred

def SlotRec.tick (r : SlotRec) : SlotRec := { r with deadline := countDown r.deadline }

def PowerRec.tick (r : PowerRec) : PowerRec :=
  { r with ramp := countDown r.ramp, dark := countDown r.dark }

def HoldTimer.tick (h : HoldTimer) : HoldTimer := { h with left := h.left.pred }

def Transfer.tick (tr : Transfer) : Transfer := { tr with wait := tr.wait.pred }

def Blocks.tick (b : Blocks) : Blocks :=
  { b with
    reg := { b.reg with slots := b.reg.slots.map SlotRec.tick }
    power := { b.power with recs := b.power.recs.map PowerRec.tick }
    engine := { b.engine with hold := b.engine.hold.map HoldTimer.tick }
    bus := { b.bus with transfer := b.bus.transfer.map Transfer.tick } }

/-- One millisecond of the part that is not held in reset. -/
def State.tick (s : State) : State :=
  if s.resetHeld then s
  else
    { s with
      time := (s.time + 1) % Config.timeModulus
      blk := s.blk.tick
      feed := { s.feed with armTimer := countDown s.feed.armTimer }
      port := { s.port with gap := countDown s.port.gap } }

end Sys2Proof.Machine
end

