-- ==== Sys2Proof/Machine/Events.lean ====
section
/-! DEFINITION. The events of the feeds, the hold timer, the card bus, the slots and the switches (R122, R127, R35,
R153 to R155, R91, R88, R142, R144, R145). An event that cannot arise leaves the state as it is (log 4), and an expiry
is taken while its timer runs (log 3). -/

namespace Sys2Proof.Machine

/-! ### The feeds -/

/-- R122, R131: a sample's judgements reach the other blocks, and Fmin the open record. -/
def State.sample (s : State) (feed : FeedId) (v : Nat) : State :=
  if (s.feed.feed feed).present then
    let r := s.feed.sampled feed v
    State.event { s with feed := r.1.reported }
      (fun b => (FeedMonitor.tell s.time r.1 r.2 b).handFmin r.1.fmin)
  else s

/-- FEED_SAMPLE, R122. -/
def execFeedSample (feed : FeedId) (sample : BitVec 13) (s : State) : Host.Outcome State Fault Refusal :=
  s.running (fun s => s.sample feed sample.toNat)

/-- R127, R128: the monitor becomes ARMED, and reports UP. -/
def State.arm (s : State) : State :=
  let m := { s.feed with armed := true, armTimer := none }
  State.event { s with feed := m.reported } (FeedMonitor.tell s.time m (some .armed))

/-- ARM_TIMER_EXPIRY, R127. -/
def execArmTimerExpiry (s : State) : Host.Outcome State Fault Refusal :=
  s.running (fun s => if s.feed.armTimer.isSome then s.arm else s)

/-! ### The hold timer -/

/-- R35: the head is deferred. -/
def Blocks.holdExpired (t : Nat) (b : Blocks) : Blocks :=
  match b.engine.queue with
  | h :: _ => (b.setHold none).defer t h .hold
  | [] => b.setHold none

/-- HOLD_TIMER_EXPIRY, R35. -/
def execHoldTimerExpiry (s : State) : Host.Outcome State Fault Refusal :=
  s.running (fun s => if s.blk.engine.hold.isSome then s.event (Blocks.holdExpired s.time) else s)

/-! ### The card bus -/

/-- An event that moves a transfer on from phase to phase, and concerns no other block. -/
def State.onBus (s : State) (f : CardBus → CardBus) : State := { s with blk := { s.blk with bus := f s.blk.bus } }

/-- CARD_ACKNOWLEDGE, R153. -/
def execCardAcknowledge (s : State) : Host.Outcome State Fault Refusal :=
  s.running (fun s => s.onBus CardBus.acknowledged)

/-- CARD_HEADER_ANSWER, R153, R155. -/
def execCardHeaderAnswer (answer : HeaderAnswer) (s : State) : Host.Outcome State Fault Refusal :=
  s.running (fun s => s.onBus (fun bus => bus.headerAnswered answer))

/-- CARD_DATA_RECORD, R153, R155. -/
def execCardDataRecord (bytes : List Byte) (s : State) : Host.Outcome State Fault Refusal :=
  s.running (fun s => s.onBus (fun bus => bus.recordMoved bytes))

/-- CARD_COMPLETION, R153, R155. -/
def execCardCompletion (code : Byte) (s : State) : Host.Outcome State Fault Refusal :=
  s.running (fun s =>
    if s.blk.bus.transfer.any (fun tr => tr.earlyMalformed code) then
      s.event (fun b => Blocks.completionGiven s.time b code)
    else { s with blk := Blocks.completionGiven s.time s.blk code })

/-- RELEASE_END, R153, R156, R157. -/
def execReleaseEnd (s : State) : Host.Outcome State Fault Refusal :=
  s.running (fun s =>
    if s.blk.bus.transfer.any (fun tr => match tr.phase with | .release _ => true | _ => false) then
      s.event (Blocks.releaseEnded s.time)
    else s)

/-- PHASE_TIMEOUT_EXPIRY, R153, R154, R156. -/
def execPhaseTimeoutExpiry (s : State) : Host.Outcome State Fault Refusal :=
  s.running (fun s => if s.blk.bus.transfer.isSome then s.event (Blocks.phaseTimedOut s.time) else s)

/-- ACKNOWLEDGE_WITHDRAWN, R155. -/
def execAcknowledgeWithdrawn (s : State) : Host.Outcome State Fault Refusal :=
  s.running (fun s => s.onBus CardBus.acknowledgeWithdrawn)

/-! ### Slots -/

/-- ATTENTION_RISE, R91, R162: taken by a LIVE slot that has no attention pending. -/
def execAttentionRise (slot : SlotId) (s : State) : Host.Outcome State Fault Refusal :=
  s.running (fun s =>
    if s.blk.isLive slot = true ∧ (s.blk.slot slot).attention = false then
      s.event (fun b => b.modSlot slot (fun r => { r with attention := true }))
    else s)

/-- RETURN_DEADLINE_EXPIRY, R88, R89: the slot becomes LOST with reason LATE. -/
def execReturnDeadlineExpiry (slot : SlotId) (s : State) : Host.Outcome State Fault Refusal :=
  s.running (fun s =>
    if (s.blk.slot slot).deadline.isSome = true ∧ (s.blk.slot slot).state.timed = true then
      s.event (fun b => b.lose slot .late)
    else s)

/-! ### Power -/

/-- R82: a ramp end at the slot registry; one for a slot that is not RAMPING is disregarded. -/
def Blocks.rampEnd (b : Blocks) (i : SlotId) : Blocks :=
  if (b.slot i).state = .ramping then
    (if b.ep.shelf = .holdup then b.enterState i .held else b.enterState i .identifying)
  else b

/-- R142: the charge falls to the plan's steady, and the ramp end is reported. -/
def Blocks.rampExpired (i : SlotId) (b : Blocks) : Blocks :=
  let steady := ((b.slot i).plan.map Plan.steady).getD 0
  (b.modPower i (fun r => { r with ramp := none, charge := steady })).rampEnd i

/-- RAMP_TIMER_EXPIRY, R142. -/
def execRampTimerExpiry (slot : SlotId) (s : State) : Host.Outcome State Fault Refusal :=
  s.running (fun s =>
    if (s.blk.powerRec slot).ramp.isSome then s.event (Blocks.rampExpired slot) else s)

/-- R144, R81: the slot joins the admission queue, and the registry changes it from DARK to QUEUED. -/
def Blocks.darkExpired (i : SlotId) (b : Blocks) : Blocks :=
  let b := (b.modPower i (fun r => { r with dark := none })).joinAdmission i
  if (b.slot i).state = .dark then b.enterState i .queued else b

/-- DARK_TIMER_EXPIRY, R144. -/
def execDarkTimerExpiry (slot : SlotId) (s : State) : Host.Outcome State Fault Refusal :=
  s.running (fun s =>
    if (s.blk.powerRec slot).dark.isSome then s.event (Blocks.darkExpired slot) else s)

/-- R145: a trip of a CLOSED switch: the count, the opening, and the power fault. -/
def Blocks.tripped (i : SlotId) (b : Blocks) : Blocks :=
  ((b.modPower i (fun r => { r with trips := satAdd 255 r.trips })).openSwitch i).lose i .powerFault

/-- SWITCH_TRIP, R145: a trip of a switch already open is disregarded. -/
def execSwitchTrip (slot : SlotId) (s : State) : Host.Outcome State Fault Refusal :=
  s.running (fun s => if (s.blk.powerRec slot).closed then s.event (Blocks.tripped slot) else s)

end Sys2Proof.Machine
end

