-- ==== Sys2Proof/Machine/Settings.lean ====
section
/-! DEFINITION. The owners of the settings and shelf requests (11.4, first table): what each does with a body of an
allowed length, and its answer. -/

namespace Sys2Proof.Machine

/-- What an owner gives: the state after the request was taken, and its status with the reply's fields, or nothing
while the outcome is not ready (R166). -/
abbrev Answered := State × Option (Status × List Byte)

/-- R167: a refused request leaves every block as it was. -/
def State.refuse (s : State) (st : Status) : Answered := (s, some (st, []))

/-- R167: OK, or CLAMPED when a tunable was brought into range. -/
def Status.accepted (clamped : Bool) : Status := if clamped then .clamped else .ok

def State.accept (s : State) (clamped : Bool) (fields : List Byte) : Answered := (s, some (.accepted clamped, fields))

/-- What the blocks judge at the end of an event, without what they told the port. -/
def State.settled (s : State) (f : Blocks → Blocks) : State := { s with blk := Blocks.settle s.time (f s.blk) }

/-! ### SET FEEDS (R132) -/

/-- R132: the seven settings. -/
structure FeedSettings where
  presentA : Bool
  presentB : Bool
  depth : Nat
  low : Nat
  good : Nat
  coincidence : Coincidence
  armTime : Nat
  deriving DecidableEq, Repr

/-- R132, steps 1 to 3. -/
def readFeedSettings : List Byte → Option FeedSettings
  | [pa, pb, depth, l1, l0, g1, g0, co, a1, a0] =>
    match readYesNo pa, readYesNo pb, Coincidence.ofCode co.toNat with
    | some presentA, some presentB, some coincidence =>
      if ofU16 l1 l0 ≤ 8191 ∧ ofU16 g1 g0 ≤ 8191 ∧ (presentA || presentB) = true ∧ ofU16 l1 l0 < ofU16 g1 g0 then
        some { presentA, presentB, depth := depth.toNat, low := ofU16 l1 l0, good := ofU16 g1 g0, coincidence,
               armTime := ofU16 a1 a0 }
      else none
    | _, _, _ => none
  | _ => none

/-- R132, step 4. -/
def FeedSettings.clamped (c : FeedSettings) : FeedSettings :=
  { c with depth := clamp 0 4 c.depth, armTime := clamp 0 60000 c.armTime }

/-- R132: the settings replaced, each feed's record kept, unseeded or lost. -/
def FeedMonitor.configure (m : FeedMonitor) (c : FeedSettings) : FeedMonitor :=
  { m with
    feedA := m.feedA.setPresent c.presentA, feedB := m.feedB.setPresent c.presentB, depth := c.depth, low := c.low,
    good := c.good, coincidence := c.coincidence, armTime := c.armTime }

/-- R132: an accepted SET FEEDS at the monitor: the settings, the supply status, the budget. -/
def FeedMonitor.reconfigured (m : FeedMonitor) (c : FeedSettings) : FeedMonitor × Option SupplyEvent :=
  let j := (m.configure c).judgeSupply
  (j.1.judgeBudget, j.2)

/-- 11.4: the seven settings as stored. -/
def FeedMonitor.feedFields (m : FeedMonitor) : List Byte :=
  [yesNo m.feedA.present, yesNo m.feedB.present, byte m.depth] ++ u16 m.low ++ u16 m.good
    ++ byte m.coincidence.code :: u16 m.armTime

def ownSetFeeds (body : List Byte) (s : State) : Answered :=
  match readFeedSettings body with
  | none => s.refuse .badArg
  | some c =>
    let r := s.feed.reconfigured c.clamped
    ({ s with feed := r.1.reported }.settled (FeedMonitor.tell s.time r.1 r.2)).accept (c.clamped != c) r.1.feedFields

/-! ### SET BUDGET (R133) -/

/-- R76, R133: the sum of the steady charges of the planned slots whose shed policy is KEEP. -/
def Blocks.keepSteady (b : Blocks) : Nat :=
  (allSlots.map (fun i => ((b.slot i).plan.map (fun p => if p.policy = .keep then p.steady else 0)).getD 0)).sum

/-- R133, step 2. -/
def Blocks.capServes (b : Blocks) (cap : Nat) : Bool :=
  allSlots.all (fun i => (b.slot i).plan.all (fun p => decide (p.inrush ≤ cap))) && decide (b.keepSteady ≤ cap)

/-- 11.4: the three settings as stored. -/
def FeedMonitor.budgetFields (m : FeedMonitor) : List Byte := u16 m.floor ++ u16 m.gain ++ u16 m.cap

/-- R133: the three settings replaced and the budget computed. -/
def FeedMonitor.rebudgeted (m : FeedMonitor) (floor gain cap : Nat) : FeedMonitor :=
  { m with floor, gain, cap }.judgeBudget

def ownSetBudget (body : List Byte) (s : State) : Answered :=
  match body with
  | [f1, f0, g1, g0, c1, c0] =>
    let gain := ofU16 g1 g0
    if ofU16 f1 f0 ≤ 8191 ∧ 1 ≤ ofU16 c1 c0 ∧ ofU16 c1 c0 ≤ 2000 then
      if s.blk.capServes (ofU16 c1 c0) = true then
        if ofU16 c1 c0 < s.blk.power.load then s.refuse .loadAbove
        else
          let m := s.feed.rebudgeted (ofU16 f1 f0) (clamp 1 255 gain) (ofU16 c1 c0)
          ({ s with feed := m.reported }.settled (FeedMonitor.tell s.time m none)).accept
            (clamp 1 255 gain != gain) m.budgetFields
      else s.refuse .badArg
    else s.refuse .badArg
  | _ => s.refuse .badArg

/-! ### SET RELINK (R23, R66, R144, R154) -/

/-- R23, R66, R144, R154: the five settings. -/
structure RelinkSettings where
  window : Nat
  hold : Nat
  dark : Nat
  phase : Nat
  deriving DecidableEq, Repr

def RelinkSettings.clamped (c : RelinkSettings) : RelinkSettings :=
  { window := clamp 1 8 c.window, hold := clamp 0 60000 c.hold, dark := clamp 100 10000 c.dark,
    phase := clamp 1 100 c.phase }

def Blocks.relinkSet (b : Blocks) (c : RelinkSettings) (mask : CompareMask) : Blocks :=
  { b with
    engine := { b.engine with window := c.window, holdTime := c.hold, mask }
    power := { b.power with darkTime := c.dark }
    bus := { b.bus with phaseTimeout := c.phase } }

/-- 11.4: the five settings as stored. -/
def RelinkSettings.fields (c : RelinkSettings) (mask : CompareMask) : List Byte :=
  byte c.window :: u16 c.hold ++ u16 c.dark ++ [byte c.phase, byte mask.bits]

def ownSetRelink (body : List Byte) (s : State) : Answered :=
  match body with
  | [w, h1, h0, d1, d0, ph, mask] =>
    match CompareMask.ofBits mask.toNat with
    | none => s.refuse .badArg
    | some mask =>
      let c : RelinkSettings := { window := w.toNat, hold := ofU16 h1 h0, dark := ofU16 d1 d0, phase := ph.toNat }
      (s.settled (fun b => b.relinkSet c.clamped mask)).accept (c.clamped != c) (c.clamped.fields mask)
  | _ => s.refuse .badArg

/-! ### SET NOTICES (R169) -/

def ownSetNotices (body : List Byte) (s : State) : Answered :=
  match body with
  | [supply, episode, slot, link] =>
    match readYesNo supply, readYesNo episode, readYesNo slot, readYesNo link with
    | some supply, some episode, some slot, some link =>
      { s with port := { s.port with mask := { supply, episode, slot, link } } }.accept false []
    | _, _, _, _ => s.refuse .badArg
  | _ => s.refuse .badArg

/-! ### LOAD SLOT (R76, R77) -/

/-- R76, step 2. -/
def Blocks.replannable (b : Blocks) (i : SlotId) : Bool :=
  b.ep.shelf == .cold
    || (((b.slot i).state == .vacant || (b.slot i).state == .lost) && (b.holder i).isNone
        && !b.store.links.any (fun l => l.references i))

/-- R76, step 3, last case: in COLD a link references the slot and the new plan would refuse its endpoint. A new
plan of `none` is planned no (DESIGN CHOICE, log 11). -/
def Blocks.planStrands (b : Blocks) (i : SlotId) (plan : Option Plan) : Bool :=
  let refused (e : Endpoint) : Bool :=
    e.names i && plan.all (fun p => p.role == .spare || decide (p.portCount ≤ e.port.val))
  b.ep.shelf == .cold && b.store.links.any (fun l => refused l.epA || refused l.epB)

/-- R76, step 3: the new plan agrees with itself, with the budget cap and with the other plans. -/
def Blocks.planAgrees (b : Blocks) (cap : Nat) (i : SlotId) (p : Plan) : Bool :=
  let others := (allSlots.filter (fun j => j != i)).filterMap (fun j => (b.slot j).plan)
  let keep (q : Plan) : Nat := if q.policy = .keep then q.steady else 0
  decide (p.steady ≤ p.inrush) && decide (p.inrush ≤ cap) && decide (keep p + (others.map keep).sum ≤ cap)
    && (match p.role with
        | .spare =>
          !others.any (fun q => q.role == .spare) && !p.coverEnabled
            && others.all (fun q => q.role == .spare || !q.coverEnabled || decide (q.portCount ≤ p.portCount))
        | .working =>
          !p.coverEnabled || others.all (fun q => q.role == .working || decide (p.portCount ≤ q.portCount)))
    && !b.planStrands i (some p)

/-- R76, step 4. -/
def Plan.clamped (p : Plan) : Plan :=
  { p with rampTime := clamp 10 2550 p.rampTime, returnDeadline := clamp 1 600 p.returnDeadline }

/-- R77: the plan is replaced, and the slot's state changes. -/
def Blocks.loadPlan (i : SlotId) (plan : Option Plan) (b : Blocks) : Blocks :=
  let b := b.modSlot i (fun r => { r with plan })
  match plan with
  | none => b.enterState i .vacant
  | some _ => if b.ep.shelf = .cold then b.enterState i .off else b.queueSlot i

/-- R76: the slot, the planned field, and the plan fields behind them. -/
def readLoadSlot : List Byte → Option (SlotId × Option Plan)
  | slot :: planned :: rest =>
    match readSlot slot, readYesNo planned with
    | some i, some true => (readPlan rest).map (fun p => (i, some p))
    | some i, some false => some (i, none)
    | _, _ => none
  | _ => none

def ownLoadSlot (body : List Byte) (s : State) : Answered :=
  match readLoadSlot body with
  | none => s.refuse .badArg
  | some (i, plan) =>
    if s.blk.replannable i = false then s.refuse .state
    else
      match plan with
      | none =>
        if s.blk.planStrands i none then s.refuse .badArg
        else (s.settled (Blocks.loadPlan i none)).accept false (u16 0 ++ u16 0)
      | some p =>
        if s.blk.planAgrees s.feed.cap i p = false then s.refuse .badArg
        else
          (s.settled (Blocks.loadPlan i (some p.clamped))).accept (p.clamped != p)
            (u16 p.clamped.rampTime ++ u16 p.clamped.returnDeadline)

/-! ### START SHELF (R80), DRILL (R50, R51), RESET (R173) -/

/-- R80: a slot in OFF becomes QUEUED. -/
def Blocks.startSlot (b : Blocks) (i : SlotId) : Blocks := if (b.slot i).state = .off then b.queueSlot i else b

/-- R80, R137: the slots in OFF are queued one after another, lowest first (DESIGN CHOICE, unsafe, log 26), each request
judged before the next is made. -/
def Blocks.startShelf (b : Blocks) : Blocks := allSlots.foldl Blocks.startSlot (b.setShelf .standby)

def ownStartShelf (_body : List Byte) (s : State) : Answered :=
  if s.blk.ep.shelf = .cold then (s.settled Blocks.startShelf).accept false [] else s.refuse .state

/-- R50, R54: a DRILL IMMEDIATE. EPISODE BEGUN is raised before the SLOT notices of the freeze and the recovery, where R169
leaves the order of two blocks' notices open (DESIGN CHOICE, unsafe, log 36). -/
def Blocks.drillNow (t : Nat) (fmin : Option Nat) (b : Blocks) : Blocks := (b.openEpisode t .drill fmin).freeze

/-- R50, R51: a DRILL SETTLED. Where its freeze follows in the same event, EPISODE BEGUN is raised before the SLOT notices
(DESIGN CHOICE, unsafe, log 36). -/
def Blocks.drillSettled (t : Nat) (fmin : Option Nat) (b : Blocks) : Blocks :=
  (b.openEpisode t .drill fmin).setShelf .settling

/-- R50, in its order of checks. The supply status read is the feed monitor's own (DEDUCED, log 29). -/
def ownDrill (body : List Byte) (s : State) : Answered :=
  match body with
  | [form] =>
    if 1 < form.toNat then s.refuse .badArg
    else if s.blk.ep.shelf ≠ .standby then s.refuse .state
    else if s.feed.armed = false ∨ s.feed.supply = .down then s.refuse .state
    else if form = 1 then (s.settled (Blocks.drillNow s.time s.feed.fmin)).accept false []
    else (s.settled (Blocks.drillSettled s.time s.feed.fmin)).accept false []
  | _ => s.refuse .badArg

/-- R173: the reply is formed; the reset is taken when its last byte has been sent. -/
def ownReset (_body : List Byte) (s : State) : Answered := s.accept false []

end Sys2Proof.Machine
end

