-- ==== Sys2Proof/Machine/Links.lean ====
section
/-! DEFINITION. The owners of the link requests (R13 to R19, R37, R41). -/

namespace Sys2Proof.Machine

/-! ### CREATE LINK (R13 to R15) -/

/-- R14: an endpoint as checked and remapped, or nothing where it is refused. -/
def Blocks.usableEndpoint (b : Blocks) (slot : SlotId) (port : Fin 32) : Option Endpoint :=
  let r := b.slot slot
  match r.plan with
  | none => none
  | some p =>
    if p.role = .spare ∨ p.portCount ≤ port.val ∨ r.state = .vacant ∨ r.state = .lost ∨ r.revertMark = true then none
    else if r.state = .covered then (b.holder slot).map (fun t => { slot := t, port, home := some slot })
    else some { slot, port, home := none }

/-- R13, step 2: both ends, which do not collide with each other. -/
def Blocks.usableEnds (b : Blocks) (r : LinkRequest) : Option (Endpoint × Endpoint) :=
  match b.usableEndpoint r.slotA r.portA, b.usableEndpoint r.slotB r.portB with
  | some ea, some eb => if ea.collides eb then none else some (ea, eb)
  | _, _ => none

/-- R12: an endpoint's port is in use. -/
def Blocks.portInUse (b : Blocks) (e : Endpoint) : Bool :=
  b.store.links.any (fun l => l.epA.collides e || l.epB.collides e)

/-- R13, step 5: the cells, or the refusal. -/
def Blocks.findCells (b : Blocks) (r : LinkRequest) : Except Status (HighwaySet × Nat) :=
  match r.place with
  | some (h, index) => if cellsFree b.store.cells h index then .ok (h, index) else .error .cellsTaken
  | none =>
    match searchCells b.store.cells r.width Config.cellsPerHighway 0 with
    | some place => .ok place
    | none => .error .noCells

/-- R15: the record. -/
def LinkRequest.record (r : LinkRequest) (id seq : Nat) (ends : Endpoint × Endpoint) (place : HighwaySet × Nat) : Link :=
  { id, cls := r.cls, seq, epA := ends.1, epB := ends.2, hset := place.1, index := place.2, state := .pending,
    deferral := none, late := false, removal := false, attA := false, attB := false }

/-- R15: the record, its cells and its sequence appear together. -/
def LinkStore.add (st : LinkStore) (l : Link) : LinkStore :=
  { links := insertLink l st.links, cells := st.cells ++ cellsOf l.hset l.index l.id, seq := sequenceAfter l.seq }

/-- R15: the link is handed to the relink engine. -/
def Blocks.createLink (l : Link) (b : Blocks) : Blocks :=
  { b with store := b.store.nextSequence.1.add l }.joinQueue l.id

/-- R15, 11.4. -/
def Link.createdFields (l : Link) : List Byte := u16 l.id ++ u24 l.seq ++ byte l.hset.code :: u16 l.index

/-- R13, steps 2 to 5: the record to be built, or the refusal. -/
def Blocks.checkLink (b : Blocks) (r : LinkRequest) : Except Status Link :=
  match b.usableEnds r with
  | none => .error .badEndpoint
  | some ends =>
    if b.portInUse ends.1 = true ∨ b.portInUse ends.2 = true then .error .portBusy
    else
      match lowestFree b.store.links Config.linkCapacity 0 with
      | none => .error .full
      | some id =>
        match b.findCells r with
        | .error st => .error st
        | .ok place => .ok (r.record id b.store.nextSequence.2 ends place)

def ownCreateLink (body : List Byte) (s : State) : Answered :=
  match readLinkRequest body with
  | none => s.refuse .badArg
  | some r =>
    match s.blk.checkLink r with
    | .error st => s.refuse st
    | .ok l => (s.settled (Blocks.createLink l)).accept false l.createdFields

/-! ### REMOVE LINK (R17, R41), RETRY LINK (R37) -/

/-- R17, R18, R37: a link id, refused outside 0..1023. -/
def readLinkId : List Byte → Option Nat
  | [hi, lo] => if ofU16 hi lo < Config.linkCapacity then some (ofU16 hi lo) else none
  | _ => none

def ownRemoveLink (body : List Byte) (s : State) : Answered :=
  match readLinkId body with
  | none => s.refuse .badArg
  | some id =>
    match s.blk.link id with
    | none => s.refuse .notFound
    | some l =>
      if l.state = .releasing ∨ l.removal = true then s.refuse .state
      else (s.settled (fun b => b.removeLink id)).accept false (u16 id)

def ownRetryLink (body : List Byte) (s : State) : Answered :=
  match readLinkId body with
  | none => s.refuse .badArg
  | some id =>
    match s.blk.link id with
    | none => s.refuse .notFound
    | some l =>
      match l.deferral with
      | some d =>
        if l.state ≠ .deferred then s.refuse .state
        else if d.reason = .hold then s.accept false (u16 id)
        else (s.settled (fun b => b.modLink id Link.retried)).accept false (u16 id)
      | none => s.refuse .state

/-! ### GET LINK (R18), FIND LINKS (R19) -/

/-- R18, 11.4: the 26 bytes of a GET LINK reply. -/
def Link.fields (l : Link) : List Byte :=
  u16 l.id ++ byte l.cls.code :: u24 l.seq
    ++ [byte l.epA.slot.val, byte l.epA.port.val, byte l.epB.slot.val, byte l.epB.port.val,
        byte (bitsOf [l.epA.home.isSome, l.epB.home.isSome, l.deferral.isSome, l.deferral.isSome]),
        byte ((l.epA.home.map Fin.val).getD 0), byte ((l.epB.home.map Fin.val).getD 0), byte l.hset.width,
        byte l.hset.code] ++ u16 l.index
    ++ [byte l.state.code, byte ((l.deferral.map (fun d => d.reason.code)).getD 0)]
    ++ u32 ((l.deferral.map Deferral.since).getD 0)
    ++ [yesNo l.late, yesNo l.removal, byte (bitsOf [l.attA, l.attB])]

def ownGetLink (body : List Byte) (s : State) : Answered :=
  match readLinkId body with
  | none => s.refuse .badArg
  | some id =>
    match s.blk.link id with
    | none => s.refuse .notFound
    | some l => s.accept false l.fields

/-- R19: a present field equals the record's. -/
def fieldMatches {α : Type} [DecidableEq α] (want : Option α) (have_ : α) : Bool := want.all (fun w => w == have_)

/-- R19: a record matches the pattern. -/
def Pattern.matches (p : Pattern) (l : Link) : Bool :=
  fieldMatches p.cls l.cls && p.slot.all l.references && fieldMatches p.state l.state
    && fieldMatches p.width l.hset.width && fieldMatches p.hset l.hset

/-- R19: the total match count and the page of ids. -/
def LinkStore.search (st : LinkStore) (p : Pattern) (start : Nat) : Nat × List Nat :=
  let ids := (st.links.filter p.matches).map Link.id
  (ids.length, (ids.filter (fun id => decide (start ≤ id))).take 32)

def ownFindLinks (body : List Byte) (s : State) : Answered :=
  match readPattern body with
  | none => s.refuse .badArg
  | some (p, start) =>
    let r := s.blk.store.search p start
    s.accept false (u16 r.1 ++ byte r.2.length :: (r.2.map u16).flatten)

end Sys2Proof.Machine
end

