-- ==== Sys2Proof/Machine/Queries.lean ====
section
/-! DEFINITION. The owners of the queries GET SHELF, GET SLOT and GET EPISODE (R168, R95, R74). None changes
anything. -/

namespace Sys2Proof.Machine

/-- R176: an optional field is sent as 0 when it is absent. -/
def optByte (v : Option Nat) : Byte := byte (v.getD 0)

/-- R168, 11.4: the 24 bytes of a GET SHELF reply. -/
def State.shelfFields (s : State) : List Byte :=
  let fa := s.feed.feedA.counted.map FeedReading.filtered
  let fb := s.feed.feedB.counted.map FeedReading.filtered
  [byte s.blk.ep.shelf.code, byte s.feed.supply.code, yesNo s.feed.armed, byte (bitsOf [fa.isSome, fb.isSome])]
    ++ u16 (fa.getD 0) ++ u16 (fb.getD 0) ++ u16 s.feed.budget ++ u16 s.feed.dips ++ u16 s.blk.power.load
    ++ byte s.blk.power.queue.length :: u16 s.blk.engine.queue.length ++ u16 s.blk.engine.deferred.length
    ++ byte s.blk.engine.inFlight.length :: u32 s.time

def ownGetShelf (_body : List Byte) (s : State) : Answered := s.accept false s.shelfFields

/-- R95, 11.4: the 46 bytes of a GET SLOT reply. The presence pair is sent as a number of two bytes, high byte first, so that
bit 8 stands in the first byte and bits 0 to 7 in the second; R174 and R176 say this of numbers, and not of a presence pair
(DESIGN CHOICE, unsafe, log 38). -/
def Blocks.slotFields (b : Blocks) (i : SlotId) : List Byte :=
  let r := b.slot i
  let w := b.powerRec i
  byte i.val
    :: u16 (bitsOf [r.lostReason.isSome, r.storedTerm.isSome, r.latestId.isSome, r.identity.isSome, r.order.isSome,
                    r.deadline.isSome, r.coveredSlot.isSome, r.coverLoad.isSome, r.coverReason.isSome])
    ++ planBytes r.plan
    ++ [byte r.state.code, optByte (r.lostReason.map LossReason.code), optByte r.storedTerm,
        optByte (r.latestId.map Identification.code)]
    ++ identityBytes r.identity
    ++ [optByte (r.order.map (fun o => o.code.code)), yesNo r.attention] ++ u32 (r.deadline.getD 0)
    ++ [optByte (r.coveredSlot.map Fin.val), optByte (r.coverLoad.map CoverLoad.runs),
        ((r.coverLoad.map (fun c => yesNo c.done)).getD 0), optByte (r.coverReason.map LossReason.code),
        yesNo r.revertMark]
    ++ Config.switchCode w.closed :: u16 w.charge ++ [byte w.trips]

def ownGetSlot (body : List Byte) (s : State) : Answered :=
  match body with
  | [slot] =>
    match readSlot slot with
    | some i => s.accept false (s.blk.slotFields i)
    | none => s.refuse .badArg
  | _ => s.refuse .badArg

/-- R72, 11.4: the 40 bytes of a GET EPISODE reply. -/
def Episode.fields (e : Episode) : List Byte :=
  u16 e.number ++ [byte e.cause.code, byte (bitsOf [e.ended.isSome, e.deferredAtEnd.isSome, e.firstActivation.isSome])]
    ++ u32 e.begun ++ u32 (e.ended.getD 0) ++ u16 e.redips ++ u16 e.lowestFeed ++ u16 (e.frozen.getD 0)
    ++ u16 e.verified ++ u16 e.inOrder ++ u16 e.late ++ u16 e.dropped ++ u16 (e.deferredAtEnd.getD 0)
    ++ u16 e.slotsIntact ++ u16 e.slotsFresh ++ u16 e.slotsLost ++ u16 e.slotsCovered
    ++ u32 (e.firstActivation.getD 0)

def ownGetEpisode (body : List Byte) (s : State) : Answered :=
  match body with
  | [position] =>
    if 3 < position.toNat then s.refuse .badArg
    else
      match s.blk.ep.history[position.toNat]? with
      | some e => s.accept false e.fields
      | none => s.refuse .notFound
  | _ => s.refuse .badArg

end Sys2Proof.Machine
end

