-- ==== Sys2Proof/Machine/SlotRequests.lean ====
section
/-! DEFINITION. The owners of the port and slot requests (R105 to R108, R93, R94, R116, R120). -/

namespace Sys2Proof.Machine

/-! ### SET PORT (R105, R38), GET PORT (R107) -/

/-- A slot and a port, each refused outside its range. -/
def readPlace (slot port : Byte) : Option (SlotId × Fin 32) :=
  match readSlot slot, readPort port with
  | some i, some p => some (i, p)
  | _, _ => none

/-- R105, step 2: the levels as clamped. -/
def PortFields.clamped (f : PortFields) : PortFields :=
  { f with level := f.level.map (fun v => (clampInt (-120) 60 v.1, clampInt (-120) 60 v.2)) }

/-- R105: each present group replaced, each absent group left, the disagreed field no. -/
def PortRec.update (r : PortRec) (f : PortFields) : PortRec :=
  { r with
    lineKind := (f.line.map Prod.fst).getD r.lineKind
    termination := (f.line.map Prod.snd).getD r.termination
    txLevel := (f.level.map Prod.fst).getD r.txLevel
    rxLevel := (f.level.map Prod.snd).getD r.rxLevel
    scheme := (f.signal.map Prod.fst).getD r.scheme
    timing := (f.signal.map Prod.snd).getD r.timing
    test := f.test.getD r.test
    blocked := f.admin.getD r.blocked
    disagreed := false }

/-- R98: a port joins a write set, in order of port number and once. -/
def insertPort (p : Fin 32) : List (Fin 32) → List (Fin 32)
  | [] => [p]
  | q :: qs => if p = q then q :: qs else if p < q then p :: q :: qs else q :: insertPort p qs

def Blocks.joinWriteSet (b : Blocks) (i : SlotId) (p : Fin 32) : Blocks :=
  b.modSlot i (fun r => { r with writeSet := insertPort p r.writeSet })

/-- R105: the request carries a group of the plan's merge groups, or TEST, and the port is one of the plan's. -/
def Plan.writes (plan : Plan) (p : Fin 32) (f : PortFields) : Bool :=
  decide (p.val < plan.portCount)
    && ((f.line.isSome && plan.mergeGroups.line) || (f.level.isSome && plan.mergeGroups.level)
        || (f.signal.isSome && plan.mergeGroups.signal) || (f.admin.isSome && plan.mergeGroups.admin) || f.test.isSome)

/-- R105: the write sets the port joins. -/
def Blocks.portJoins (b : Blocks) (i : SlotId) (p : Fin 32) (f : PortFields) : Blocks :=
  if (b.slot i).plan.any (fun plan => plan.writes p f) then
    match b.holder i with
    | some t => if (b.slot i).revertMark then (b.joinWriteSet t p).joinWriteSet i p else b.joinWriteSet t p
    | none =>
      if (b.slot i).coveredSlot.isSome then b
      else b.joinWriteSet i p
  else b

/-- R38: the links deferred with REFUSED on the port are retried. -/
def Blocks.retryOnPort (b : Blocks) (i : SlotId) (p : Fin 32) : Blocks :=
  b.mapLinks (fun l => if l.onPort i p then l.retried else l)

/-- R105, R38: an accepted SET PORT. -/
def Blocks.setPort (i : SlotId) (p : Fin 32) (f : PortFields) (b : Blocks) : Blocks :=
  ((b.modPort i p (fun r => r.update f)).portJoins i p f).retryOnPort i p

def ownSetPort (body : List Byte) (s : State) : Answered :=
  match body with
  | slot :: port :: rest =>
    match readPlace slot port, readPortFields rest with
    | some (i, p), some f =>
      let s' := s.settled (Blocks.setPort i p f.clamped)
      s'.accept (f.clamped != f) [levelByte (s'.blk.port i p).txLevel, levelByte (s'.blk.port i p).rxLevel]
    | _, _ => s.refuse .badArg
  | _ => s.refuse .badArg

/-- R107: the port is in the write set of the card written from it. -/
def Blocks.inWriteSet (b : Blocks) (i : SlotId) (p : Fin 32) : Bool :=
  (b.slot ((b.holder i).getD i)).writeSet.contains p

/-- R107, 11.4: the 13 bytes of a GET PORT reply. -/
def Blocks.portFields (b : Blocks) (i : SlotId) (p : Fin 32) : List Byte :=
  let r := b.port i p
  [byte i.val, byte p.val, byte r.lineKind, byte r.termination, levelByte r.txLevel, levelByte r.rxLevel,
   byte r.scheme, byte r.timing, byte r.test.code, yesNo r.blocked, yesNo r.disagreed, byte r.disagreements,
   yesNo (b.inWriteSet i p)]

def ownGetPort (body : List Byte) (s : State) : Answered :=
  match body with
  | [slot, port] =>
    match readPlace slot port with
    | some (i, p) => s.accept false (s.blk.portFields i p)
    | none => s.refuse .badArg
  | _ => s.refuse .badArg

/-! ### CARD PORTS (R108) -/

/-- R108: the READ PORTS of an accepted CARD PORTS. -/
def passOrder (i : SlotId) (first count : Nat) : BusOrder :=
  { slot := i, code := .readPorts, first, count, send := [], purpose := .passThrough }

/-- R108, R150, R151: the order stands in the pass-through place, and the grant is judged. -/
def Blocks.placePass (b : Blocks) (o : BusOrder) : Blocks := { b with bus := { b.bus with pass := some o } }.grant

/-- R108, in its order of checks. An accepted CARD PORTS is answered when its order's outcome arrives. -/
def ownCardPorts (body : List Byte) (s : State) : Answered :=
  match body with
  | [slot, first, count] =>
    match readPlace slot first with
    | some (i, p) =>
      if 1 ≤ count.toNat ∧ count.toNat ≤ 8 ∧ p.val + count.toNat ≤ 32 then
        if s.blk.ep.isOpen = true then s.refuse .state
        else if s.blk.isLive i = true
            ∧ (s.blk.slot i).plan.any (fun plan => decide (p.val + count.toNat ≤ plan.portCount)) = true then
          ({ s with blk := s.blk.placePass (passOrder i p.val count.toNat) }, none)
        else s.refuse .state
      else s.refuse .badArg
    | none => s.refuse .badArg
  | _ => s.refuse .badArg

/-! ### SLOT RESTART (R93), SLOT RETIRE (R94), REVERT (R116) -/

/-- R116: the revert of a held slot begins. -/
def Blocks.beginRevert (i : SlotId) (b : Blocks) : Blocks :=
  ((b.modSlot i (fun r => { r with revertMark := true })).enterState i .dark).powerShed i

/-- R93: a LIVE slot is switched off in place. -/
def Blocks.restartLive (i : SlotId) (b : Blocks) : Blocks := ((b.enterState i .dark).powerShed i).slotInPlace i

/-- R93: a LOST slot is brought back under the plan it has. -/
def Blocks.restartLost (i : SlotId) (b : Blocks) : Blocks := (b.enterState i .dark).powerShed i

/-- R93, R120: what a SLOT RESTART does, or nothing where it is refused with STATE. -/
def Blocks.restartSlot (b : Blocks) (i : SlotId) : Option Blocks :=
  let r := b.slot i
  if r.state = .covered then none
  else if r.coveredSlot.isSome = true ∨ r.revertMark = true then none
  else if r.state = .lost ∧ (b.holder i).isSome = true then some (b.beginRevert i)
  else if r.state = .live then some (b.restartLive i)
  else if r.state = .lost then some (b.restartLost i)
  else none

/-- The answer of a slot request: BAD_ARG for a slot out of range, STATE where nothing is done, else OK. -/
def State.slotRequest (s : State) (body : List Byte) (f : Blocks → SlotId → Option Blocks) : Answered :=
  match body with
  | [slot] =>
    match readSlot slot with
    | none => s.refuse .badArg
    | some i =>
      match f s.blk i with
      | none => s.refuse .state
      | some b => (s.settled (fun _ => b)).accept false []
  | _ => s.refuse .badArg

def ownSlotRestart (body : List Byte) (s : State) : Answered := s.slotRequest body Blocks.restartSlot

/-- R94, R90, R119, R120: a slot already LOST changes its reason; one held by the spare ends its cover too. -/
def Blocks.retireLost (b : Blocks) (i : SlotId) : Blocks :=
  let b := b.modSlot i (fun r => { r with lostReason := some .retired })
  if (b.holder i).isSome then b.retireHeld i else b

/-- R94, R120: what a SLOT RETIRE does, or nothing where it is refused with STATE. -/
def Blocks.retireSlot (b : Blocks) (i : SlotId) : Option Blocks :=
  match (b.slot i).state with
  | .vacant | .off | .covered => none
  | .lost => some (b.retireLost i)
  | .dark | .queued | .ramping | .held | .identifying | .loading | .live => some (b.lose i .retired)

def ownSlotRetire (body : List Byte) (s : State) : Answered := s.slotRequest body Blocks.retireSlot

/-- R116: what a REVERT does, or nothing where it is refused with STATE. -/
def Blocks.revertSlot (b : Blocks) (i : SlotId) : Option Blocks :=
  if (b.holder i).isSome = true ∧ ((b.slot i).state = .covered ∨ (b.slot i).state = .lost) then some (b.beginRevert i)
  else none

def ownRevert (body : List Byte) (s : State) : Answered := s.slotRequest body Blocks.revertSlot

end Sys2Proof.Machine
end

