-- ==== Sys2Proof/Machine/Requests.lean ====
section
/-! DEFINITION. The request in hand (R166) and the meanings of the request commands: each offers its frame to the
request buffer (log 1). -/

namespace Sys2Proof.Machine

/-- R166, step 3: the block that owns a request kind takes the body. -/
def ownRequest (kind : Nat) (body : List Byte) (s : State) : Answered :=
  match kind with
  | 0x01 => ownSetFeeds body s
  | 0x02 => ownSetBudget body s
  | 0x03 => ownSetRelink body s
  | 0x04 => ownSetNotices body s
  | 0x05 => ownLoadSlot body s
  | 0x06 => ownStartShelf body s
  | 0x07 => ownDrill body s
  | 0x08 => ownReset body s
  | 0x09 => ownGetShelf body s
  | 0x0A => ownGetSlot body s
  | 0x0B => ownGetEpisode body s
  | 0x0C => ownCreateLink body s
  | 0x0D => ownRemoveLink body s
  | 0x0E => ownRetryLink body s
  | 0x0F => ownGetLink body s
  | 0x10 => ownFindLinks body s
  | 0x11 => ownSetPort body s
  | 0x12 => ownGetPort body s
  | 0x13 => ownCardPorts body s
  | 0x14 => ownSlotRestart body s
  | 0x15 => ownSlotRetire body s
  | 0x16 => ownRevert body s
  | _ => (s, none)

/-- R166, R175: a request is judged, and taken by its owner. -/
def judgeRequest (f : Frame) (s : State) : Answered :=
  match allowedLengths f.kind with
  | none => s.refuse .badKind
  | some lengths => if f.body.length ∈ lengths then ownRequest f.kind.toNat f.body s else s.refuse .badLength

/-- R166: the reply formed from the outcome, if it is ready. -/
def State.answered (a : Answered) : State :=
  match a.2 with
  | some (status, fields) => { a.1 with port := a.1.port.answer a.1.time status fields }
  | none => a.1

/-- R166: the oldest frame comes into hand, is judged, taken and answered; the notices it raised follow. -/
def State.takeInHand (s : State) : State :=
  match s.port.buffer with
  | [] => s
  | f :: _ => (State.answered (judgeRequest f s)).deliver

/-- R165: a received frame is offered to the request buffer. -/
def State.receive (s : State) (f : Frame) : State :=
  if s.port.buffer.length < Config.bufferPlaces then
    let s' := { s with port := { s.port with buffer := s.port.buffer ++ [f] } }
    if s.port.buffer = [] then s'.takeInHand else s'
  else { s with port := s.port.busy s.time f }

/-- BAD_KIND, R166, R175: a received frame whose kind is no request kind. -/
def execBadKind (kind tag : Byte) (body : List Byte) (s : State) : Host.Outcome State Fault Refusal :=
  s.running (fun s => s.receive { kind, tag, body })

/-- SET_FEEDS, R132. -/
def execSetFeeds (tag : Byte) (body : List Byte) (s : State) : Host.Outcome State Fault Refusal :=
  s.running (fun s => s.receive { kind := 0x01, tag, body })

/-- SET_BUDGET, R133. -/
def execSetBudget (tag : Byte) (body : List Byte) (s : State) : Host.Outcome State Fault Refusal :=
  s.running (fun s => s.receive { kind := 0x02, tag, body })

/-- SET_RELINK, R23, R66, R144, R154. -/
def execSetRelink (tag : Byte) (body : List Byte) (s : State) : Host.Outcome State Fault Refusal :=
  s.running (fun s => s.receive { kind := 0x03, tag, body })

/-- SET_NOTICES, R169. -/
def execSetNotices (tag : Byte) (body : List Byte) (s : State) : Host.Outcome State Fault Refusal :=
  s.running (fun s => s.receive { kind := 0x04, tag, body })

/-- LOAD_SLOT, R76, R77. -/
def execLoadSlot (tag : Byte) (body : List Byte) (s : State) : Host.Outcome State Fault Refusal :=
  s.running (fun s => s.receive { kind := 0x05, tag, body })

/-- START_SHELF, R80. -/
def execStartShelf (tag : Byte) (body : List Byte) (s : State) : Host.Outcome State Fault Refusal :=
  s.running (fun s => s.receive { kind := 0x06, tag, body })

/-- DRILL, R50. -/
def execDrill (tag : Byte) (body : List Byte) (s : State) : Host.Outcome State Fault Refusal :=
  s.running (fun s => s.receive { kind := 0x07, tag, body })

/-- RESET, R173. -/
def execReset (tag : Byte) (body : List Byte) (s : State) : Host.Outcome State Fault Refusal :=
  s.running (fun s => s.receive { kind := 0x08, tag, body })

/-- GET_SHELF, R168. -/
def execGetShelf (tag : Byte) (body : List Byte) (s : State) : Host.Outcome State Fault Refusal :=
  s.running (fun s => s.receive { kind := 0x09, tag, body })

/-- GET_SLOT, R95. -/
def execGetSlot (tag : Byte) (body : List Byte) (s : State) : Host.Outcome State Fault Refusal :=
  s.running (fun s => s.receive { kind := 0x0A, tag, body })

/-- GET_EPISODE, R74. -/
def execGetEpisode (tag : Byte) (body : List Byte) (s : State) : Host.Outcome State Fault Refusal :=
  s.running (fun s => s.receive { kind := 0x0B, tag, body })

/-- CREATE_LINK, R13. -/
def execCreateLink (tag : Byte) (body : List Byte) (s : State) : Host.Outcome State Fault Refusal :=
  s.running (fun s => s.receive { kind := 0x0C, tag, body })

/-- REMOVE_LINK, R17. -/
def execRemoveLink (tag : Byte) (body : List Byte) (s : State) : Host.Outcome State Fault Refusal :=
  s.running (fun s => s.receive { kind := 0x0D, tag, body })

/-- RETRY_LINK, R37. -/
def execRetryLink (tag : Byte) (body : List Byte) (s : State) : Host.Outcome State Fault Refusal :=
  s.running (fun s => s.receive { kind := 0x0E, tag, body })

/-- GET_LINK, R18. -/
def execGetLink (tag : Byte) (body : List Byte) (s : State) : Host.Outcome State Fault Refusal :=
  s.running (fun s => s.receive { kind := 0x0F, tag, body })

/-- FIND_LINKS, R19. -/
def execFindLinks (tag : Byte) (body : List Byte) (s : State) : Host.Outcome State Fault Refusal :=
  s.running (fun s => s.receive { kind := 0x10, tag, body })

/-- SET_PORT, R105. -/
def execSetPort (tag : Byte) (body : List Byte) (s : State) : Host.Outcome State Fault Refusal :=
  s.running (fun s => s.receive { kind := 0x11, tag, body })

/-- GET_PORT, R107. -/
def execGetPort (tag : Byte) (body : List Byte) (s : State) : Host.Outcome State Fault Refusal :=
  s.running (fun s => s.receive { kind := 0x12, tag, body })

/-- CARD_PORTS, R108. -/
def execCardPorts (tag : Byte) (body : List Byte) (s : State) : Host.Outcome State Fault Refusal :=
  s.running (fun s => s.receive { kind := 0x13, tag, body })

/-- SLOT_RESTART, R93. -/
def execSlotRestart (tag : Byte) (body : List Byte) (s : State) : Host.Outcome State Fault Refusal :=
  s.running (fun s => s.receive { kind := 0x14, tag, body })

/-- SLOT_RETIRE, R94. -/
def execSlotRetire (tag : Byte) (body : List Byte) (s : State) : Host.Outcome State Fault Refusal :=
  s.running (fun s => s.receive { kind := 0x15, tag, body })

/-- REVERT, R116. -/
def execRevert (tag : Byte) (body : List Byte) (s : State) : Host.Outcome State Fault Refusal :=
  s.running (fun s => s.receive { kind := 0x16, tag, body })

end Sys2Proof.Machine
end

