-- ==== Sys2Proof/Machine/Line.lean ====
section
/-! DEFINITION. The supervision line and the resets: a character, a line error, the gap timer, a frame sent (R163,
R164, R171), and DEVICE_RESET, RESET_RELEASE (R172). -/

namespace Sys2Proof.Machine

/-- R163 to R165: a character at the framer; a received frame is offered to the request buffer. -/
def State.character (s : State) (c : Byte) : State :=
  let r := s.port.character c
  let s := { s with port := r.1 }
  match r.2 with
  | some f => s.receive f
  | none => s

/-- CHARACTER_RECEIVED, R163. -/
def execCharacterReceived (c : Byte) (s : State) : Host.Outcome State Fault Refusal :=
  s.running (fun s => s.character c)

/-- LINE_ERROR, R163, R164: in HUNT it is disregarded, elsewhere it ends the present frame. -/
def execLineError (s : State) : Host.Outcome State Fault Refusal :=
  s.running (fun s => if s.port.framer = .hunt then s else { s with port := s.port.hunt })

/-- GAP_TIMER_EXPIRY, R163, R164: the running gap timer ends the present frame. -/
def execGapTimerExpiry (s : State) : Host.Outcome State Fault Refusal :=
  s.running (fun s => if s.port.gap.isSome then { s with port := s.port.hunt } else s)

/-- R173: the reply is the one a RESET brings the reset with. -/
def Reply.resets (r : Reply) : Bool := r.inHand && r.kind == 0x08 && r.status == .ok

/-- R166, R171: the last byte of a reply has been sent: it leaves the waiting replies, an answered request leaves the
buffer, and the next request comes into hand. -/
def State.replySent (s : State) : State :=
  match s.port.replies with
  | [] => { s with port := { s.port with line := .free } }
  | r :: rest =>
    if r.resets then s.resetAll
    else if r.inHand then
      State.takeInHand { s with port := { s.port with line := .free, replies := rest, buffer := s.port.buffer.tail } }
    else { s with port := { s.port with line := .free, replies := rest } }

/-- R171: the next frame begins when the line is free. -/
def State.beginNext (s : State) : State := { s with port := s.port.begin s.time }

/-- R171: the last byte of a frame has been sent. -/
def State.frameSent (s : State) : State :=
  match s.port.line with
  | .free => s
  | .reply => s.replySent.beginNext
  | .notice _ => State.beginNext { s with port := { s.port with line := .free } }

/-- FRAME_SENT, R171, R173. -/
def execFrameSent (s : State) : Host.Outcome State Fault Refusal := s.running State.frameSent

/-- DEVICE_RESET, R172: every block holds its reset values while the pin is held. -/
def execDeviceReset (s : State) : Host.Outcome State Fault Refusal := .next { s.resetAll with resetHeld := true }

/-- RESET_RELEASE, R172: the part begins from the reset values. A pin that is not held cannot be released (log 4). -/
def execResetRelease (s : State) : Host.Outcome State Fault Refusal :=
  .next (if s.resetHeld then s.resetAll else s)

end Sys2Proof.Machine
end

