-- ==== Sys2Proof/Machine/Dispatch.lean ====
section
/-! DEFINITION. One arm for each command: one direct call of its meaning. -/

namespace Sys2Proof.Machine

def exec (i : Instr) (s : State) : Host.Outcome State Fault Refusal :=
  match i with
  | .deviceReset => Sys2Proof.Machine.execDeviceReset s
  | .resetRelease => Sys2Proof.Machine.execResetRelease s
  | .characterReceived c => Sys2Proof.Machine.execCharacterReceived c s
  | .lineError => Sys2Proof.Machine.execLineError s
  | .gapTimerExpiry => Sys2Proof.Machine.execGapTimerExpiry s
  | .frameSent => Sys2Proof.Machine.execFrameSent s
  | .badKind kind tag body => Sys2Proof.Machine.execBadKind kind tag body s
  | .setFeeds tag body => Sys2Proof.Machine.execSetFeeds tag body s
  | .setBudget tag body => Sys2Proof.Machine.execSetBudget tag body s
  | .setRelink tag body => Sys2Proof.Machine.execSetRelink tag body s
  | .setNotices tag body => Sys2Proof.Machine.execSetNotices tag body s
  | .loadSlot tag body => Sys2Proof.Machine.execLoadSlot tag body s
  | .startShelf tag body => Sys2Proof.Machine.execStartShelf tag body s
  | .drill tag body => Sys2Proof.Machine.execDrill tag body s
  | .reset tag body => Sys2Proof.Machine.execReset tag body s
  | .getShelf tag body => Sys2Proof.Machine.execGetShelf tag body s
  | .getSlot tag body => Sys2Proof.Machine.execGetSlot tag body s
  | .getEpisode tag body => Sys2Proof.Machine.execGetEpisode tag body s
  | .createLink tag body => Sys2Proof.Machine.execCreateLink tag body s
  | .removeLink tag body => Sys2Proof.Machine.execRemoveLink tag body s
  | .retryLink tag body => Sys2Proof.Machine.execRetryLink tag body s
  | .getLink tag body => Sys2Proof.Machine.execGetLink tag body s
  | .findLinks tag body => Sys2Proof.Machine.execFindLinks tag body s
  | .setPort tag body => Sys2Proof.Machine.execSetPort tag body s
  | .getPort tag body => Sys2Proof.Machine.execGetPort tag body s
  | .cardPorts tag body => Sys2Proof.Machine.execCardPorts tag body s
  | .slotRestart tag body => Sys2Proof.Machine.execSlotRestart tag body s
  | .slotRetire tag body => Sys2Proof.Machine.execSlotRetire tag body s
  | .revert tag body => Sys2Proof.Machine.execRevert tag body s
  | .feedSample feed sample => Sys2Proof.Machine.execFeedSample feed sample s
  | .armTimerExpiry => Sys2Proof.Machine.execArmTimerExpiry s
  | .holdTimerExpiry => Sys2Proof.Machine.execHoldTimerExpiry s
  | .cardAcknowledge => Sys2Proof.Machine.execCardAcknowledge s
  | .cardHeaderAnswer answer => Sys2Proof.Machine.execCardHeaderAnswer answer s
  | .cardDataRecord bytes => Sys2Proof.Machine.execCardDataRecord bytes s
  | .cardCompletion code => Sys2Proof.Machine.execCardCompletion code s
  | .releaseEnd => Sys2Proof.Machine.execReleaseEnd s
  | .phaseTimeoutExpiry => Sys2Proof.Machine.execPhaseTimeoutExpiry s
  | .attentionRise slot => Sys2Proof.Machine.execAttentionRise slot s
  | .returnDeadlineExpiry slot => Sys2Proof.Machine.execReturnDeadlineExpiry slot s
  | .rampTimerExpiry slot => Sys2Proof.Machine.execRampTimerExpiry slot s
  | .darkTimerExpiry slot => Sys2Proof.Machine.execDarkTimerExpiry slot s
  | .switchTrip slot => Sys2Proof.Machine.execSwitchTrip slot s
  | .acknowledgeWithdrawn => Sys2Proof.Machine.execAcknowledgeWithdrawn s

end Sys2Proof.Machine
end

