-- ==== Sys2Proof/Safety.lean ====
section
/-! DEFINITION. What counts as a safe run: the laws of the device (00_scope.md) that are kept here as invariants of the
step, block by block; and the few words the statements share. -/

namespace Sys2Proof.Machine

/-! ### Words shared by the statements -/

/-- The reset pin is not held (R172). -/
def State.Awake (s : State) : Prop := s.resetHeld = false

/-- The blocks have nothing left to tell the port: so it is between any two steps (log 24). -/
def State.Quiet (s : State) : Prop := s.blk.raised = [] ∧ s.blk.passOutcome = none

/-- A request that is received now comes into hand at once (R165, R166). -/
def State.Ready (s : State) : Prop := s.Awake ∧ s.Quiet ∧ s.port.buffer = []

/-- The state with a frame in hand. -/
def State.holding (s : State) (f : Frame) : State := { s with port := { s.port with buffer := [f] } }

/-- R166, R171, R175: the reply to the frame in hand joins the waiting replies, and begins when the line is free. -/
def State.replied (s : State) (f : Frame) (status : Status) (fields : List Byte) : State :=
  { s with port := s.port.reply s.time { kind := f.kind, tag := f.tag, status, fields, inHand := true } }

/-- A request that comes into hand, is answered and moves no block. -/
def State.answers (s : State) (f : Frame) (status : Status) (fields : List Byte) : Host.Outcome State Fault Refusal :=
  .next ((s.holding f).replied f status fields)

/-- The state with its transfer gone on to a phase, and a wait begun with the phase timeout in force (R153, R154). -/
def State.atPhase (s : State) (tr : Transfer) (phase : Phase) : Host.Outcome State Fault Refusal :=
  .next { s with blk := { s.blk with
    bus := { s.blk.bus with transfer := some { tr with phase, wait := s.blk.bus.phaseTimeout } } } }

/-- The whole taking of a request in hand: what it does to the blocks, what they then judge, the reply, and what they
told the port. What the blocks judge has one fixed order (log 6, 7 and 9), and the notices follow the reply (log 10): DESIGN
CHOICE, unsafe, for every statement that names this definition. -/
def State.carriedOut (s : State) (f : Frame) (effect : Blocks → Blocks) (status : Status) (fields : List Byte) :
    State :=
  (((s.holding f).settled effect).replied f status fields).deliver

/-- The frame a request command offers: its kind from the table of 11.4, its tag and its body. -/
def requestFrame : Instr → Option Frame
  | .badKind kind tag body => some { kind, tag, body }
  | .setFeeds tag body => some { kind := 0x01, tag, body }
  | .setBudget tag body => some { kind := 0x02, tag, body }
  | .setRelink tag body => some { kind := 0x03, tag, body }
  | .setNotices tag body => some { kind := 0x04, tag, body }
  | .loadSlot tag body => some { kind := 0x05, tag, body }
  | .startShelf tag body => some { kind := 0x06, tag, body }
  | .drill tag body => some { kind := 0x07, tag, body }
  | .reset tag body => some { kind := 0x08, tag, body }
  | .getShelf tag body => some { kind := 0x09, tag, body }
  | .getSlot tag body => some { kind := 0x0A, tag, body }
  | .getEpisode tag body => some { kind := 0x0B, tag, body }
  | .createLink tag body => some { kind := 0x0C, tag, body }
  | .removeLink tag body => some { kind := 0x0D, tag, body }
  | .retryLink tag body => some { kind := 0x0E, tag, body }
  | .getLink tag body => some { kind := 0x0F, tag, body }
  | .findLinks tag body => some { kind := 0x10, tag, body }
  | .setPort tag body => some { kind := 0x11, tag, body }
  | .getPort tag body => some { kind := 0x12, tag, body }
  | .cardPorts tag body => some { kind := 0x13, tag, body }
  | .slotRestart tag body => some { kind := 0x14, tag, body }
  | .slotRetire tag body => some { kind := 0x15, tag, body }
  | .revert tag body => some { kind := 0x16, tag, body }
  | .deviceReset | .resetRelease | .characterReceived _ | .lineError | .gapTimerExpiry | .frameSent
  | .feedSample _ _ | .armTimerExpiry | .holdTimerExpiry | .cardAcknowledge | .cardHeaderAnswer _
  | .cardDataRecord _ | .cardCompletion _ | .releaseEnd | .phaseTimeoutExpiry | .attentionRise _
  | .returnDeadlineExpiry _ | .rampTimerExpiry _ | .darkTimerExpiry _ | .switchTrip _ | .acknowledgeWithdrawn => none

/-- R172: the commands that act while the reset pin is held, or end the hold. -/
def isResetPin : Instr → Bool
  | .deviceReset | .resetRelease => true
  | _ => false

/-- A property every step keeps, from every state that has it. -/
def KeptByStep (law : State → Prop) : Prop := ∀ s t : State, law s → step s = .next t → law t

/-! ### The laws -/

/-- R121, R123, law 10: an accumulator of a sampled feed lies in 0..131056, so its filtered value in 0..8191. -/
def Feed.Law (f : Feed) : Prop := ∀ r, f.reading = some r → r.acc ≤ 131056

/-- Law 10, with the ranges of the feed monitor's settings (R123, R125, R127, R129, R130). -/
def FeedMonitor.Law (m : FeedMonitor) : Prop :=
  m.feedA.Law ∧ m.feedB.Law ∧ m.depth ≤ 4 ∧ m.low < m.good ∧ m.good ≤ 8191 ∧ m.armTime ≤ 60000 ∧ m.dips ≤ 65535
    ∧ m.floor ≤ 8191 ∧ 1 ≤ m.gain ∧ m.gain ≤ 255 ∧ 1 ≤ m.cap ∧ m.cap ≤ 2000 ∧ m.budget ≤ m.cap

/-- Law 12, with R48 and R60: at most four records, only the newest open, and one is open exactly in SETTLING, HOLDUP
and RECOVERING. -/
def EpisodeController.Law (ep : EpisodeController) : Prop :=
  ep.history.length ≤ 4 ∧ (∀ e ∈ ep.history.tail, e.ended.isSome = true) ∧ ep.counter ≤ 65535
    ∧ (ep.isOpen = true ↔ ep.shelf = .settling ∨ ep.shelf = .holdup ∨ ep.shelf = .recovering)

/-- Law 7, with R22: the window lies in 1..8 and the in-flight set holds at most 8 links. -/
def Engine.Law (e : Engine) : Prop := 1 ≤ e.window ∧ e.window ≤ 8 ∧ e.inFlight.length ≤ 8

/-- Laws 2 and 5 over the link store (R1, R5, R7, R10): the records stand at distinct ids 0..1023, each holds exactly
the cells of its highway set at its cell index, no cell is held twice, and the sequences are distinct and below the
counter. -/
def LinkStore.Law (st : LinkStore) : Prop :=
  st.links.Pairwise (fun l m => l.id < m.id)
    ∧ (∀ l ∈ st.links, l.id < Config.linkCapacity ∧ l.index < Config.cellsPerHighway)
    ∧ (∀ c : HeldCell, c ∈ st.cells ↔ ∃ l ∈ st.links, c ∈ cellsOf l.hset l.index l.id)
    ∧ st.cells.Pairwise (fun c d => ¬(c.highway = d.highway ∧ c.index = d.index))
    ∧ st.links.Pairwise (fun l m => l.seq ≠ m.seq)
    ∧ (∀ l ∈ st.links, l.seq ≤ Config.lastSequence)
    ∧ (∀ n, st.seq = some n → n ≤ Config.lastSequence ∧ ∀ l ∈ st.links, l.seq < n)

/-- R163, R165, R170, R171: the framer's bytes and gap timer, and the capacities of the port. -/
def SupervisionPort.Law (p : SupervisionPort) : Prop :=
  p.buffer.length ≤ 4 ∧ p.notices.length ≤ 32 ∧ p.busyCount ≤ 4
    ∧ (p.gap.isSome = true ↔ p.framer ≠ .hunt)
    ∧ (∀ got, p.framer = .length got → got.length ≤ 1)
    ∧ (∀ len got, p.framer = .frame len got → 2 ≤ len ∧ len ≤ 252 ∧ got.length < len + 2)

/-- R151: the bus is not left free while a head waits that may be granted. -/
def CardBus.Law (bus : CardBus) : Prop := bus.transfer.isSome = true ∨ bus.turn = none

/-- The term a SET TERM of the registry gives, if the order is one. -/
def BusOrder.term (o : BusOrder) : Option Nat :=
  match o.purpose with
  | .registry (.setTerm term) => some term
  | _ => none

/-- R86: a term is never 0, and lies in 1..255. -/
def TermInRange (t : Nat) : Prop := 1 ≤ t ∧ t ≤ 255

/-- Law 9 (R79): a LIVE slot has a stored term, and every stored term, and every term on its way to a card, lies in
1..255. -/
def Blocks.TermLaw (b : Blocks) : Prop :=
  (∀ i, (b.slot i).state = .live → (b.slot i).storedTerm.isSome = true)
    ∧ (∀ i t, (b.slot i).storedTerm = some t → TermInRange t)
    ∧ (∀ o ∈ b.bus.registryQueue ++ b.bus.relinkQueue ++ b.bus.pass.toList ++ b.engine.backlog,
        ∀ t, o.term = some t → TermInRange t)

/-- Whether a link in the state has an entry in the in-flight set (law 4). -/
def LinkState.flying : LinkState → Bool
  | .verifying | .preparing | .ready | .activating => true
  | .pending | .suspect | .carried | .deferred | .releasing => false

/-- Laws 4, 5 and 7 (R20 to R22): the three collections hold each link at most once and hold only links of the table;
where a link stands follows from its state; the restore queue is in rank order. -/
def Blocks.RelinkLaw (b : Blocks) : Prop :=
  b.engine.Law ∧ b.engine.queue.Nodup ∧ b.engine.deferred.Nodup ∧ (b.engine.inFlight.map InFlight.link).Nodup
    ∧ (∀ id, id ∈ b.engine.queue ∨ id ∈ b.engine.deferred ∨ id ∈ b.engine.inFlight.map InFlight.link →
        (b.link id).isSome = true)
    ∧ (∀ l ∈ b.store.links,
        (l.id ∈ b.engine.inFlight.map InFlight.link ↔ l.state.flying = true)
          ∧ (l.id ∈ b.engine.deferred ↔ l.state = .deferred)
          ∧ (l.id ∈ b.engine.queue ↔ l.state = .pending ∨ l.state = .suspect
              ∨ ∃ f ∈ b.engine.inFlight, f.link = l.id ∧ f.origin = .queue)
          ∧ (l.deferral.isSome = true ↔ l.state = .deferred))
    ∧ (∀ f ∈ b.engine.inFlight, f.step = .survey → f.origin = .queue)
    ∧ b.engine.queue.Pairwise (fun id jd => ∀ l m, b.link id = some l → b.link jd = some m → l.above m = true)

/-- The endpoints of the link table (R2). -/
def LinkStore.endpoints (st : LinkStore) : List Endpoint := st.links.flatMap (fun l => [l.epA, l.epB])

/-- Law 1, with R14: no two endpoints share a port of a slot, by slot or by home slot; a home slot is never planned
SPARE, and an endpoint stands on the spare only with a home slot. -/
def Blocks.EndpointLaw (b : Blocks) : Prop :=
  b.store.endpoints.Pairwise (fun e f => e.collides f = false)
    ∧ ∀ e ∈ b.store.endpoints, ∀ p, (b.slot (e.home.getD e.slot)).plan = some p → p.role = .working

/-- Law 11, R136 to R138: what a slot's state says of its power record and of the cover relation; and the admission queue
is in its order, lower admission rank first and then lower slot number, and so holds a slot once. -/
def Blocks.SlotLaw (b : Blocks) : Prop :=
  (∀ i, (b.powerRec i).closed = (b.slot i).state.powered
      ∧ (i ∈ b.power.queue ↔ (b.slot i).state = .queued)
      ∧ ((b.powerRec i).dark.isSome = true ↔ (b.slot i).state = .dark)
      ∧ ((b.powerRec i).closed = false → (b.powerRec i).charge = 0 ∧ (b.powerRec i).ramp = none))
    ∧ (∀ t s, (b.slot t).coveredSlot = some s →
        ((b.slot s).state = .covered ∨ (b.slot s).state = .lost ∨ (b.slot s).revertMark = true)
          ∧ (b.slot t).state ∉ [SlotState.vacant, .off, .lost, .covered]
          ∧ (b.slot t).plan.any (fun p => p.role == .spare) = true
          ∧ (b.slot s).plan.any (fun p => p.role == .working) = true
          ∧ ∀ u, (b.slot u).coveredSlot = some s → u = t)
    ∧ (∀ s, (b.slot s).state = .covered → ∃ t, (b.slot t).coveredSlot = some s ∧ (b.slot t).state = .live)
    ∧ (∀ s, (b.slot s).revertMark = true →
        (b.slot s).state ∉ [SlotState.vacant, .off, .lost, .covered] ∧ ∃ t, (b.slot t).coveredSlot = some s)
    ∧ b.power.queue.Pairwise (fun i j =>
        let rank := fun k => ((b.slot k).plan.map Plan.admissionRank).getD 0
        rank i < rank j ∨ (rank i = rank j ∧ i < j))
    ∧ (b.ep.shelf = .cold → ∀ i, ((b.slot i).state = .vacant ∨ (b.slot i).state = .off) ∧ (b.slot i).coveredSlot = none)

/-- Law 3, with R130, R131, R136: the admitted load is within the cap, and the budget is the one last reported. -/
def State.LoadLaw (s : State) : Prop :=
  (∀ i p, (s.blk.powerRec i).ramp.isSome = true → (s.blk.slot i).plan = some p → p.steady ≤ (s.blk.powerRec i).charge)
    ∧ (∀ i p, (s.blk.slot i).plan = some p → p.steady ≤ p.inrush)
    ∧ s.blk.power.load ≤ s.feed.cap ∧ s.blk.power.budget = s.feed.budget ∧ s.feed.lastReported = s.feed.budget
    ∧ s.feed.budget ≤ s.feed.cap

/-- Law 8, with R22: a link in flight or CARRIED has both endpoints on LIVE slots; every link that ends on a slot that is
LOST, COVERED or reverting is RELEASING. -/
def Blocks.OccupancyLaw (b : Blocks) : Prop :=
  (∀ l ∈ b.store.links, l.state.flying = true ∨ l.state = .carried →
      b.isLive l.epA.slot = true ∧ b.isLive l.epB.slot = true)
    ∧ ∀ i, (b.slot i).state = .lost ∨ (b.slot i).state = .covered ∨ (b.slot i).revertMark = true →
        ∀ l ∈ b.store.links, l.endsOn i = true → l.state = .releasing

/-- The laws together, with what the port and the blocks are between two steps. -/
def State.Lawful (s : State) : Prop :=
  s.feed.Law ∧ s.blk.ep.Law ∧ s.blk.store.Law ∧ s.blk.RelinkLaw ∧ s.blk.EndpointLaw ∧ s.blk.SlotLaw ∧ s.LoadLaw
    ∧ s.blk.OccupancyLaw ∧ s.port.Law ∧ s.blk.bus.Law ∧ s.blk.TermLaw ∧ s.Quiet

end Sys2Proof.Machine
end

