-- ==== Sys2Proof/WellFormed.lean ====
section
/-! DEFINITION. What makes a command one that its sender can give: the bounds the frame layout sets (R174), and
for BAD_KIND a kind that is no request kind (R175). Every other operand is bounded by its type. -/

namespace Sys2Proof

/-- R175: the request kinds are 0x01..0x16. -/
def isRequestKind (kind : Byte) : Bool := decide (1 ≤ kind.toNat ∧ kind.toNat ≤ 0x16)

/-- R174: a body is 0..250 bytes. -/
def bodyFits (body : List Byte) : Bool := decide (body.length ≤ 250)

namespace Instr

/-- The command's operands are ones the wire can carry. -/
def wellFormed : Instr → Bool
  | .badKind kind _ body => !isRequestKind kind && bodyFits body
  | .setFeeds _ body => bodyFits body
  | .setBudget _ body => bodyFits body
  | .setRelink _ body => bodyFits body
  | .setNotices _ body => bodyFits body
  | .loadSlot _ body => bodyFits body
  | .startShelf _ body => bodyFits body
  | .drill _ body => bodyFits body
  | .reset _ body => bodyFits body
  | .getShelf _ body => bodyFits body
  | .getSlot _ body => bodyFits body
  | .getEpisode _ body => bodyFits body
  | .createLink _ body => bodyFits body
  | .removeLink _ body => bodyFits body
  | .retryLink _ body => bodyFits body
  | .getLink _ body => bodyFits body
  | .findLinks _ body => bodyFits body
  | .setPort _ body => bodyFits body
  | .getPort _ body => bodyFits body
  | .cardPorts _ body => bodyFits body
  | .slotRestart _ body => bodyFits body
  | .slotRetire _ body => bodyFits body
  | .revert _ body => bodyFits body
  | .deviceReset => true
  | .resetRelease => true
  | .characterReceived _ => true
  | .lineError => true
  | .gapTimerExpiry => true
  | .frameSent => true
  | .feedSample _ _ => true
  | .armTimerExpiry => true
  | .holdTimerExpiry => true
  | .cardAcknowledge => true
  | .cardHeaderAnswer _ => true
  | .cardDataRecord _ => true
  | .cardCompletion _ => true
  | .releaseEnd => true
  | .phaseTimeoutExpiry => true
  | .attentionRise _ => true
  | .returnDeadlineExpiry _ => true
  | .rampTimerExpiry _ => true
  | .darkTimerExpiry _ => true
  | .switchTrip _ => true
  | .acknowledgeWithdrawn => true

end Instr
end Sys2Proof
end

