-- ==== Sys2Proof/Certificates/Slice0/Obligations.lean ====
section
/-! DEFINITION. The statements about the part, for the provers: the step and the resets, the supervision link, the
requests, the events, the frames, and the laws every step keeps. -/

open Sys2Proof Sys2Proof.Machine

/-! ### The step and the resets -/

/-- A step takes the command at the front of the queue and runs it with the rest of the queue. -/
def Obligations.StepRunsTheFrontCommand : Prop :=
  ∀ (s : State) (c : Instr) (rest : List Instr),
    s.pending = c :: rest → step s = exec c { s with pending := rest }

/-- On an empty queue a step is one millisecond (the model's choice, log 2): the time counter counts and wraps (R168),
every running timer comes one millisecond nearer its end, and nothing else moves. -/
def Obligations.EmptyQueueIsOneMillisecond : Prop :=
  ∀ s : State, s.pending = [] → ∃ t, step s = .next t
    ∧ (s.resetHeld = true → t = s)
    ∧ (s.resetHeld = false →
        t.time = (s.time + 1) % 4294967296 ∧ t.port = { s.port with gap := s.port.gap.map Nat.pred }
        ∧ t.feed = { s.feed with armTimer := s.feed.armTimer.map Nat.pred }
        ∧ t.resetHeld = s.resetHeld ∧ t.pending = s.pending ∧ t.blk.raised = s.blk.raised
        ∧ t.blk.passOutcome = s.blk.passOutcome
        ∧ t.blk.store = s.blk.store ∧ t.blk.ep = s.blk.ep ∧ t.blk.reg.ports = s.blk.reg.ports
        ∧ t.blk.power = { s.blk.power with recs := t.blk.power.recs }
        ∧ t.blk.engine = { s.blk.engine with hold := s.blk.engine.hold.map (fun h => { h with left := h.left.pred }) }
        ∧ t.blk.bus = { s.blk.bus with
            transfer := s.blk.bus.transfer.map (fun tr => { tr with wait := tr.wait.pred }) }
        ∧ ∀ i, t.blk.slot i = { s.blk.slot i with deadline := (s.blk.slot i).deadline.map Nat.pred }
          ∧ t.blk.powerRec i = { s.blk.powerRec i with
              ramp := (s.blk.powerRec i).ramp.map Nat.pred, dark := (s.blk.powerRec i).dark.map Nat.pred })

/-- R172: DEVICE_RESET and RESET_RELEASE both leave every block at its reset values, those the rule lists among them. A
release of a pin that is not held does nothing (log 4). While the pin is held no other command moves anything. -/
def Obligations.PinResetsAndHoldsThePart : Prop :=
  (∀ (s : State) (c : Instr), s.resetHeld = true → isResetPin c = false → exec c s = .next s)
  ∧ ∀ s : State, ∃ t, exec .deviceReset s = .next { t with resetHeld := true }
    ∧ exec .resetRelease s = .next (if s.resetHeld then t else s)
    ∧ t = { State.reset with pending := s.pending }
    ∧ (∀ i, (t.blk.slot i).state = .vacant ∧ (t.blk.slot i).storedTerm = none ∧ (t.blk.slot i).plan = none
        ∧ (t.blk.powerRec i).closed = false ∧ (t.blk.powerRec i).charge = 0
        ∧ ∀ p, t.blk.port i p = PortRec.reset)
    ∧ t.blk.store = { links := [], cells := [], seq := some 0 }
    ∧ t.blk.engine.queue = [] ∧ t.blk.engine.deferred = [] ∧ t.blk.engine.inFlight = [] ∧ t.blk.engine.backlog = []
    ∧ t.blk.engine.window = 4 ∧ t.blk.engine.holdTime = 10000
    ∧ t.blk.engine.mask = { hset := true, index := true, role := true, tag := true }
    ∧ t.blk.power.queue = [] ∧ t.blk.power.darkTime = 500
    ∧ t.blk.bus.registryQueue = [] ∧ t.blk.bus.relinkQueue = [] ∧ t.blk.bus.pass = none ∧ t.blk.bus.transfer = none
    ∧ t.blk.bus.phaseTimeout = 10
    ∧ t.blk.ep.history = [] ∧ t.blk.ep.counter = 0 ∧ t.blk.ep.shelf = .cold
    ∧ t.feed.dips = 0 ∧ t.feed.armed = false ∧ t.feed.supply = .down
    ∧ t.feed.feedA = { present := true, reading := none } ∧ t.feed.feedB = { present := true, reading := none }
    ∧ t.feed.depth = 3 ∧ t.feed.low = 4000 ∧ t.feed.good = 4300 ∧ t.feed.armTime = 1000
    ∧ t.feed.floor = 4000 ∧ t.feed.gain = 32 ∧ t.feed.cap = 600
    ∧ t.port.framer = .hunt ∧ t.port.buffer = [] ∧ t.port.replies = [] ∧ t.port.notices = []
    ∧ t.port.overflow = none ∧ t.port.line = .free
    ∧ t.port.mask = { supply := true, episode := true, slot := true, link := true }
    ∧ t.time = 0

/-! ### The supervision link -/

/-- R163, R164: what moves the framer. A character that completes no frame moves the framer and its gap timer, as the
rule's table gives, and nothing else. The last byte of a frame ends it: a frame whose check agrees is offered to the request
buffer, as the request of its kind would be; one whose check differs is discarded, and nothing but the framer moves. A line
error in HUNT is disregarded; elsewhere it ends the present frame, as the expiry of the running gap timer does. An expiry of
a gap timer that does not run is none (log 4). -/
def Obligations.CharactersErrorsAndGapsMoveTheFramer : Prop :=
  (∀ (s : State) (c : Byte), s.Awake →
    let framed := fun (f : Framer) (gap : Option Nat) => { s with port := { s.port with framer := f, gap } }
    (s.port.framer = .hunt →
        exec (.characterReceived c) s = .next (if c = 0xA5 then framed (.length []) (some 5) else s))
    ∧ (s.port.framer = .length [] → exec (.characterReceived c) s = .next (framed (.length [c]) (some 5)))
    ∧ (∀ hi : Byte, s.port.framer = .length [hi] →
        exec (.characterReceived c) s = .next
          (if 2 ≤ 256 * hi.toNat + c.toNat ∧ 256 * hi.toNat + c.toNat ≤ 252 then
            framed (.frame (256 * hi.toNat + c.toNat) []) (some 5) else framed .hunt none))
    ∧ (∀ len got, s.port.framer = .frame len got → got.length + 1 < len + 2 →
        exec (.characterReceived c) s = .next (framed (.frame len (got ++ [c])) (some 5)))
    ∧ (∀ (kind tag hi : Byte) (body : List Byte),
        s.port.framer = .frame (body.length + 2) (kind :: tag :: body ++ [hi]) →
        exec (.characterReceived c) s = .next
          (if (crc16 (u16 (body.length + 2) ++ kind :: tag :: body)).toNat = 256 * hi.toNat + c.toNat then
            State.receive (framed .hunt none) { kind, tag, body }
          else framed .hunt none)))
  ∧ ∀ s : State, s.Awake →
    exec .lineError s =
        .next (if s.port.framer = .hunt then s else { s with port := { s.port with framer := .hunt, gap := none } })
    ∧ (s.port.gap.isSome = true →
        exec .gapTimerExpiry s = .next { s with port := { s.port with framer := .hunt, gap := none } })
    ∧ (s.port.gap = none → exec .gapTimerExpiry s = .next s)

/-- The framer fed with characters, one after another, and the frames it gives. -/
def framerRun (p : SupervisionPort) : List Byte → SupervisionPort × List Frame
  | [] => (p, [])
  | c :: cs =>
    let r := p.character c
    let rest := framerRun r.1 cs
    (rest.1, r.2.toList ++ rest.2)

/-- R163, R164, R174: a framer in HUNT that is fed the bytes of a frame on the line gives that frame, whole and once, at
the last of them and not before, and is in HUNT again: no bit of a frame is dropped. -/
def Obligations.FrameOnTheLineIsReceivedWhole : Prop :=
  ∀ (p : SupervisionPort) (f : Frame), p.framer = .hunt → f.body.length ≤ 250 →
    framerRun p f.wire = ({ p with framer := .hunt, gap := none }, [f])
    ∧ ∀ k, k < f.wire.length → (framerRun p (f.wire.take k)).2 = []

/-- R165: a request that comes while another is in hand joins the buffer while it holds fewer than 4; one that finds 4
there is answered BUSY, whatever its kind, while fewer than 4 BUSY replies wait, and is let go when 4 wait. -/
def Obligations.RequestBufferQueuesOrAnswersBusy : Prop :=
  ∀ (s : State) (c : Instr) (f : Frame), s.Awake → requestFrame c = some f → s.port.buffer ≠ [] →
    let busy : Reply := { kind := f.kind, tag := f.tag, status := .busy, fields := [], inHand := false }
    (s.port.buffer.length < 4 →
        exec c s = .next { s with port := { s.port with buffer := s.port.buffer ++ [f] } })
    ∧ (4 ≤ s.port.buffer.length → s.port.busyCount < 4 →
        exec c s = .next { s with port := s.port.reply s.time busy })
    ∧ (4 ≤ s.port.buffer.length → 4 ≤ s.port.busyCount → exec c s = .next s)

/-- R166, R175, R177: a frame of no request kind that comes into hand is answered BAD_KIND, and a request whose body has a
length its kind does not allow BAD_LENGTH; neither moves any block. -/
def Obligations.BadKindAndBadLengthMoveNoBlock : Prop :=
  (∀ (s : State) (kind tag : Byte) (body : List Byte), s.Ready → isRequestKind kind = false →
    exec (.badKind kind tag body) s = s.answers { kind, tag, body } .badKind [])
  ∧ ∀ (s : State) (c : Instr) (f : Frame) (lengths : List Nat), s.Ready → requestFrame c = some f →
    allowedLengths f.kind = some lengths → f.body.length ∉ lengths → exec c s = s.answers f .badLength []

/-- R171, R173: what the end of a frame on the line does. A free line has no frame to end (log 4). After a notice, and
after a BUSY reply, the line is free and the next frame begins; the reply to the request in hand takes the request from
the buffer with it; and the reply to an accepted RESET brings the reset. A frame begins only on a free line, and a waiting
reply goes before every queued notice. A RESET that comes into hand is answered OK and changes nothing yet: the part goes on
until the reply's last byte has been sent. -/
def Obligations.FrameSentMovesTheLine : Prop :=
  (∀ (s : State) (tag : Byte), s.Ready → exec (.reset tag []) s = s.answers { kind := 0x08, tag, body := [] } .ok [])
  ∧ (∀ (t : Nat) (p : SupervisionPort),
    (p.line ≠ .free → p.begin t = p)
    ∧ (p.line = .free → p.replies ≠ [] → p.begin t = { p with line := .reply })
    ∧ (p.replies = [] → p.notices = [] → p.begin t = p))
  ∧ ∀ s : State, s.Awake →
    (s.port.line = .free → exec .frameSent s = .next s)
    ∧ (∀ n, s.port.line = .notice n →
        exec .frameSent s = .next { s with port := SupervisionPort.begin s.time { s.port with line := .free } })
    ∧ (∀ r rest, s.port.line = .reply → s.port.replies = r :: rest → r.inHand = false →
        exec .frameSent s =
          .next { s with port := SupervisionPort.begin s.time { s.port with line := .free, replies := rest } })
    ∧ (∀ r rest f, s.port.line = .reply → s.port.replies = r :: rest → r.inHand = true →
        ¬(r.kind = 0x08 ∧ r.status = .ok) → s.port.buffer = [f] →
        exec .frameSent s = .next
          { s with port := SupervisionPort.begin s.time { s.port with line := .free, replies := rest, buffer := [] } })
    ∧ (∀ r rest, s.port.line = .reply → s.port.replies = r :: rest → r.inHand = true → r.kind = 0x08 →
        r.status = .ok → exec .frameSent s = .next { State.reset with pending := s.pending })

/-- R166: when the reply to the request in hand has been sent and another request waits, that one comes into hand: the
state is the one its own command would give if it came with the buffer empty and the line free, with the next frame
begun and the requests behind it still waiting. -/
def Obligations.NextRequestComesIntoHand : Prop :=
  ∀ (s : State) (c : Instr) (r : Reply) (rest : List Reply) (f g : Frame) (more : List Frame), s.Awake →
    s.port.line = .reply → s.port.replies = r :: rest → r.inHand = true → ¬(r.kind = 0x08 ∧ r.status = .ok) →
    s.port.buffer = f :: g :: more →
    requestFrame c = some g →
    ∃ t, exec c { s with port := { s.port with line := .free, replies := rest, buffer := [] } } = .next t
      ∧ exec .frameSent s = .next { t with port := SupervisionPort.begin t.time { t.port with buffer := g :: more } }

/-- R170: the notice queue and its overflow mark, at a notice offered and at a notice that leaves when its sending
begins. -/
def Obligations.NoticeQueueOverflow : Prop :=
  (∀ (p : SupervisionPort) (n : Notice),
    p.offerNotice n =
      if p.notices.length < 32 then { p with notices := p.notices ++ [n] }
      else if p.overflow = none then { p with overflow := some n.time } else p)
  ∧ (∀ (t : Nat) (p : SupervisionPort) (n : Notice) (rest : List Notice), p.line = .free → p.replies = [] →
      p.notices = n :: rest →
      p.begin t =
        match p.overflow with
        | none => { p with line := .notice n, notices := rest }
        | some first =>
          if rest.length = 16 then
            { p with line := .notice n, notices := rest ++ [{ event := .overflow first, time := t }], overflow := none }
          else { p with line := .notice n, notices := rest })
  ∧ ∀ s : State, s.resetAll.port.notices = [] ∧ s.resetAll.port.overflow = none

/-! ### The settings requests -/

/-- R132: SET FEEDS. In range it replaces the seven settings as clamped, judges the supply and the budget at the monitor
and tells the other blocks; a value that is refused changes nothing. -/
def Obligations.SetFeedsReplacesTheSettings : Prop :=
  ∀ (s : State) (tag pa pb depth l1 l0 g1 g0 co a1 a0 : Byte), s.Ready →
    let body := [pa, pb, depth, l1, l0, g1, g0, co, a1, a0]
    let f : Frame := { kind := 0x01, tag, body }
    let low := 256 * l1.toNat + l0.toNat
    let good := 256 * g1.toNat + g0.toNat
    let arm := 256 * a1.toNat + a0.toNat
    ((1 < pa.toNat ∨ 1 < pb.toNat ∨ 8191 < low ∨ 8191 < good ∨ 1 < co.toNat ∨ (pa.toNat = 0 ∧ pb.toNat = 0) ∨ good ≤ low) →
        exec (.setFeeds tag body) s = s.answers f .badArg [])
    ∧ (pa.toNat ≤ 1 → pb.toNat ≤ 1 → low ≤ 8191 → good ≤ 8191 → co.toNat ≤ 1 → 1 ≤ pa.toNat + pb.toNat → low < good →
        ∀ m : FeedMonitor,
          m = { s.feed with
                feedA := s.feed.feedA.setPresent (pa.toNat == 1), feedB := s.feed.feedB.setPresent (pb.toNat == 1)
                depth := min depth.toNat 4, low, good, coincidence := if co.toNat = 0 then .any else .both
                armTime := min arm 60000 } →
          exec (.setFeeds tag body) s = .next
            (State.carriedOut { s with feed := m.judgeSupply.1.judgeBudget.reported } f
              (FeedMonitor.tell s.time m.judgeSupply.1.judgeBudget m.judgeSupply.2)
              (if depth.toNat ≤ 4 ∧ arm ≤ 60000 then .ok else .clamped)
              ([pa, pb, byte (min depth.toNat 4), l1, l0, g1, g0, co] ++ u16 (min arm 60000))))

/-- R133: SET BUDGET, in the order of its checks. -/
def Obligations.SetBudgetReplacesTheSettings : Prop :=
  ∀ (s : State) (tag f1 f0 g1 g0 c1 c0 : Byte), s.Ready →
    let body := [f1, f0, g1, g0, c1, c0]
    let f : Frame := { kind := 0x02, tag, body }
    let floor := 256 * f1.toNat + f0.toNat
    let gain := 256 * g1.toNat + g0.toNat
    let cap := 256 * c1.toNat + c0.toNat
    let inRange := floor ≤ 8191 ∧ 1 ≤ cap ∧ cap ≤ 2000
    let serves := (∀ i p, (s.blk.slot i).plan = some p → p.inrush ≤ cap) ∧ s.blk.keepSteady ≤ cap
    (¬(inRange ∧ serves) → exec (.setBudget tag body) s = s.answers f .badArg [])
    ∧ (inRange → serves → cap < s.blk.power.load →
        exec (.setBudget tag body) s = s.answers f .loadAbove [])
    ∧ (inRange → serves → s.blk.power.load ≤ cap → ∀ m : FeedMonitor,
        m = FeedMonitor.judgeBudget { s.feed with floor, gain := max 1 (min gain 255), cap } →
        exec (.setBudget tag body) s = .next
          (State.carriedOut { s with feed := { m with lastReported := m.budget } } f
            (fun b => if m.budget = s.feed.lastReported then b else { b with power := { b.power with budget := m.budget } })
            (if 1 ≤ gain ∧ gain ≤ 255 then .ok else .clamped) (u16 floor ++ u16 (max 1 (min gain 255)) ++ u16 cap)))

/-- R23, R66, R144, R154: SET RELINK replaces the window, the hold time, the dark time, the phase timeout and the compare
mask, the first four brought into range, and leaves every running timer; a mask that names no item is refused. R169: SET
NOTICES replaces the four enables and no queued notice is touched; a value neither yes nor no is refused. A notice goes by
the enable of its kind, and OVERFLOW by none: a notice of an enabled kind is offered to the queue, one of a disabled kind is
let go, so that it is not queued and marks no overflow. -/
def Obligations.SetRelinkAndSetNoticesReplaceTheSettings : Prop :=
  (∀ (s : State) (tag w h1 h0 d1 d0 ph mask : Byte), s.Ready →
    let body := [w, h1, h0, d1, d0, ph, mask]
    let f : Frame := { kind := 0x03, tag, body }
    let hold := 256 * h1.toNat + h0.toNat
    let dark := 256 * d1.toNat + d0.toNat
    let window := max 1 (min w.toNat 8)
    let phase := max 1 (min ph.toNat 100)
    (16 ≤ mask.toNat → exec (.setRelink tag body) s = s.answers f .badArg [])
    ∧ (mask.toNat < 16 →
        exec (.setRelink tag body) s = .next
          (s.carriedOut f
            (fun b => { b with
              engine := { b.engine with
                window, holdTime := min hold 60000
                mask := { hset := mask.getLsbD 0, index := mask.getLsbD 1, role := mask.getLsbD 2,
                          tag := mask.getLsbD 3 } }
              power := { b.power with darkTime := max 100 (min dark 10000) }
              bus := { b.bus with phaseTimeout := phase } })
            (if window = w.toNat ∧ hold ≤ 60000 ∧ 100 ≤ dark ∧ dark ≤ 10000 ∧ phase = ph.toNat then .ok else .clamped)
            (byte window :: u16 (min hold 60000) ++ u16 (max 100 (min dark 10000)) ++ [byte phase, mask]))))
  ∧ (∀ (s : State) (tag a b c d : Byte), s.Ready →
    let body := [a, b, c, d]
    let f : Frame := { kind := 0x04, tag, body }
    (a.toNat ≤ 1 ∧ b.toNat ≤ 1 ∧ c.toNat ≤ 1 ∧ d.toNat ≤ 1 →
        exec (.setNotices tag body) s = .next (State.replied
          { s with port := { s.port with
              buffer := [f], mask := { supply := a == 1, episode := b == 1, slot := c == 1, link := d == 1 } } } f .ok []))
    ∧ (1 < a.toNat ∨ 1 < b.toNat ∨ 1 < c.toNat ∨ 1 < d.toNat →
        exec (.setNotices tag body) s = s.answers f .badArg []))
  ∧ ∀ (t : Nat) (p : SupervisionPort),
    let by_ := fun (enabled : Bool) (e : Event) =>
      p.takeNotice t e = (if enabled then p.offerNotice { event := e, time := t } else p).begin t
    (∀ e status a b budget dips, by_ p.mask.supply (.supply e status a b budget dips))
    ∧ (∀ e number cause redips, by_ p.mask.episode (.episode e number cause redips))
    ∧ (∀ i x y reason, by_ p.mask.slot (.slotState i x y reason))
    ∧ (∀ i cause, by_ p.mask.slot (.slotAlarm i cause))
    ∧ (∀ i port groups, by_ p.mask.slot (.slotDisagreed i port groups))
    ∧ (∀ e id cls reason, by_ p.mask.link (.link e id cls reason))
    ∧ ∀ first, by_ true (.overflow first)

/-! ### The shelf requests -/

/-- The number that one byte of a body's fields spells (R176). -/
def numberAt (fields : List Byte) (k : Nat) : Nat := (fields.getD k 0).toNat

/-- The number that two bytes of a body's fields spell, high byte first (R174). -/
def wordAt (fields : List Byte) (k : Nat) : Nat := 256 * numberAt fields k + numberAt fields (k + 1)

/-- R176: a field that has a presence bit is absent where the bit is clear, and is as spelled where it is set. -/
def FieldSpelled {α : Type} (present : Bool) (field : Option α) (spelled : α → Prop) : Prop :=
  (present = false → field = none) ∧ (present = true → ∃ v, field = some v ∧ spelled v)

/-- R76 step 1, 11.4, 11.5: the plan that the seventeen bytes after planned spell, each field at its position, with its
code, and in its range. Ramp time and return deadline stand as carried, for step 4 to bring into range; steady is judged
against 1..2000 (log 12). -/
def PlanSpelled (fields : List Byte) (p : Plan) : Prop :=
  fields.length = 17
    ∧ (numberAt fields 0, p.role) ∈ [(0, Role.working), (1, .spare)]
    ∧ p.cardType = numberAt fields 1 ∧ 1 ≤ p.cardType
    ∧ p.minRevision = numberAt fields 2 ∧ p.minRevision ≤ 15
    ∧ p.portCount = numberAt fields 3 ∧ 1 ≤ p.portCount ∧ p.portCount ≤ 32
    ∧ (numberAt fields 4, p.policy) ∈ [(0, ShedPolicy.keep), (1, .shed)]
    ∧ p.admissionRank = numberAt fields 5 ∧ p.admissionRank ≤ 3
    ∧ p.inrush = wordAt fields 6 ∧ 1 ≤ p.inrush ∧ p.inrush ≤ 2000
    ∧ p.steady = wordAt fields 8 ∧ 1 ≤ p.steady ∧ p.steady ≤ 2000
    ∧ p.rampTime = wordAt fields 10 ∧ p.returnDeadline = wordAt fields 12
    ∧ (numberAt fields 14, p.mergeFunction) ∈ [(0, MergeFunction.stored), (1, .card), (2, .agree), (3, .fill)]
    ∧ numberAt fields 15 < 16
    ∧ p.mergeGroups.line = (fields.getD 15 0).getLsbD 0 ∧ p.mergeGroups.level = (fields.getD 15 0).getLsbD 1
    ∧ p.mergeGroups.signal = (fields.getD 15 0).getLsbD 2 ∧ p.mergeGroups.admin = (fields.getD 15 0).getLsbD 3
    ∧ (numberAt fields 16, p.coverEnabled) ∈ [(0, false), (1, true)]

/-- R76 step 1, 11.4: the slot and the plan that a LOAD SLOT spells; with planned no the other fields are disregarded. -/
def LoadSlotSpelled (body : List Byte) (i : SlotId) (plan : Option Plan) : Prop :=
  numberAt body 0 = i.val
    ∧ ((numberAt body 1 = 0 ∧ plan = none) ∨ (numberAt body 1 = 1 ∧ ∃ p, plan = some p ∧ PlanSpelled (body.drop 2) p))

/-- R76 step 3, last case: in COLD a link names the slot at an endpoint that the new plan would refuse (R14). -/
def PlanStrands (b : Blocks) (i : SlotId) (plan : Option Plan) : Prop :=
  b.ep.shelf = .cold ∧ ∃ l ∈ b.store.links, ∃ e ∈ [l.epA, l.epB], (e.slot = i ∨ e.home = some i)
    ∧ ∀ p, plan = some p → p.role = .spare ∨ p.portCount ≤ e.port.val

/-- R76 step 3: the new plan, in place of the slot's present one, agrees with itself, with the cap and with the other
plans. -/
def PlanAgrees (b : Blocks) (cap : Nat) (i : SlotId) (p : Plan) : Prop :=
  let other := fun (j : SlotId) (q : Plan) => j ≠ i ∧ (b.slot j).plan = some q
  let kept := fun (q : Plan) => match q.policy with | .keep => q.steady | .shed => 0
  p.steady ≤ p.inrush ∧ p.inrush ≤ cap
    ∧ ((List.finRange 16).map (fun j => if j = i then kept p else ((b.slot j).plan.map kept).getD 0)).sum ≤ cap
    ∧ (p.role = .spare → p.coverEnabled = false ∧ ∀ j q, other j q →
        q.role = .working ∧ (q.coverEnabled = true → q.portCount ≤ p.portCount))
    ∧ (p.role = .working → p.coverEnabled = true → ∀ j q, other j q → q.role = .spare → p.portCount ≤ q.portCount)
    ∧ ¬PlanStrands b i (some p)

/-- R76, R77: LOAD SLOT, in the order of its checks, over the fields at their positions in the body (11.4). An accepted one replaces the plan, ramp time and return deadline
brought into range, and moves the slot to VACANT, OFF or QUEUED. Two of its answers are the model's: that planned no is
refused in COLD while a link references the slot (log 11, DESIGN CHOICE), and that step 1 judges steady against 1..2000, so
that a steady above the inrush on a slot that is not free is answered STATE (log 12, DEDUCED, unsafe). -/
def Obligations.LoadSlotReplacesThePlan : Prop :=
  ∀ (s : State) (tag : Byte) (body : List Byte), s.Ready → body.length = 2 ∨ body.length = 19 →
    let f : Frame := { kind := 0x05, tag, body }
    let refusal := fun st => s.answers f st []
    ((∀ i plan, ¬LoadSlotSpelled body i plan) → exec (.loadSlot tag body) s = refusal .badArg)
    ∧ ∀ i plan, LoadSlotSpelled body i plan →
        let free := s.blk.ep.shelf = .cold ∨ (((s.blk.slot i).state = .vacant ∨ (s.blk.slot i).state = .lost)
          ∧ (∀ t, (s.blk.slot t).coveredSlot ≠ some i) ∧ ∀ l ∈ s.blk.store.links, l.references i = false)
        (¬free → exec (.loadSlot tag body) s = refusal .state)
        ∧ (free → plan = none → ¬PlanStrands s.blk i none →
            exec (.loadSlot tag body) s = .next
              (s.carriedOut f (fun b => (b.modSlot i (fun r => { r with plan := none })).enterState i .vacant) .ok
                [0, 0, 0, 0]))
        ∧ (free → plan = none → PlanStrands s.blk i none → exec (.loadSlot tag body) s = refusal .badArg)
        ∧ (free → ∀ p, plan = some p → ¬PlanAgrees s.blk s.feed.cap i p →
            exec (.loadSlot tag body) s = refusal .badArg)
        ∧ (free → ∀ p q, plan = some p → PlanAgrees s.blk s.feed.cap i p →
            q = { p with rampTime := max 10 (min p.rampTime 2550), returnDeadline := max 1 (min p.returnDeadline 600) } →
            exec (.loadSlot tag body) s = .next
              (s.carriedOut f
                (fun b =>
                  let b := b.modSlot i (fun r => { r with plan := some q })
                  if b.ep.shelf = .cold then b.enterState i .off else (b.enterState i .queued).powerQueue i)
                (if q = p then .ok else .clamped) (u16 q.rampTime ++ u16 q.returnDeadline)))

/-- R80, R48: START SHELF in COLD queues every slot in OFF and the shelf is in STANDBY; in any other shelf state it is
refused with STATE and nothing changes. The slots are queued one after another, lowest first (log 26), and each queue request
is taken whole (R137): the dark timer stops, the slot joins, and the queue is judged, before the next is made. -/
def Obligations.StartShelfQueuesTheSlots : Prop :=
  (∀ (b : Blocks) (i : SlotId),
    b.powerQueue i =
      if (b.powerRec i).closed = true ∨ i ∈ b.power.queue then b
      else ((b.modPower i (fun r => { r with dark := none })).joinAdmission i).judgeAdmission)
  ∧ ∀ (s : State) (tag : Byte), s.Ready →
    let f : Frame := { kind := 0x06, tag, body := [] }
    (s.blk.ep.shelf ≠ .cold → exec (.startShelf tag []) s = s.answers f .state [])
    ∧ (s.blk.ep.shelf = .cold → ∃ t, exec (.startShelf tag []) s = .next t
        ∧ t = s.carriedOut f (fun b =>
            (List.finRange 16).foldl
              (fun b i => if (b.slot i).state = .off then (b.enterState i .queued).powerQueue i else b)
              (b.setShelf .standby)) .ok []
        ∧ t.blk.ep = { s.blk.ep with shelf := .standby }
        ∧ (∀ i, (s.blk.slot i).state = .off → (t.blk.slot i).state = .queued ∨ (t.blk.slot i).state = .ramping)
        ∧ t.feed = s.feed ∧ t.time = s.time ∧ t.pending = s.pending)

/-- R50, R51, R54, R60: DRILL, in the order of its checks; in its event EPISODE BEGUN is raised before the notices of the
freeze and the recovery (log 36, DESIGN CHOICE). R60: an episode of either cause opens: its number follows the counter, it
begins at the present time, it stands first in the history, and EPISODE BEGUN is raised. R49, R53, R60, R63: what a report
of the supply does in each shelf state: a DOWN in STANDBY opens an episode of cause FEED and freezes, one in SETTLING makes
the open record one of cause FEED, one in RECOVERING is a re-dip, and an UP in HOLDUP begins recovery. What the freeze and
the recovery do the statement on them says. R70, R71: the close of the open episode. R51, R52: in SETTLING a READY link of
origin QUEUE that is not the head, with no removal requested, is stood down: PENDING, out of the in-flight set, its queue
entry and its ends kept; and the freeze of the drill is taken exactly where the in-flight set is then empty, after which the
relink engine judges again. That these two are judged after the engine, in this order, is the model's choice (log 6, DESIGN
CHOICE); so is that a slot lost by the freeze that opens a record is counted in it (log 19, DESIGN CHOICE, unsafe), and that
DRILL reads the monitor's own status (log 29, DEDUCED, unsafe). -/
def Obligations.DrillOpensAnEpisode : Prop :=
  (∀ (s : State) (tag form : Byte), s.Ready →
    let f : Frame := { kind := 0x07, tag, body := [form] }
    let refusal := fun st => s.answers f st []
    let allowed := s.blk.ep.shelf = .standby ∧ s.feed.armed = true ∧ s.feed.supply = .up
    (1 < form.toNat → exec (.drill tag [form]) s = refusal .badArg)
    ∧ (form.toNat ≤ 1 → ¬allowed → exec (.drill tag [form]) s = refusal .state)
    ∧ (form = 1 → allowed →
        exec (.drill tag [form]) s = .next
          (s.carriedOut f (fun b => (Blocks.openEpisode s.time .drill s.feed.fmin b).freeze) .ok []))
    ∧ (form = 0 → allowed →
        exec (.drill tag [form]) s = .next
          (s.carriedOut f (fun b => (Blocks.openEpisode s.time .drill s.feed.fmin b).setShelf .settling) .ok [])))
  ∧ (∀ (t : Nat) (cause : EpisodeCause) (fmin : Option Nat) (b : Blocks),
      let number := if b.ep.counter = 65535 then 1 else b.ep.counter + 1
      let e : Episode :=
        { number, cause, begun := t, ended := none, redips := 0, lowestFeed := fmin.getD 8191, frozen := none, verified := 0
          inOrder := 0, late := 0, dropped := 0, deferredAtEnd := none, slotsIntact := 0, slotsFresh := 0, slotsLost := 0
          slotsCovered := 0, firstActivation := none }
      Blocks.openEpisode t cause fmin b = { b with
        ep := { b.ep with counter := number, history := (e :: b.ep.history).take 4 }
        raised := b.raised ++ [.episode .begun number cause 0] })
  ∧ (∀ (ep : EpisodeController) (f : Episode → Episode),
      (∀ e rest, ep.history = e :: rest → e.ended = none → ep.modOpen f = { ep with history := f e :: rest })
      ∧ ((∀ e rest, ep.history = e :: rest → e.ended ≠ none) → ep.modOpen f = ep))
  ∧ (∀ (t : Nat) (fmin : Option Nat) (b : Blocks),
      let told := fun (status : Supply) => { b with ep := { b.ep with supply := status } }
      let redip := fun (e : Episode) => { e with redips := min (e.redips + 1) 65535 }
      let down := Blocks.supplyReport t .down fmin b
      let up := Blocks.supplyReport t .up fmin b
      (b.ep.shelf = .standby → down = (Blocks.openEpisode t .feed fmin (told .down)).freeze)
      ∧ (b.ep.shelf = .settling → down = Blocks.freeze { told .down with
          ep := (told .down).ep.modOpen (fun e => { redip e with cause := .feed }) })
      ∧ (b.ep.shelf = .recovering → down = Blocks.freeze { told .down with ep := (told .down).ep.modOpen redip })
      ∧ (b.ep.shelf = .cold ∨ b.ep.shelf = .holdup → down = told .down)
      ∧ (b.ep.shelf = .holdup → up = (told .up).recover) ∧ (b.ep.shelf ≠ .holdup → up = told .up))
  ∧ (∀ b : Blocks,
      let c := b.standDown
      (b.ep.shelf ≠ .settling → c = b)
      ∧ (b.ep.shelf = .settling →
          c = { b with
            store := { b.store with links := c.store.links }
            engine := { b.engine with inFlight := c.engine.inFlight, backlog := c.engine.backlog }
            bus := { b.bus with relinkQueue := c.bus.relinkQueue } }
          ∧ ∀ id l, b.link id = some l →
            let stood := l.state = .ready ∧ l.removal = false ∧ b.engine.queue.head? ≠ some id
              ∧ ∃ f ∈ b.engine.inFlight, f.link = id ∧ f.origin = .queue
            (stood → c.link id = some { l with state := .pending } ∧ c.entry id = none
                ∧ ∀ o ∈ c.engine.backlog, o.forLink id = false)
            ∧ (¬stood → c.link id = some l ∧ c.entry id = b.entry id)))
  ∧ (∀ (t : Nat) (b : Blocks),
      (b.ep.shelf = .settling → b.engine.inFlight = [] → Blocks.judgeSettled t b = Blocks.judgeEngine t b.freeze)
      ∧ (b.ep.shelf ≠ .settling ∨ b.engine.inFlight ≠ [] → Blocks.judgeSettled t b = b))
  ∧ ∀ (t : Nat) (b : Blocks),
      let busy := ∃ i, (b.slot i).state ∈ [SlotState.dark, .queued, .ramping, .held, .identifying, .loading]
      (∀ e rest, b.ep.history = e :: rest → e.ended = none → b.ep.shelf = .recovering → b.engine.queue = [] → ¬busy →
        Blocks.judgeClose t b = { b with
          ep := { b.ep with
            shelf := .standby
            history := { e with ended := some t, deferredAtEnd := some b.engine.deferred.length } :: rest }
          raised := b.raised ++ [.episode .ended e.number e.cause e.redips] })
      ∧ (b.ep.shelf ≠ .recovering ∨ b.engine.queue ≠ [] ∨ busy → Blocks.judgeClose t b = b)

/-! ### The queries -/

/-- The fields of a reply: their whole length, and the bytes that stand at each position. -/
def LaidOut (fields : List Byte) (length : Nat) (layout : List (Nat × List Byte)) : Prop :=
  fields.length = length ∧ ∀ x ∈ layout, (fields.drop x.1).take x.2.length = x.2

/-- R168, R95, R74: GET SHELF, GET SLOT and GET EPISODE answer with the fields of the message catalogue (R177) as they
stand, in 24, 46 and 40 bytes, and move nothing but the port. The byte of the switch is a free value (log 13), and that the
presence pair of GET SLOT is sent high byte first is the model's choice (log 38, DESIGN CHOICE). -/
def Obligations.ShelfSlotAndEpisodeAreRead : Prop :=
  (∀ (s : State) (tag : Byte), s.Ready →
    exec (.getShelf tag []) s = s.answers { kind := 0x09, tag, body := [] } .ok s.shelfFields
    ∧ (∀ v : Byte, exec (.getSlot tag [v]) s = s.answers { kind := 0x0A, tag, body := [v] }
          (if v.toNat < 16 then .ok else .badArg)
          (if h : v.toNat < 16 then s.blk.slotFields ⟨v.toNat, h⟩ else []))
    ∧ (∀ v : Byte, exec (.getEpisode tag [v]) s = s.answers { kind := 0x0B, tag, body := [v] }
          (if 3 < v.toNat then .badArg else if s.blk.ep.history.length ≤ v.toNat then .notFound else .ok)
          (if 3 < v.toNat then [] else ((s.blk.ep.history[v.toNat]?).map Episode.fields).getD [])))
  ∧ (∀ s : State,
    let a := s.feed.feedA.counted.map (fun r => r.acc / 16)
    let b := s.feed.feedB.counted.map (fun r => r.acc / 16)
    LaidOut s.shelfFields 24
      [(0, [byte s.blk.ep.shelf.code]), (1, [byte s.feed.supply.code]), (2, [if s.feed.armed then 1 else 0]),
       (3, [byte (bitsOf [a.isSome, b.isSome])]), (4, u16 (a.getD 0)), (6, u16 (b.getD 0)), (8, u16 s.feed.budget),
       (10, u16 s.feed.dips), (12, u16 s.blk.power.load), (14, [byte s.blk.power.queue.length]),
       (15, u16 s.blk.engine.queue.length), (17, u16 s.blk.engine.deferred.length),
       (19, [byte s.blk.engine.inFlight.length]), (20, u32 s.time)])
  ∧ (∀ (b : Blocks) (i : SlotId),
    let r := b.slot i
    let w := b.powerRec i
    LaidOut (b.slotFields i) 46
      [(0, [byte i.val]),
       (1, u16 (bitsOf [r.lostReason.isSome, r.storedTerm.isSome, r.latestId.isSome, r.identity.isSome, r.order.isSome,
                        r.deadline.isSome, r.coveredSlot.isSome, r.coverLoad.isSome, r.coverReason.isSome])),
       (21, [byte r.state.code]), (22, [byte ((r.lostReason.map LossReason.code).getD 0)]),
       (23, [byte (r.storedTerm.getD 0)]), (24, [byte ((r.latestId.map Identification.code).getD 0)]),
       (31, [byte ((r.order.map (fun o => o.code.code)).getD 0)]), (32, [if r.attention then 1 else 0]),
       (33, u32 (r.deadline.getD 0)), (37, [byte ((r.coveredSlot.map Fin.val).getD 0)]),
       (38, [byte ((r.coverLoad.map CoverLoad.runs).getD 0)]),
       (39, [if r.coverLoad.any CoverLoad.done then 1 else 0]), (40, [byte ((r.coverReason.map LossReason.code).getD 0)]),
       (41, [if r.revertMark then 1 else 0]), (42, [Config.switchCode w.closed]), (43, u16 w.charge), (45, [byte w.trips])]
    ∧ (r.plan = none → LaidOut (b.slotFields i) 46 [(3, List.replicate 18 0)])
    ∧ (∀ p, r.plan = some p → LaidOut (b.slotFields i) 46
        [(3, [1]), (4, [byte p.role.code]), (5, [byte p.cardType]), (6, [byte p.minRevision]), (7, [byte p.portCount]),
         (8, [byte p.policy.code]), (9, [byte p.admissionRank]), (10, u16 p.inrush), (12, u16 p.steady),
         (14, u16 p.rampTime), (16, u16 p.returnDeadline), (18, [byte p.mergeFunction.code]),
         (19, [byte (bitsOf [p.mergeGroups.line, p.mergeGroups.level, p.mergeGroups.signal, p.mergeGroups.admin])]),
         (20, [if p.coverEnabled then 1 else 0])])
    ∧ (r.identity = none → LaidOut (b.slotFields i) 46 [(25, List.replicate 6 0)])
    ∧ (∀ d, r.identity = some d → LaidOut (b.slotFields i) 46
        [(25, [byte d.cardType, byte d.revision, byte d.portCount, byte d.term, if d.storedConfig then 1 else 0,
               byte d.cause.code])]))
  ∧ ∀ e : Episode, LaidOut e.fields 40
      [(0, u16 e.number), (2, [byte e.cause.code]),
       (3, [byte (bitsOf [e.ended.isSome, e.deferredAtEnd.isSome, e.firstActivation.isSome])]), (4, u32 e.begun),
       (8, u32 (e.ended.getD 0)), (12, u16 e.redips), (14, u16 e.lowestFeed), (16, u16 (e.frozen.getD 0)),
       (18, u16 e.verified), (20, u16 e.inOrder), (22, u16 e.late), (24, u16 e.dropped),
       (26, u16 (e.deferredAtEnd.getD 0)), (28, u16 e.slotsIntact), (30, u16 e.slotsFresh), (32, u16 e.slotsLost),
       (34, u16 e.slotsCovered), (36, u32 (e.firstActivation.getD 0))]

/-- R19, 11.4, 11.5: the pattern and the starting id that a FIND LINKS spells: each field at its position, in its range
where its presence bit is set, and a highway set and a width that are both present agreeing. -/
def PatternSpelled (body : List Byte) (p : Pattern) (start : Nat) : Prop :=
  let present := fun k => (body.getD 0 0).getLsbD k
  numberAt body 0 < 32
    ∧ FieldSpelled (present 0) p.cls
        (fun v => (numberAt body 1, v) ∈ [(0, LinkClass.urgent), (1, .control), (2, .trunk), (3, .line)])
    ∧ FieldSpelled (present 1) p.slot (fun v => v.val = numberAt body 2)
    ∧ FieldSpelled (present 2) p.state
        (fun v => (numberAt body 3, v) ∈ [(0, LinkState.pending), (1, .suspect), (2, .verifying), (3, .preparing),
          (4, .ready), (5, .activating), (6, .carried), (7, .deferred), (8, .releasing)])
    ∧ FieldSpelled (present 3) p.width (fun v => v = numberAt body 4 ∧ v ∈ [1, 2, 4])
    ∧ FieldSpelled (present 4) p.hset
        (fun v => (numberAt body 5, v) ∈ [(0, HighwaySet.h0), (1, .h1), (2, .h2), (3, .h3), (4, .h01), (5, .h23),
          (6, .h0123)])
    ∧ (∀ h w, p.hset = some h → p.width = some w → h.highways.length = w)
    ∧ start = wordAt body 6 ∧ start < 1024

/-- R18, R19, R107: GET LINK answers with every field of the record, in the 26 bytes of the message catalogue; FIND LINKS
with the count of the records that equal the pattern in each field it carries, and the ids of at most 32 of them from the
starting id on; GET PORT with the record of the port table and whether the port waits in the
write set of the card that is written from it. All move nothing but the port. -/
def Obligations.LinksAndPortsAreRead : Prop :=
  (∀ l : Link, LaidOut l.fields 26
      [(0, u16 l.id), (2, [byte l.cls.code]), (3, u24 l.seq), (6, [byte l.epA.slot.val, byte l.epA.port.val]),
       (8, [byte l.epB.slot.val, byte l.epB.port.val]),
       (10, [byte (bitsOf [l.epA.home.isSome, l.epB.home.isSome, l.deferral.isSome, l.deferral.isSome])]),
       (11, [byte ((l.epA.home.map Fin.val).getD 0)]), (12, [byte ((l.epB.home.map Fin.val).getD 0)]),
       (13, [byte l.hset.width]), (14, [byte l.hset.code]), (15, u16 l.index), (17, [byte l.state.code]),
       (18, [byte ((l.deferral.map (fun d => d.reason.code)).getD 0)]), (19, u32 ((l.deferral.map Deferral.since).getD 0)),
       (23, [if l.late then 1 else 0]), (24, [if l.removal then 1 else 0]), (25, [byte (bitsOf [l.attA, l.attB])])])
  ∧ ∀ (s : State) (tag : Byte), s.Ready →
    (∀ hi lo : Byte,
      let id := 256 * hi.toNat + lo.toNat
      exec (.getLink tag [hi, lo]) s = s.answers { kind := 0x0F, tag, body := [hi, lo] }
        (if 1024 ≤ id then .badArg else if (s.blk.link id).isSome then .ok else .notFound)
        (if 1024 ≤ id then [] else ((s.blk.link id).map Link.fields).getD []))
    ∧ (∀ body : List Byte, body.length = 8 →
        let f : Frame := { kind := 0x10, tag, body }
        ((∀ p start, ¬PatternSpelled body p start) → exec (.findLinks tag body) s = s.answers f .badArg [])
        ∧ (∀ p start, PatternSpelled body p start →
            let on := fun (l : Link) (i : SlotId) =>
              l.epA.slot == i || l.epA.home == some i || l.epB.slot == i || l.epB.home == some i
            let found := (s.blk.store.links.filter (fun l => p.cls.all (fun v => v == l.cls) && p.slot.all (on l)
              && p.state.all (fun v => v == l.state) && p.width.all (fun v => v == l.hset.highways.length)
              && p.hset.all (fun v => v == l.hset))).map Link.id
            let page := (found.filter (fun id => decide (start ≤ id))).take 32
            exec (.findLinks tag body) s =
              s.answers f .ok (u16 found.length ++ byte page.length :: (page.map u16).flatten)))
    ∧ ∀ slot port : Byte,
      let f : Frame := { kind := 0x12, tag, body := [slot, port] }
      (16 ≤ slot.toNat ∨ 32 ≤ port.toNat → exec (.getPort tag [slot, port]) s = s.answers f .badArg [])
      ∧ (∀ (i : SlotId) (p : Fin 32), slot.toNat = i.val → port.toNat = p.val →
          let r := s.blk.port i p
          exec (.getPort tag [slot, port]) s = s.answers f .ok
            [slot, port, byte r.lineKind, byte r.termination, levelByte r.txLevel, levelByte r.rxLevel, byte r.scheme,
             byte r.timing, byte r.test.code, yesNo r.blocked, yesNo r.disagreed, byte r.disagreements,
             yesNo ((s.blk.slot ((s.blk.holder i).getD i)).writeSet.contains p)])

/-! ### The link requests -/

/-- R14: an endpoint that passes, as it stands in the record: a planned WORKING slot that is neither VACANT nor LOST nor
reverting, a port below its plan's port count, and the spare's port in place of a COVERED slot's. -/
def EndpointPasses (b : Blocks) (slot : SlotId) (port : Fin 32) (e : Endpoint) : Prop :=
  ∃ p, (b.slot slot).plan = some p ∧ p.role = .working ∧ port.val < p.portCount ∧ (b.slot slot).state ≠ .vacant
    ∧ (b.slot slot).state ≠ .lost ∧ (b.slot slot).revertMark = false
    ∧ ((b.slot slot).state ≠ .covered → e = { slot, port, home := none })
    ∧ ((b.slot slot).state = .covered → ∃ t, (b.slot t).coveredSlot = some slot
        ∧ (∀ u, u < t → (b.slot u).coveredSlot ≠ some slot) ∧ e = { slot := t, port, home := some slot })

/-- R13 step 1, 11.4, 11.5: what a CREATE LINK spells: each field at its position and in its range; the highway set and
the cell index both given, the set of the width asked for, or both absent. -/
def LinkRequestSpelled (body : List Byte) (r : LinkRequest) : Prop :=
  (numberAt body 0, r.cls) ∈ [(0, LinkClass.urgent), (1, .control), (2, .trunk), (3, .line)]
    ∧ r.slotA.val = numberAt body 1 ∧ r.portA.val = numberAt body 2
    ∧ r.slotB.val = numberAt body 3 ∧ r.portB.val = numberAt body 4
    ∧ r.width = numberAt body 5 ∧ r.width ∈ [1, 2, 4]
    ∧ ((numberAt body 6 = 0xFF ∧ wordAt body 7 = 0xFFFF ∧ r.place = none)
      ∨ ∃ h, (numberAt body 6, h, r.width) ∈ [(0, HighwaySet.h0, 1), (1, .h1, 1), (2, .h2, 1), (3, .h3, 1), (4, .h01, 2),
            (5, .h23, 2), (6, .h0123, 4)]
          ∧ wordAt body 7 < 512 ∧ r.place = some (h, wordAt body 7))

/-- R13 to R15: CREATE LINK, in the order of its checks over the fields at their positions in the body, and the record an
accepted one builds: PENDING, its cells held, its sequence the counter's, on the lowest free position, and in the restore
queue below every link it finds that ranks higher. R6: with the counter spent, the records are renumbered first: each has the
number of records of lower sequence, which keeps the order of any two, and the new record has the number of records. -/
def Obligations.CreateLinkBuildsTheRecord : Prop :=
  (∀ (s : State) (tag : Byte) (body : List Byte), s.Ready → body.length = 9 →
    let f : Frame := { kind := 0x0C, tag, body }
    let refusal := fun st => s.answers f st []
    ((∀ r, ¬LinkRequestSpelled body r) → exec (.createLink tag body) s = refusal .badArg)
    ∧ ∀ r, LinkRequestSpelled body r →
        let ends := fun ea eb => EndpointPasses s.blk r.slotA r.portA ea ∧ EndpointPasses s.blk r.slotB r.portB eb
          ∧ ea.collides eb = false
        ((∀ ea eb, ¬ends ea eb) → exec (.createLink tag body) s = refusal .badEndpoint)
        ∧ ∀ ea eb, ends ea eb →
          let used := ∃ l ∈ s.blk.store.links, ∃ e ∈ [ea, eb], l.epA.collides e = true ∨ l.epB.collides e = true
          (used → exec (.createLink tag body) s = refusal .portBusy)
          ∧ (¬used → (∀ id, id < 1024 → (s.blk.link id).isSome = true) → exec (.createLink tag body) s = refusal .full)
          ∧ ∀ id, ¬used → id < 1024 → s.blk.link id = none → (∀ k, k < id → (s.blk.link k).isSome = true) →
            (∀ st, s.blk.findCells r = .error st → exec (.createLink tag body) s = refusal st)
            ∧ ∀ h index, s.blk.findCells r = .ok (h, index) → ∀ l : Link,
                l = { id, cls := r.cls, seq := s.blk.store.seq.getD s.blk.store.links.length, epA := ea, epB := eb,
                      hset := h, index, state := .pending, deferral := none, late := false, removal := false,
                      attA := false, attB := false } →
                exec (.createLink tag body) s = .next (s.carriedOut f (Blocks.createLink l) .ok
                  (u16 id ++ u24 l.seq ++ byte h.code :: u16 index)))
  ∧ (∀ e f : Endpoint, e.collides f = true ↔
      e.port = f.port ∧ ∃ s, (e.slot = s ∨ e.home = some s) ∧ (f.slot = s ∨ f.home = some s))
  ∧ ∀ (b : Blocks) (l : Link), b.link l.id = none → l.id ∉ b.engine.queue →
    let c := Blocks.createLink l b
    c.link l.id = some l
    ∧ c.store.links.length = b.store.links.length + 1
    ∧ c.store.cells = b.store.cells ++ l.hset.highways.map (fun hw => { highway := hw, index := l.index, link := l.id })
    ∧ c.store.seq = (if l.seq = 16777215 then none else some (l.seq + 1))
    ∧ (b.store.seq.isSome = true → ∀ k, k ≠ l.id → c.link k = b.link k)
    ∧ (b.store.seq = none →
        let lower := fun (m : Link) => (b.store.links.filter (fun n => n.seq < m.seq)).length
        (∀ k, k ≠ l.id → c.link k = (b.link k).map (fun m => { m with seq := lower m }))
        ∧ (∀ m ∈ b.store.links, lower m < b.store.links.length ∧ ∀ n ∈ b.store.links, (lower m < lower n ↔ m.seq < n.seq)))
    ∧ (∃ above below, b.engine.queue = above ++ below ∧ c.engine.queue = above ++ l.id :: below
        ∧ (∀ k ∈ above, ∀ m, c.link k = some m → l.above m = false)
        ∧ ∀ k rest, below = k :: rest → ∃ m, c.link k = some m ∧ l.above m = true)
    ∧ c.engine = { b.engine with queue := c.engine.queue } ∧ c.reg = b.reg ∧ c.power = b.power ∧ c.bus = b.bus
    ∧ c.ep = b.ep ∧ c.raised = b.raised

/-- R7 to R9: the cells a CREATE LINK finds are FREE and of the width asked for; the given ones when they are given, else
the first free set of the search; and it finds none only where there is none. -/
def Obligations.CellsFoundAreFree : Prop :=
  ∀ (b : Blocks) (r : LinkRequest),
    let free := fun (h : HighwaySet) (index : Nat) =>
      ∀ hw ∈ h.highways, ∀ c ∈ b.store.cells, ¬(c.highway = hw ∧ c.index = index)
    (∀ place, r.place = some place →
        (free place.1 place.2 → b.findCells r = .ok place) ∧ (¬free place.1 place.2 → b.findCells r = .error .cellsTaken))
    ∧ (r.place = none →
        (∀ h index, b.findCells r = .ok (h, index) → h ∈ candidates r.width ∧ index < 512 ∧ free h index
          ∧ (∀ k, k < index → ∀ g ∈ candidates r.width, ¬free g k)
          ∧ ∀ g ∈ (candidates r.width).takeWhile (fun g => g != h), ¬free g index)
        ∧ (b.findCells r = .error .noCells ↔ ∀ k, k < 512 → ∀ g ∈ candidates r.width, ¬free g k))

/-- R17, R41: REMOVE LINK, in the order of its checks. A link in flight has its waiting orders withdrawn and its removal
requested; any other leaves the collections and is RELEASING, its deferral absent, its entry and its waiting orders gone and
its placed orders stale (R28, R29), and nothing else moves; what becomes of a RELEASING link O41 says. R37: RETRY LINK
changes the defer reason of a link deferred with REFUSED to HOLD, and nothing else of it. -/
def Obligations.RemoveReleasesAndRetryFreesTheLink : Prop :=
  (∀ (s : State) (tag hi lo : Byte), s.Ready →
    let id := 256 * hi.toNat + lo.toNat
    let f : Frame := { kind := 0x0D, tag, body := [hi, lo] }
    let refusal := fun st => s.answers f st []
    (1024 ≤ id → exec (.removeLink tag [hi, lo]) s = refusal .badArg)
    ∧ (id < 1024 → s.blk.link id = none → exec (.removeLink tag [hi, lo]) s = refusal .notFound)
    ∧ ∀ l, id < 1024 → s.blk.link id = some l →
        (l.state = .releasing ∨ l.removal = true → exec (.removeLink tag [hi, lo]) s = refusal .state)
        ∧ (l.state ≠ .releasing → l.removal = false →
            exec (.removeLink tag [hi, lo]) s = .next (s.carriedOut f
              (fun b => if l.state.flying then (b.withdraw id).modLink id (fun l => { l with removal := true })
                else b.release id) .ok [hi, lo])))
  ∧ (∀ (b : Blocks) (id : Nat) (l : Link), b.link id = some l →
    let c := b.release id
    let waiting := b.engine.backlog.filter (fun o => !o.forLink id)
    b.withdraw id = { b with engine := { b.engine with backlog := waiting } }
    ∧ c = { b with
        store := { b.store with links := c.store.links }
        engine := { b.engine with
          queue := b.engine.queue.filter (fun k => k != id), deferred := b.engine.deferred.filter (fun k => k != id)
          inFlight := b.engine.inFlight.filter (fun f => f.link != id), backlog := waiting }
        bus := { b.bus with relinkQueue := b.bus.relinkQueue.map (fun o => match o.purpose with
          | .engine e => if e.link = id then { o with purpose := .engine { e with current := false } } else o
          | _ => o) } }
    ∧ c.link id = some { l with state := .releasing, deferral := none } ∧ ∀ k, k ≠ id → c.link k = b.link k)
  ∧ ∀ (s : State) (tag hi lo : Byte), s.Ready →
    let id := 256 * hi.toNat + lo.toNat
    let f : Frame := { kind := 0x0E, tag, body := [hi, lo] }
    let answer := s.answers f
    (1024 ≤ id → exec (.retryLink tag [hi, lo]) s = answer .badArg [])
    ∧ (id < 1024 → s.blk.link id = none → exec (.retryLink tag [hi, lo]) s = answer .notFound [])
    ∧ ∀ l, id < 1024 → s.blk.link id = some l →
        (l.state ≠ .deferred → exec (.retryLink tag [hi, lo]) s = answer .state [])
        ∧ ∀ d, l.state = .deferred → l.deferral = some d →
            (d.reason = .hold → exec (.retryLink tag [hi, lo]) s = answer .ok [hi, lo])
            ∧ (d.reason = .refused →
                exec (.retryLink tag [hi, lo]) s = .next (s.carriedOut f
                  (fun b => b.modLink id (fun l =>
                    { l with deferral := l.deferral.map (fun d => { d with reason := .hold }) })) .ok [hi, lo]))

/-! ### The port and slot requests -/

/-- R105 step 1, 11.4, 11.5: what the nine bytes of a SET PORT from presence on spell: each group at its position and, where
its presence bit is set, in its range; the levels as carried, for step 2 to bring into range. -/
def PortFieldsSpelled (rest : List Byte) (g : PortFields) : Prop :=
  let present := fun k => (rest.getD 0 0).getLsbD k
  numberAt rest 0 < 32
    ∧ FieldSpelled (present 0) g.line
        (fun v => v = (numberAt rest 1, numberAt rest 2) ∧ numberAt rest 1 ≤ 15 ∧ numberAt rest 2 ≤ 3)
    ∧ FieldSpelled (present 1) g.level (fun v => v = ((rest.getD 3 0).toInt, (rest.getD 4 0).toInt))
    ∧ FieldSpelled (present 2) g.signal
        (fun v => v = (numberAt rest 5, numberAt rest 6) ∧ numberAt rest 5 ≤ 7 ∧ numberAt rest 6 ≤ 15)
    ∧ FieldSpelled (present 3) g.test
        (fun v => (numberAt rest 7, v) ∈ [(0, TestState.normal), (1, .loopInner), (2, .loopOuter)])
    ∧ FieldSpelled (present 4) g.admin (fun v => (numberAt rest 8, v) ∈ [(0, false), (1, true)])

/-- R105, R38: SET PORT, over the fields at their positions in the body. A refused one changes nothing; an accepted one replaces each present group, levels brought into
range, leaves each absent group, clears the disagreed field, and frees the links that were refused on the port (R38). The
record changed is that port's alone. The port joins the write set of the card that is written from it, and of its own slot
too while that reverts, when the port is planned and the request carries TEST or a group of the merge groups (R105). -/
def Obligations.SetPortReplacesTheGroups : Prop :=
  ∀ (s : State) (tag slot port : Byte) (rest : List Byte), s.Ready → rest.length = 9 →
    let body := slot :: port :: rest
    let f : Frame := { kind := 0x11, tag, body }
    (16 ≤ slot.toNat ∨ 32 ≤ port.toNat ∨ (∀ g, ¬PortFieldsSpelled rest g) →
        exec (.setPort tag body) s = s.answers f .badArg [])
    ∧ ∀ (i : SlotId) (p : Fin 32) (g : PortFields), slot.toNat = i.val → port.toNat = p.val → PortFieldsSpelled rest g →
        let level := fun n : Int => max (-120) (min 60 n)
        let r := s.blk.port i p
        let r' : PortRec :=
          { lineKind := (g.line.map Prod.fst).getD r.lineKind, termination := (g.line.map Prod.snd).getD r.termination
            txLevel := (g.level.map (fun v => level v.1)).getD r.txLevel
            rxLevel := (g.level.map (fun v => level v.2)).getD r.rxLevel
            scheme := (g.signal.map Prod.fst).getD r.scheme, timing := (g.signal.map Prod.snd).getD r.timing
            test := g.test.getD r.test, blocked := g.admin.getD r.blocked, disagreed := false
            disagreements := r.disagreements }
        ∃ t : State, exec (.setPort tag body) s = .next t
          ∧ t = s.carriedOut f (Blocks.setPort i p g.clamped)
              (if g.level.all (fun v => decide (level v.1 = v.1 ∧ level v.2 = v.2)) then .ok else .clamped)
              [levelByte r'.txLevel, levelByte r'.rxLevel]
          ∧ (∀ (b : Blocks) (j : SlotId) (q : Fin 32),
              let joins := ∃ plan, (b.slot i).plan = some plan ∧ p.val < plan.portCount
                ∧ (g.test.isSome = true ∨ (g.line.isSome = true ∧ plan.mergeGroups.line = true)
                  ∨ (g.level.isSome = true ∧ plan.mergeGroups.level = true)
                  ∨ (g.signal.isSome = true ∧ plan.mergeGroups.signal = true)
                  ∨ (g.admin.isSome = true ∧ plan.mergeGroups.admin = true))
              let here := (∀ t, b.holder i = some t → j = t ∨ (j = i ∧ (b.slot i).revertMark = true))
                ∧ (b.holder i = none → j = i ∧ (b.slot i).coveredSlot = none)
              q ∈ ((Blocks.setPort i p g.clamped b).slot j).writeSet ↔
                q ∈ (b.slot j).writeSet ∨ (q = p ∧ joins ∧ here))
          ∧ (∀ b : Blocks, (Blocks.setPort i p g.clamped b).store.links = b.store.links.map (fun l =>
              if ((l.epA.slot = i ∨ l.epA.home = some i) ∧ l.epA.port = p)
                  ∨ ((l.epB.slot = i ∨ l.epB.home = some i) ∧ l.epB.port = p) then
                { l with deferral := l.deferral.map (fun d => { d with reason := .hold }) }
              else l))
          ∧ (∀ b : Blocks, (Blocks.setPort i p g.clamped b).port i p = (b.port i p).update g.clamped)
          ∧ (s.blk.port i p).update g.clamped = r'
          ∧ (∀ (b : Blocks) (j : SlotId) (q : Fin 32), ¬(j = i ∧ q = p) →
              (Blocks.setPort i p g.clamped b).port j q = b.port j q)
          ∧ (t.blk.port i p).txLevel = r'.txLevel ∧ (t.blk.port i p).rxLevel = r'.rxLevel
          ∧ t.feed = s.feed ∧ t.time = s.time ∧ t.pending = s.pending

/-- R108: CARD PORTS, in the order of its checks. An accepted one stands in the pass-through place and is answered when
its outcome arrives; nothing else moves but the grant. The reply carries the completion and, after DONE, the records the
card gave, present groups as given and absent ones 0 (log 22); then the notices of the event follow (log 10). One that is on
the bus at a freeze ends there and is answered STATE; one that is not keeps its place. -/
def Obligations.CardPortsIsPlacedAndAnswered : Prop :=
  (∀ (s : State) (tag slot first count : Byte), s.Ready →
    let f : Frame := { kind := 0x13, tag, body := [slot, first, count] }
    let refusal := fun st => s.answers f st []
    let inRange := slot.toNat < 16 ∧ first.toNat < 32 ∧ 1 ≤ count.toNat ∧ count.toNat ≤ 8
      ∧ first.toNat + count.toNat ≤ 32
    (¬inRange → exec (.cardPorts tag [slot, first, count]) s = refusal .badArg)
    ∧ ∀ i : SlotId, slot.toNat = i.val → inRange →
        let allowed := s.blk.ep.isOpen = false ∧ (s.blk.slot i).state = .live
          ∧ ∃ p, (s.blk.slot i).plan = some p ∧ first.toNat + count.toNat ≤ p.portCount
        let o : BusOrder := { slot := i, code := .readPorts, first := first.toNat, count := count.toNat, send := [],
                              purpose := .passThrough }
        (¬allowed → exec (.cardPorts tag [slot, first, count]) s = refusal .state)
        ∧ (allowed →
            exec (.cardPorts tag [slot, first, count]) s =
              .next { s.holding f with blk := { s.blk with bus := CardBus.grant { s.blk.bus with pass := some o } } }))
  ∧ (∀ (s : State) (tr : Transfer) (o : BusOrder) (f : Frame) (rest : List Frame), s.Awake → s.Quiet →
    s.blk.bus.transfer = some tr → tr.requester = .passThrough → s.blk.bus.pass = some o → o.purpose = .passThrough →
    s.port.buffer = f :: rest →
    let answered := fun (code : Byte) (records : List (List Byte)) => ∃ t events, exec .releaseEnd s = .next t
      ∧ t.port = List.foldl (SupervisionPort.takeNotice s.time) (s.port.reply s.time
          { kind := f.kind, tag := f.tag, status := .ok
            fields := code :: byte records.length :: (records.map relayPortRecord).flatten, inHand := true }) events
    (tr.phase = .release (.completed .done) → answered 0 tr.given)
    ∧ (tr.phase = .release (.completed .refused) → answered 1 [])
    ∧ (tr.phase = .release (.completed .fresh) → answered 2 [])
    ∧ (tr.phase = .release .failed → 2 ≤ s.blk.bus.passAttempts → answered 3 []))
  ∧ (∀ b : Blocks,
    let onBus := ∃ tr, b.bus.transfer = some tr ∧ tr.requester = .passThrough ∧ tr.phase ≠ .release .cut
    (onBus → b.freeze.bus.pass = none ∧ b.freeze.passOutcome = some .cut)
    ∧ (¬onBus → b.freeze.bus.pass = b.bus.pass ∧ b.freeze.bus.passAttempts = b.bus.passAttempts
        ∧ b.freeze.passOutcome = b.passOutcome))
  ∧ ∀ (t : Nat) (p : SupervisionPort) (f : Frame) (rest : List Frame) (raised : List Event), p.buffer = f :: rest →
    p.hear t (some .cut) raised = raised.foldl (SupervisionPort.takeNotice t)
      (p.reply t { kind := f.kind, tag := f.tag, status := .state, fields := [], inHand := true })

/-- R93, R137, R144: in the second state the slot is DARK, with its switch open, its charge 0, its dark timer at the dark
time and out of the admission queue, its card forgotten and its revert mark as given; whichever slot held it holds it still. -/
def TurnedDark (s t : State) (i : SlotId) (mark : Bool) : Prop :=
  (t.blk.slot i).state = .dark ∧ (t.blk.slot i).revertMark = mark ∧ (t.blk.slot i).deadline = none
    ∧ (t.blk.slot i).latestId = none ∧ (t.blk.slot i).identity = none ∧ (t.blk.slot i).lostReason = none
    ∧ (t.blk.slot i).coverReason = (s.blk.slot i).coverReason ∧ (t.blk.slot i).storedTerm = (s.blk.slot i).storedTerm
    ∧ t.blk.powerRec i = { closed := false, charge := 0, ramp := none, dark := some s.blk.power.darkTime,
                           trips := (s.blk.powerRec i).trips }
    ∧ i ∉ t.blk.power.queue ∧ ∀ u, (t.blk.slot u).coveredSlot = (s.blk.slot u).coveredSlot

/-- R40, R44: the second blocks stand after the report of a slot in place. Every end on the slot counts as detached, and
its waiting DETACH is withdrawn. A link with an end on the slot: SUSPECT, it is PENDING with its queue entry; in flight, it
has left the in-flight set, its waiting orders withdrawn, and is PENDING in the queue, or RELEASING and in no collection where
its removal was requested; CARRIED, it is PENDING in the queue. Every other link keeps its state and its places, the late
fields and the order of the queue stay, and nothing else moves. -/
def SlotReported (b c : Blocks) (i : SlotId) : Prop :=
  c = { b with
      store := { b.store with links := c.store.links }
      engine := { b.engine with
        queue := c.engine.queue, deferred := c.engine.deferred, inFlight := c.engine.inFlight, backlog := c.engine.backlog }
      bus := { b.bus with relinkQueue := c.bus.relinkQueue } }
    ∧ (b.engine.queue.filter (fun k => k ∈ c.engine.queue)).Sublist c.engine.queue
    ∧ (∀ o ∈ c.engine.backlog, o ∈ b.engine.backlog)
    ∧ ∀ k l, b.link k = some l → ∃ m, c.link k = some m ∧
      let touched := l.epA.slot = i ∨ l.epB.slot = i
      let placed := m.state = .pending ∧ m.deferral = l.deferral
      let withdrawn := c.entry k = none ∧ ∀ o ∈ c.engine.backlog, o.forLink k = false
      (m.cls, m.seq, m.epA, m.epB, m.hset, m.index, m.late, m.removal)
          = (l.cls, l.seq, l.epA, l.epB, l.hset, l.index, l.late, l.removal)
      ∧ m.attA = (l.attA && l.epA.slot != i) ∧ m.attB = (l.attB && l.epB.slot != i)
      ∧ (∀ e o, (l.endpoint e).slot = i → o ∈ c.engine.backlog → o.code = .detach → o.forEnd k e = false)
      ∧ (touched → l.state = .suspect → placed ∧ (k ∈ c.engine.queue ↔ k ∈ b.engine.queue) ∧ c.entry k = b.entry k)
      ∧ (touched → l.state.flying = true → l.removal = false → placed ∧ k ∈ c.engine.queue ∧ withdrawn)
      ∧ (touched → l.state.flying = true → l.removal = true → m.state = .releasing ∧ m.deferral = none
          ∧ k ∉ c.engine.queue ∧ k ∉ c.engine.deferred ∧ withdrawn)
      ∧ (touched → l.state = .carried → placed ∧ k ∈ c.engine.queue ∧ c.entry k = b.entry k)
      ∧ (¬touched ∨ l.state = .pending ∨ l.state = .deferred ∨ l.state = .releasing →
          m.state = l.state ∧ m.deferral = l.deferral ∧ (k ∈ c.engine.queue ↔ k ∈ b.engine.queue)
          ∧ (k ∈ c.engine.deferred ↔ k ∈ b.engine.deferred) ∧ c.entry k = b.entry k)

/-- R93, R116, R120: SLOT RESTART and REVERT, in the order of their checks. A LIVE or LOST slot restarted is DARK and shed;
a held slot's revert begins, with the mark set, the slot DARK and shed. R40: what the report of a LIVE slot that is switched
off makes of the links, where their ids are distinct (O53). That an open switch has charge 0 (R136) is part of the slot law
below. -/
def Obligations.RestartAndRevertTurnTheSlotDark : Prop :=
  (∀ (b : Blocks) (i : SlotId), b.store.Law → SlotReported b (b.slotInPlace i) i) ∧
  (∀ (s : State) (tag v : Byte) (i : SlotId), s.Ready → v.toNat = i.val →
    ((s.blk.powerRec i).closed = false → (s.blk.powerRec i).charge = 0) →
    let r := s.blk.slot i
    let held := ∃ t, (s.blk.slot t).coveredSlot = some i
    (r.coveredSlot = none → r.revertMark = false → r.state = .live ∨ (r.state = .lost ∧ ¬held) →
        ∃ t, exec (.slotRestart tag [v]) s = .next t ∧ TurnedDark s t i false)
    ∧ (r.coveredSlot = none → r.revertMark = false → r.state = .lost → held →
        ∃ t, exec (.slotRestart tag [v]) s = .next t ∧ TurnedDark s t i true)
    ∧ (held → r.state = .covered ∨ r.state = .lost →
        ∃ t, exec (.revert tag [v]) s = .next t ∧ TurnedDark s t i true))
  ∧ (∀ (s : State) (tag v : Byte), s.Ready →
    let f : Frame := { kind := 0x14, tag, body := [v] }
    let refusal := fun st => s.answers f st []
    (16 ≤ v.toNat → exec (.slotRestart tag [v]) s = refusal .badArg)
    ∧ ∀ i : SlotId, v.toNat = i.val →
        let r := s.blk.slot i
        let held := ∃ t, (s.blk.slot t).coveredSlot = some i
        let turnedAway := r.coveredSlot.isSome = true ∨ r.revertMark = true ∨ (r.state ≠ .live ∧ r.state ≠ .lost)
        (turnedAway → exec (.slotRestart tag [v]) s = refusal .state)
        ∧ (¬turnedAway → r.state = .live →
            exec (.slotRestart tag [v]) s = .next (s.carriedOut f
              (fun b => ((b.enterState i .dark).powerShed i).slotInPlace i) .ok []))
        ∧ (¬turnedAway → r.state = .lost → held →
            exec (.slotRestart tag [v]) s = .next (s.carriedOut f
              (fun b => ((b.modSlot i (fun r => { r with revertMark := true })).enterState i .dark).powerShed i) .ok []))
        ∧ (¬turnedAway → r.state = .lost → ¬held →
            exec (.slotRestart tag [v]) s = .next (s.carriedOut f
              (fun b => (b.enterState i .dark).powerShed i) .ok [])))
  ∧ ∀ (s : State) (tag v : Byte), s.Ready →
    let f : Frame := { kind := 0x16, tag, body := [v] }
    let refusal := fun st => s.answers f st []
    (16 ≤ v.toNat → exec (.revert tag [v]) s = refusal .badArg)
    ∧ ∀ i : SlotId, v.toNat = i.val →
        let allowed := (∃ t, (s.blk.slot t).coveredSlot = some i)
          ∧ ((s.blk.slot i).state = .covered ∨ (s.blk.slot i).state = .lost)
        (¬allowed → exec (.revert tag [v]) s = refusal .state)
        ∧ (allowed →
            exec (.revert tag [v]) s = .next (s.carriedOut f
              (fun b => ((b.modSlot i (fun r => { r with revertMark := true })).enterState i .dark).powerShed i) .ok []))

/-- R94, R90, R115, R119: SLOT RETIRE, in the order of its checks. The slot is LOST with reason RETIRED and never COVERED,
its switch open, its charge 0 and its timers stopped. The cover of a retired held slot ends: its slot reverts no more and its
spare holds nothing. A retired spare takes the slot it covers with it. The premise is the slot law, which every step keeps:
without it a LOST slot with a CLOSED switch would be shed by a freeze of the same event. -/
def Obligations.SlotRetireLosesTheSlot : Prop :=
  (∀ (s : State) (tag v : Byte) (i : SlotId), s.Ready → s.blk.SlotLaw → v.toNat = i.val →
    let r := s.blk.slot i
    r.state ∉ [SlotState.vacant, .off, .covered] →
    ∃ t, exec (.slotRetire tag [v]) s = .next t
      ∧ (t.blk.slot i).state = .lost ∧ (t.blk.slot i).lostReason = some .retired
      ∧ (t.blk.slot i).storedTerm = r.storedTerm ∧ t.feed = s.feed ∧ t.time = s.time ∧ t.pending = s.pending
      ∧ (r.state ≠ .lost →
          t.blk.powerRec i = { closed := false, charge := 0, ramp := none, dark := none, trips := (s.blk.powerRec i).trips }
          ∧ i ∉ t.blk.power.queue ∧ (t.blk.slot i).latestId = none ∧ (t.blk.slot i).identity = none
          ∧ (t.blk.slot i).deadline = none ∧ (t.blk.slot i).attention = false)
      ∧ (∀ u, s.blk.holder i = some u → r.coveredSlot = none → r.state = .lost ∨ r.revertMark = true →
          (t.blk.slot i).revertMark = false ∧ (t.blk.slot i).coverReason = none ∧ (t.blk.slot u).coveredSlot = none
          ∧ (t.blk.slot u).coverLoad = none ∧ (t.blk.slot u).writeSet = [] ∧ (t.blk.slot u).clearWanted = false)
      ∧ (∀ k, r.coveredSlot = some k → k ≠ i → r.state ≠ .lost →
          (t.blk.slot i).coveredSlot = none ∧ (t.blk.slot i).coverLoad = none ∧ (t.blk.slot k).coverReason = none
          ∧ (t.blk.slot k).revertMark = false
          ∧ ((s.blk.slot k).revertMark = false →
              (t.blk.slot k).state = .lost ∧ (t.blk.slot k).lostReason = some .retired)))
  ∧ ∀ (s : State) (tag v : Byte), s.Ready →
    let f : Frame := { kind := 0x15, tag, body := [v] }
    let refusal := fun st => s.answers f st []
    (16 ≤ v.toNat → exec (.slotRetire tag [v]) s = refusal .badArg)
    ∧ ∀ i : SlotId, v.toNat = i.val →
        let r := s.blk.slot i
        let held := ∃ t, (s.blk.slot t).coveredSlot = some i
        (r.state = .vacant ∨ r.state = .off ∨ r.state = .covered → exec (.slotRetire tag [v]) s = refusal .state)
        ∧ (r.state ∉ [SlotState.vacant, .off, .covered, .lost] →
            exec (.slotRetire tag [v]) s = .next (s.carriedOut f (fun b => b.lose i .retired) .ok []))
        ∧ (r.state = .lost →
            exec (.slotRetire tag [v]) s = .next (s.carriedOut f
              (fun b =>
                let b := b.modSlot i (fun r => { r with lostReason := some .retired })
                if (b.holder i).isSome then b.retireHeld i else b) .ok [])
            ∧ ((s.blk.holder i).isSome = true ↔ held))

/-! ### The feeds -/

/-- R122 to R128, R130, R131: a sample of a present feed moves that feed's accumulator and status as the filter or the
seeding gives, then the supply status and the budget are judged over the new readings (what a judgement does the next
statement says), and the other feed and every setting stay. What was judged is told in the same event: a change with the
budget, to the power sequencer and then to the episode controller, with its SUPPLY notice raised first (log 36, DESIGN
CHOICE), or else a budget other than the one last reported; and the smallest filtered value is handed to the open record. A
sample of an absent feed is none (log 4). -/
def Obligations.FeedSampleIsFiltered : Prop :=
  (∀ (s : State) (id : FeedId) (sample : BitVec 13), s.Awake →
    let f := s.feed.feed id
    let gap := 16 * (sample.toNat : Int)
    (f.present = false → exec (.feedSample id sample) s = .next s)
    ∧ (f.present = true →
        let m := s.feed.takeSample id sample.toNat
        let told := { m.judgeSupply.1 with budget := m.computeBudget }
        ∃ t, exec (.feedSample id sample) s = .next t
        ∧ t = State.event { s with feed := { told with lastReported := m.computeBudget } }
            (fun b => (FeedMonitor.tell s.time told m.judgeSupply.2 b).handFmin m.fmin)
        ∧ t.feed = { told with lastReported := m.computeBudget } ∧ t.feed.supply = m.judgedSupply
        ∧ (∀ r, f.reading = none → (t.feed.feed id).reading = some r →
            r.acc = 16 * sample.toNat ∧ r.acc / 16 = sample.toNat
              ∧ r.status = if sample.toNat < s.feed.good then .low else .good)
        ∧ (∀ r r', f.reading = some r → (t.feed.feed id).reading = some r' →
            (r'.acc : Int) = r.acc + Int.fdiv (gap - r.acc) (2 ^ s.feed.depth)
              ∧ r'.status = if r'.acc / 16 < s.feed.low then .low
                  else if s.feed.good ≤ r'.acc / 16 then .good else r.status)
        ∧ (t.feed.feed id).present = true ∧ (t.feed.feed id).reading.isSome = true
        ∧ (∀ other, other ≠ id → t.feed.feed other = s.feed.feed other)
        ∧ t.feed.depth = s.feed.depth ∧ t.feed.low = s.feed.low ∧ t.feed.good = s.feed.good
        ∧ t.feed.coincidence = s.feed.coincidence ∧ t.feed.armTime = s.feed.armTime ∧ t.feed.floor = s.feed.floor
        ∧ t.feed.gain = s.feed.gain ∧ t.feed.cap = s.feed.cap
        ∧ t.feed.budget = t.feed.computeBudget ∧ t.feed.lastReported = t.feed.budget
        ∧ t.time = s.time ∧ t.pending = s.pending))
  ∧ ∀ (t : Nat) (m : FeedMonitor) (b : Blocks),
    (m.budget = m.lastReported → FeedMonitor.tell t m none b = b)
    ∧ (m.budget ≠ m.lastReported →
        FeedMonitor.tell t m none b = { b with power := { b.power with budget := m.budget } })
    ∧ (∀ e status, (e, status) ∈ [(SupplyEvent.armed, Supply.up), (.down, .down), (.up, .up)] →
        FeedMonitor.tell t m (some e) b = Blocks.supplyReport t status m.fmin
          { b with power := { b.power with supply := status, budget := m.budget }
                   raised := b.raised ++ [.supply e m.supply (m.feedA.counted.map (fun r => r.acc / 16))
                     (m.feedB.counted.map (fun r => r.acc / 16)) m.budget m.dips] })
    ∧ (m.countedFeeds = [] → m.fmin = none)
    ∧ (∀ r ∈ m.countedFeeds, (∀ q ∈ m.countedFeeds, r.acc / 16 ≤ q.acc / 16) → m.fmin = some (r.acc / 16))
    ∧ b.handFmin none = b
    ∧ ∀ v, b.handFmin (some v) = { b with ep := b.ep.modOpen (fun e => { e with lowestFeed := min v e.lowestFeed }) }

/-- R126, R127, R129: what a judgement of the supply status does: the status follows the counted feeds by the coincidence;
a change to DOWN is a dip and stops the arm timer, a change to UP starts it, while UNARMED; and what is reported (R128).
R130: the budget follows the smaller filtered value of the counted feeds. -/
def Obligations.SupplyAndBudgetAreJudgedOverCountedFeeds : Prop :=
  (∀ m : FeedMonitor,
    let fs := m.countedFeeds
    let lowAny := ∃ r ∈ fs, r.status = .low
    let goodAny := ∃ r ∈ fs, r.status = .good
    let down := fs ≠ [] ∧ ((m.coincidence = .any ∧ lowAny) ∨ (m.coincidence = .both ∧ ¬goodAny))
    let up := fs ≠ [] ∧ ((m.coincidence = .any ∧ ¬lowAny) ∨ (m.coincidence = .both ∧ goodAny))
    (down → m.judgedSupply = .down) ∧ (up → m.judgedSupply = .up) ∧ (¬down → ¬up → m.judgedSupply = m.supply)
    ∧ (m.judgedSupply = m.supply → m.judgeSupply = (m, none))
    ∧ (m.supply = .up → m.judgedSupply = .down →
        m.judgeSupply = ({ m with supply := .down, dips := min (m.dips + 1) 65535,
                                  armTimer := if m.armed then m.armTimer else none },
                         if m.armed then some .down else none))
    ∧ (m.supply = .down → m.judgedSupply = .up → m.armed = true → m.judgeSupply = ({ m with supply := .up }, some .up))
    ∧ (m.supply = .down → m.judgedSupply = .up → m.armed = false → m.armTime ≠ 0 →
        m.judgeSupply = ({ m with supply := .up, armTimer := some m.armTime }, none))
    ∧ (m.supply = .down → m.judgedSupply = .up → m.armed = false → m.armTime = 0 →
        m.judgeSupply = ({ m with supply := .up, armed := true, armTimer := none }, some .armed)))
  ∧ ∀ m : FeedMonitor,
    (m.countedFeeds = [] → m.computeBudget = 0)
    ∧ ∀ r ∈ m.countedFeeds, (∀ q ∈ m.countedFeeds, r.acc / 16 ≤ q.acc / 16) →
        m.computeBudget = (if r.acc / 16 ≤ m.floor then 0 else min m.cap ((r.acc / 16 - m.floor) * m.gain / 64))

/-- R127, R128: the running arm timer's expiry arms the monitor, which reports UP with the budget; no other setting or
reading moves. An expiry of a timer that does not run is none (log 4). -/
def Obligations.ArmTimerArmsTheMonitor : Prop :=
  ∀ s : State, s.Awake →
    (s.feed.armTimer = none → exec .armTimerExpiry s = .next s)
    ∧ (s.feed.armTimer.isSome = true → ∃ t, exec .armTimerExpiry s = .next t
        ∧ t.feed = { s.feed with armed := true, armTimer := none, lastReported := s.feed.budget }
        ∧ t.blk.power.supply = .up ∧ t.blk.power.budget = s.feed.budget ∧ t.blk.ep.supply = .up
        ∧ t.time = s.time ∧ t.pending = s.pending)

/-- R129: the dip counter counts every change of the supply status from UP to DOWN, saturates at 65535, and is changed by
nothing else but a reset; it is read in GET SHELF and in every SUPPLY notice. -/
def Obligations.DipCounterCountsEveryDip : Prop :=
  (∀ s : State, s.resetAll.feed.dips = 0 ∧ s.resetAll.feed.supply = .down)
  ∧ (∀ (s t : State) (c : Instr), exec c s = .next t → c ≠ .deviceReset → c ≠ .resetRelease →
      (c = .frameSent → t ≠ s.resetAll) →
      t.feed.dips = if s.feed.supply = .up ∧ t.feed.supply = .down then min (s.feed.dips + 1) 65535 else s.feed.dips)
  ∧ (∀ s : State, (s.shelfFields.drop 10).take 2 = u16 s.feed.dips)
  ∧ ∀ (m : FeedMonitor) (e : SupplyEvent), ∃ status fa fb budget, m.notice e = .supply e status fa fb budget m.dips

/-! ### The relink engine -/

/-- R35: the hold timer's expiry defers the head: it leaves the queue, becomes DEFERRED with reason HOLD and the present
time, joins the tail of the deferred list, and a LINK notice is raised; what the blocks then judge follows. An expiry of a
timer that does not run is none (log 4). R34: after the start rule and the activation the timer is judged on the head: it
runs for a PENDING or SUSPECT head that is not eligible, in STANDBY, SETTLING and RECOVERING; it is started with the hold
time when it does not run for that head, goes on when it does, and is stopped otherwise. R35: with hold time 0 the head is
deferred at once, and the next head is judged. That the head is judged after the start rule and the activation, in this
order, is the model's choice (log 6 and 7). -/
def Obligations.HoldTimerDefersTheHead : Prop :=
  (∀ s : State, s.Awake →
    (s.blk.engine.hold = none → exec .holdTimerExpiry s = .next s)
    ∧ (s.blk.engine.hold.isSome = true →
        exec .holdTimerExpiry s = .next (s.event (Blocks.holdExpired s.time))
        ∧ ∀ h rest l, s.blk.engine.queue = h :: rest → h ∉ rest → s.blk.link h = some l →
            let b := Blocks.holdExpired s.time s.blk
            b.engine.queue = rest ∧ b.engine.deferred = s.blk.engine.deferred ++ [h] ∧ b.engine.hold = none
            ∧ b.link h = some { l with state := .deferred, deferral := some { reason := .hold, since := s.time } }
            ∧ (∀ k, k ≠ h → b.link k = s.blk.link k)
            ∧ b.raised = s.blk.raised ++ [.link .deferred h l.cls (some .hold)]
            ∧ b.reg = s.blk.reg ∧ b.power = s.blk.power ∧ b.ep = s.blk.ep))
  ∧ ∀ (t n : Nat) (b : Blocks),
    let c := b.startRule.activateReady
    let judged := Blocks.judgeHead t (n + 1) b
    let held := fun (hold : Option HoldTimer) => { c with engine := { c.engine with hold } }
    let due := fun (h : Nat) => (∃ rest, c.engine.queue = h :: rest)
      ∧ (c.ep.shelf = .standby ∨ c.ep.shelf = .settling ∨ c.ep.shelf = .recovering)
      ∧ ∃ l, c.link h = some l ∧ (l.state = .pending ∨ l.state = .suspect) ∧ c.eligible l = false
    ((∀ h, ¬due h) → judged = held none)
    ∧ ∀ h, due h →
        (∀ left, c.engine.hold = some { head := h, left } → judged = c)
        ∧ ((∀ left, c.engine.hold ≠ some { head := h, left }) →
            (c.engine.holdTime ≠ 0 → judged = held (some { head := h, left := c.engine.holdTime }))
            ∧ (c.engine.holdTime = 0 → judged = Blocks.judgeHead t n ((held none).defer t h .hold)))

/-- R22, R26, R27, R31, R33, laws 6 and 7: the start rule starts no link while the in-flight set holds W or more entries,
never takes it beyond W, and is not applied in SETTLING and HOLDUP; activation is decided for READY links alone, and for
one of origin QUEUE only while it is the head of the restore queue. R25, R27: which links are eligible, which may be
verified, and which link the three choices give: the first SUSPECT link of the queue that may be verified, else the first
eligible PENDING link among the first W entries, else the first eligible link of the deferred list with reason HOLD. R22,
R27, R30, R64: what a start does to the link, the in-flight set, the deferred list and the backlog; and starts go on until
none is given or the set is full. R31 to R33: every READY link whose activation is due is activated, with ACTIVATE for A in
the backlog, and no other link moves. -/
def Obligations.StartsAndActivationsAreBounded : Prop :=
  (∀ b : Blocks,
    (b.engine.window ≤ b.engine.inFlight.length → b.startRule = b)
    ∧ (b.engine.inFlight.length < b.engine.window → b.startRule.engine.inFlight.length ≤ b.engine.window)
    ∧ (b.ep.shelf = .settling ∨ b.ep.shelf = .holdup → b.startRule = b)
    ∧ (b.ep.shelf ≠ .settling → b.ep.shelf ≠ .holdup → b.startChoice = none → b.startRule = b)
    ∧ (b.ep.shelf ≠ .settling → b.ep.shelf ≠ .holdup → b.engine.inFlight.length < b.engine.window → b.engine.window ≤ 8 →
        ∀ c, b.startChoice = some c → b.startRule = (b.start c).startRule))
  ∧ (∀ (b : Blocks) (l : Link),
    (b.eligible l = true ↔ l.removal = false ∧ ∀ e ∈ [l.epA, l.epB], (b.slot e.slot).state = .live
      ∧ (b.port (e.home.getD e.slot) e.port).blocked = false
      ∧ ∀ i, e.home = some i → ∃ t, (b.slot t).coveredSlot = some i ∧ (∀ u, u < t → (b.slot u).coveredSlot ≠ some i)
          ∧ (b.slot t).coverLoad.map CoverLoad.done = some true)
    ∧ (b.verifiable l = true ↔ l.state = .suspect ∧ l.removal = false ∧ ∀ e ∈ [l.epA, l.epB],
        (b.slot e.slot).state = .live ∧ (b.slot e.slot).latestId = some .intact))
  ∧ (∀ (b : Blocks),
    let first := fun (ids : List Nat) (may : Link → Prop) (id : Nat) => ∃ before after, ids = before ++ id :: after
      ∧ (∃ l, b.link id = some l ∧ may l) ∧ ∀ k ∈ before, ∀ l, b.link k = some l → ¬may l
    let none_ := fun (ids : List Nat) (may : Link → Prop) => ∀ k ∈ ids, ∀ l, b.link k = some l → ¬may l
    let verified := fun (l : Link) => b.verifiable l = true
    let prepared := fun (l : Link) => l.state = .pending ∧ b.eligible l = true
    let retried := fun (l : Link) => l.deferral.map Deferral.reason = some .hold ∧ b.eligible l = true
    let queue := b.engine.queue
    let ahead := b.engine.queue.take b.engine.window
    (∀ id, first queue verified id → b.startChoice = some { id, origin := .queue, survey := true })
    ∧ (none_ queue verified →
        (∀ id, first ahead prepared id → b.startChoice = some { id, origin := .queue, survey := false })
        ∧ (none_ ahead prepared →
            (∀ id, first b.engine.deferred retried id → b.startChoice = some { id, origin := .deferred, survey := false })
            ∧ (none_ b.engine.deferred retried → b.startChoice = none))))
  ∧ (∀ (b : Blocks) (id : Nat) (origin : Origin) (survey : Bool) (l : Link), b.link id = some l →
    let c := b.start { id, origin, survey }
    let order : Endpoint → LinkEnd → BusOrder := fun e lend =>
      { slot := e.slot, code := if survey then .survey else .attach, first := e.port.val, count := 1
        send := if survey then [] else
          [[1, byte l.hset.code] ++ u16 l.index ++ (match lend with | .a => 0 | .b => 1) :: u16 id]
        purpose := .engine { link := id, lend, current := true, opened := false } }
    c = { b with store := { b.store with links := c.store.links }, engine := { b.engine with
          deferred := if origin = .deferred then b.engine.deferred.filter (fun k => k != id) else b.engine.deferred
          inFlight := b.engine.inFlight ++ [{
            link := id, origin, step := if survey then .survey else .attach, refused := false
            outA := none, outB := none, recA := none, recB := none }]
          backlog := b.engine.backlog ++ [order l.epA .a, order l.epB .b] } }
      ∧ c.link id = some { l with
          state := if survey then .verifying else .preparing
          deferral := if origin = .deferred then none else l.deferral
          late := if origin = .deferred then true else l.late }
      ∧ ∀ k, k ≠ id → c.link k = b.link k)
  ∧ (∀ (b : Blocks) (id : Nat) (l m : Link), b.link id = some l → b.activateReady.link id = some m →
    l.state ≠ .activating → m.state = .activating →
    l.state = .ready ∧ l.removal = false
      ∧ (b.engine.queue.head? = some id ∨ ∃ f ∈ b.engine.inFlight, f.link = id ∧ f.origin = .deferred))
  ∧ ∀ (b : Blocks) (id : Nat) (l : Link), b.link id = some l →
    let due := l.state = .ready ∧ l.removal = false
      ∧ (b.engine.queue.head? = some id ∨ ∃ f ∈ b.engine.inFlight, f.link = id ∧ f.origin = .deferred)
    let c := b.activateReady
    (¬due → c.link id = some l ∧ c.entry id = b.entry id)
    ∧ (due → c.link id = some { l with state := .activating }
        ∧ (∀ f, b.entry id = some f → c.entry id = some { f with step := .activateA, outA := none, outB := none })
        ∧ ∃ o ∈ c.engine.backlog, o.code = .activate ∧ o.slot = l.epA.slot ∧ o.first = l.epA.port.val
          ∧ o.purpose = .engine { link := id, lend := .a, current := true, opened := false })

/-- R55, R143: a slot the freeze sheds: its plan gives SHED, and its switch is CLOSED or it is queued. -/
def Sheds (b : Blocks) (i : SlotId) : Prop :=
  (∃ p, (b.slot i).plan = some p ∧ p.policy = .shed) ∧ ((b.powerRec i).closed = true ∨ i ∈ b.power.queue)

/-- R55: a slot the freeze holds: its plan gives KEEP, and it is LIVE, IDENTIFYING or LOADING. -/
def Holds (b : Blocks) (i : SlotId) : Prop :=
  (∃ p, (b.slot i).plan = some p ∧ p.policy = .keep) ∧ (b.slot i).state ∈ [SlotState.identifying, .loading, .live]

/-- R54 to R61, R113, R143, R152, R161: the second blocks stand after the parts of a freeze of the first, in HOLDUP. The
links, the queue and the deferred list stand as the relink engine's part leaves them, with the ends on the opened switches
detached. -/
def Frozen (b c : Blocks) : Prop :=
  let opened := fun i => (b.slot i).plan.any (fun p => p.policy == .shed) && (b.powerRec i).closed
  let spareGone := fun s => ∃ t, (b.slot t).coveredSlot = some s ∧ (b.slot t).state = .live ∧ (Sheds b t ∨ Holds b t)
  (c.ep.shelf = .holdup ∧ c.ep.counter = b.ep.counter ∧ c.ep.supply = b.ep.supply
      ∧ (∀ e rest, b.ep.history = e :: rest → e.ended = none → ∃ e', c.ep.history = e' :: rest
          ∧ e' = { e with frozen := some (e.frozen.getD c.engine.queue.length), slotsLost := e'.slotsLost })
      ∧ ((∀ e rest, b.ep.history = e :: rest → e.ended ≠ none) → c.ep.history = b.ep.history))
    ∧ (c.bus.registryQueue = [] ∧ c.bus.relinkQueue = [] ∧ c.bus.registryAttempts = 0 ∧ c.bus.relinkAttempts = 0
      ∧ c.bus.paused = true ∧ c.bus.lastGranted = b.bus.lastGranted ∧ c.bus.phaseTimeout = b.bus.phaseTimeout
      ∧ (∀ tr, b.bus.transfer = some tr → (tr.phase = .acknowledge → c.bus.transfer = none)
          ∧ (tr.phase ≠ .acknowledge → c.bus.transfer.map Transfer.phase = some (.release .cut)
              ∧ c.bus.transfer.map Transfer.order = some tr.order))
      ∧ (b.bus.transfer = none → c.bus.transfer = none))
    ∧ (c.engine = b.freezeLinks.engine ∧ c.store = { b.freezeLinks.store with
        links := b.freezeLinks.store.links.map (fun l =>
          { l with attA := l.attA && !opened l.epA.slot, attB := l.attB && !opened l.epB.slot }) })
    ∧ c.reg.ports = b.reg.ports
    ∧ c.power = { b.power with
        recs := c.power.recs
        queue := b.power.queue.filter (fun i => !(b.slot i).plan.any (fun p => p.policy == .shed)) }
    ∧ ∀ i,
      (c.slot i).plan = (b.slot i).plan ∧ (c.slot i).storedTerm = (b.slot i).storedTerm
      ∧ (c.slot i).coveredSlot = (b.slot i).coveredSlot ∧ (c.slot i).coverLoad = (b.slot i).coverLoad
      ∧ (c.slot i).coverReason = (b.slot i).coverReason ∧ (c.slot i).revertMark = (b.slot i).revertMark
      ∧ (c.slot i).order = none ∧ (c.slot i).deadline = none
      ∧ (c.slot i).writeSet = (if opened i then [] else (b.slot i).writeSet)
      ∧ (Sheds b i → (c.slot i).state = .dark
          ∧ c.powerRec i = { b.powerRec i with
              closed := false, charge := if opened i then 0 else (b.powerRec i).charge
              ramp := none, dark := some b.power.darkTime }
          ∧ ((b.slot i).state ≠ .dark → (c.slot i).identity = none ∧ (c.slot i).latestId = none ∧ (c.slot i).loading = none)
          ∧ ((b.slot i).state ≠ .dark → (b.slot i).state ≠ .covered → .slotState i (b.slot i).state .dark none ∈ c.raised))
      ∧ (¬Sheds b i → c.powerRec i = b.powerRec i)
      ∧ (Holds b i → (c.slot i).state = .held ∧ (c.slot i).identity = (b.slot i).identity ∧ (c.slot i).latestId = none
          ∧ (c.slot i).loading = none ∧ (c.slot i).readBuffer = [] ∧ .slotState i (b.slot i).state .held none ∈ c.raised)
      ∧ (¬Sheds b i → ¬Holds b i →
          ((b.slot i).state ≠ .covered ∨ ¬spareGone i → c.slot i = { b.slot i with order := none, deadline := none })
          ∧ ((b.slot i).state = .covered → spareGone i → (c.slot i).state = .lost
              ∧ (c.slot i).lostReason = (b.slot i).coverReason
              ∧ .slotState i .covered .lost (b.slot i).coverReason ∈ c.raised))

/-- R61, R62, R88: the second blocks stand after the recovery of the first: HELD slots are identified, a RAMPING slot's
return deadline starts afresh, the bus resumes, and nothing else moves. -/
def Recovered (b c : Blocks) : Prop :=
  let deadline := fun i => some (((b.slot i).plan.map Plan.returnDeadline).getD 0 * 1000)
  c.ep = { b.ep with shelf := .recovering } ∧ c.power = b.power ∧ c.store = b.store ∧ c.engine = b.engine
    ∧ c.reg.ports = b.reg.ports
    ∧ ((∀ i, (b.slot i).state = .held → (b.slot i).order = none) → c.bus = { b.bus with paused := false })
    ∧ ∀ i,
      ((b.slot i).state = .held → (c.slot i).state = .identifying ∧ (c.slot i).deadline = deadline i
        ∧ (c.slot i).storedTerm = (b.slot i).storedTerm ∧ (c.slot i).identity = (b.slot i).identity
        ∧ (c.slot i).writeSet = (b.slot i).writeSet ∧ .slotState i .held .identifying none ∈ c.raised)
      ∧ ((b.slot i).state = .ramping → c.slot i = { b.slot i with deadline := deadline i })
      ∧ ((b.slot i).state ≠ .held → (b.slot i).state ≠ .ramping → c.slot i = b.slot i)

/-- R56, R57: what a freeze makes of the links: CARRIED and in-flight links become SUSPECT on two KEEP slots and PENDING
otherwise, or RELEASING when their removal was requested in flight; deferred links become PENDING; every late mark is
cleared; the deferred list, the in-flight set, the backlog and the hold timer are empty; and the restore queue holds exactly
the links that are not RELEASING. R54, R55, R60, R61, R143: what the whole freeze makes of the shelf state, the record, the
bus, the power and every slot, after which the shelf stays in HOLDUP with the supply DOWN, and recovers at once with it UP.
R62: what the recovery does. -/
def Obligations.FreezeReturnsEveryLink : Prop :=
  (∀ b : Blocks, (b.ep.supply = .down → Frozen b b.freeze)
    ∧ (b.ep.supply = .up → ∃ m, Frozen b m ∧ Recovered m b.freeze) ∧ Recovered b b.recover)
  ∧ ∀ b : Blocks,
    let c := b.freezeLinks
    (∀ id, id ∈ c.engine.queue ↔ ∃ m ∈ c.store.links, m.id = id ∧ m.state ≠ .releasing) ∧
    c.engine.deferred = [] ∧ c.engine.inFlight = [] ∧ c.engine.backlog = [] ∧ c.engine.hold = none
    ∧ c.store.cells = b.store.cells ∧ c.store.seq = b.store.seq
    ∧ c.store.links.length = b.store.links.length
    ∧ ∀ (k : Nat) (l m : Link), b.store.links[k]? = some l → c.store.links[k]? = some m →
        let kept := (b.slot l.epA.slot).plan.any (fun p => p.policy == .keep) = true
          ∧ (b.slot l.epB.slot).plan.any (fun p => p.policy == .keep) = true
        (m.id, m.cls, m.seq, m.epA, m.epB, m.hset, m.index, m.removal, m.attA, m.attB)
            = (l.id, l.cls, l.seq, l.epA, l.epB, l.hset, l.index, l.removal, l.attA, l.attB)
        ∧ m.late = false
        ∧ (l.state = .carried ∨ (l.state.flying = true ∧ l.removal = false) →
            (kept → m.state = .suspect) ∧ (¬kept → m.state = .pending))
        ∧ (l.state.flying = true → l.removal = true → m.state = .releasing)
        ∧ (l.state = .deferred → m.state = .pending ∧ m.deferral = none)
        ∧ (l.state = .pending ∨ l.state = .suspect ∨ l.state = .releasing → m.state = l.state)

/-! ### The card bus -/

/-- R151, R152: a free bus is granted to the first requester, in the cycle REGISTRY, RELINK, PASS-THROUGH from the one
after last granted, that has a head waiting and is not held back by the pause; the granted attempt waits for the
acknowledge, and nothing else of the bus moves. -/
def Obligations.GrantFollowsTheCycle : Prop :=
  ∀ bus : CardBus,
    let waits := fun r => (bus.head r).isSome = true ∧ (bus.paused = true → r = .passThrough)
    let cycle := fun r => match r with
      | Requester.registry => Requester.relink | .relink => .passThrough | .passThrough => .registry
    let granted := fun r (after : CardBus) => ∃ o, bus.head r = some o ∧ after = { bus with
      lastGranted := r
      transfer := some
        { order := o, requester := r, phase := .acknowledge, given := [], taken := 0, wait := bus.phaseTimeout } }
    let r1 := cycle bus.lastGranted
    let r2 := cycle r1
    (bus.transfer.isSome = true → bus.grant = bus)
    ∧ (bus.transfer = none → waits r1 → granted r1 bus.grant)
    ∧ (bus.transfer = none → ¬waits r1 → waits r2 → granted r2 bus.grant)
    ∧ (bus.transfer = none → ¬waits r1 → ¬waits r2 → waits bus.lastGranted → granted bus.lastGranted bus.grant)
    ∧ (bus.transfer = none → (∀ r, ¬waits r) → bus.grant = bus)

/-- R153, R155: the card's acknowledge, its answer to the header, its records, its completion and a withdrawn acknowledge
move the transfer from phase to phase, each new wait with the phase timeout in force, and move nothing else. A completion
is the outcome in COMPLETE when it is one of the three; one that is none of them, or is given while records are still to move,
is malformed, and fails the attempt at once when the card never acknowledged; one given in HEADER is the answer to the header,
where DONE is malformed. Three clauses are the model's: that card
answers out of their phase change nothing, that one of the three completions in ACKNOWLEDGE for an order without records and
any completion in RELEASE are disregarded (log 15, DESIGN CHOICE, unsafe), and that a withdrawn acknowledge leaves the attempt
in RELEASE until it ends (log 14, DEDUCED, unsafe). -/
def Obligations.CardAnswersMoveThePhases : Prop :=
  ∀ (s : State) (tr : Transfer), s.Awake → s.blk.bus.transfer = some tr →
    let o := tr.order
    let busy := tr.phase = .header ∨ tr.phase = .data ∨ tr.phase = .complete
    exec .cardAcknowledge s = (if tr.phase = .acknowledge then s.atPhase tr .header else .next s)
    ∧ (tr.phase = .header →
        exec (.cardHeaderAnswer .accept) s = s.atPhase tr (if o.fromCard + o.send.length = 0 then .complete else .data)
        ∧ ∀ code : Byte, exec (.cardHeaderAnswer (.completion code)) s = s.atPhase tr (.release
            (if code = 1 then .completed .refused else if code = 2 then .completed .fresh else .failed)))
    ∧ (∀ a, tr.phase ≠ .header → exec (.cardHeaderAnswer a) s = .next s)
    ∧ (tr.phase = .data → 0 < o.fromCard → ∀ bytes,
        (recordFits o.code bytes = true → exec (.cardDataRecord bytes) s = s.atPhase { tr with given := tr.given ++ [bytes] }
          (if o.fromCard ≤ tr.given.length + 1 then .complete else .data))
        ∧ (recordFits o.code bytes = false → exec (.cardDataRecord bytes) s = s.atPhase tr (.release .failed)))
    ∧ (tr.phase = .data → o.fromCard = 0 → ∀ bytes,
        exec (.cardDataRecord bytes) s = s.atPhase { tr with taken := tr.taken + 1 }
          (if o.send.length ≤ tr.taken + 1 then .complete else .data))
    ∧ (∀ bytes, tr.phase ≠ .data → exec (.cardDataRecord bytes) s = .next s)
    ∧ (∀ code : Byte,
        (tr.phase = .complete → exec (.cardCompletion code) s = s.atPhase tr (.release
          (if code = 0 then .completed .done else if code = 1 then .completed .refused
            else if code = 2 then .completed .fresh else .failed)))
        ∧ (tr.phase = .header → exec (.cardCompletion code) s = s.atPhase tr (.release
            (if code = 1 then .completed .refused else if code = 2 then .completed .fresh else .failed)))
        ∧ (tr.phase = .data → exec (.cardCompletion code) s = s.atPhase tr (.release .failed))
        ∧ (tr.phase = .acknowledge → o.fromCard + o.send.length = 0 → code.toNat ≤ 2 →
            exec (.cardCompletion code) s = .next s)
        ∧ (tr.phase = .acknowledge → 0 < o.fromCard + o.send.length ∨ 2 < code.toNat →
            exec (.cardCompletion code) s = .next (s.event (fun b => Blocks.endAttempt s.time b tr .failed)))
        ∧ (∀ e, tr.phase = .release e → exec (.cardCompletion code) s = .next s))
    ∧ exec .acknowledgeWithdrawn s = (if busy then s.atPhase tr (.release .failed) else .next s)

/-- R153, R154, R156, R157: RELEASE_END, and the end of RELEASE's wait, end the attempt: the bus is free; a cut transfer
leaves its requester as it is; a failed attempt below the third raises the count and keeps the order; a third, or a
completion, takes the order from its queue or place, sets the count to 0, and delivers the outcome. The end of any other
wait fails the attempt: in HEADER, DATA and COMPLETE it goes to RELEASE, and in ACKNOWLEDGE it ends at once, the third time
with the outcome NO_ANSWER. Then the blocks judge. What an outcome does at its requester the statements below say. With no
transfer neither event can arise (log 4), and a RELEASE_END outside RELEASE changes nothing (log 15). An abandoned order is
attempted up to the third time too (log 28, DEDUCED, unsafe). -/
def Obligations.AttemptsEndWithTheirOutcome : Prop :=
  (∀ (s : State) (tr : Transfer) (e : Ending), s.Awake → s.blk.bus.transfer = some tr → tr.phase = .release e →
    let free := { s.blk with bus := { s.blk.bus with transfer := none } }
    ∃ F : Blocks → Blocks, exec .releaseEnd s = .next (s.event F) ∧ exec .phaseTimeoutExpiry s = .next (s.event F)
      ∧ (e = .cut → F s.blk = free)
      ∧ (e = .failed → s.blk.bus.attempts tr.requester < 2 →
          F s.blk = { free with bus := free.bus.setAttempts (s.blk.bus.attempts tr.requester + 1) tr.requester })
      ∧ ∀ o, s.blk.bus.head tr.requester = some o →
          let left := { free with bus := (free.bus.dropHead tr.requester).setAttempts 0 tr.requester }
          (e = .failed → 2 ≤ s.blk.bus.attempts tr.requester →
              F s.blk = Blocks.deliver s.time left o .noAnswer tr.given)
          ∧ (∀ c, e = .completed c → F s.blk = Blocks.deliver s.time left o c.outcome tr.given))
  ∧ ∀ s : State, s.Awake →
    (s.blk.bus.transfer = none → exec .phaseTimeoutExpiry s = .next s ∧ exec .releaseEnd s = .next s)
    ∧ ∀ tr, s.blk.bus.transfer = some tr →
      (tr.phase = .header ∨ tr.phase = .data ∨ tr.phase = .complete →
        exec .phaseTimeoutExpiry s = .next (s.event (fun b => { b with bus := { b.bus with
          transfer := some { tr with phase := .release .failed, wait := b.bus.phaseTimeout } } })))
      ∧ (tr.phase = .acknowledge → s.blk.bus.attempts tr.requester < 2 →
        exec .phaseTimeoutExpiry s = .next (s.event (fun b => { b with
          bus := (b.bus.setTransfer none).setAttempts (s.blk.bus.attempts tr.requester + 1) tr.requester })))
      ∧ (∀ o, tr.phase = .acknowledge → 2 ≤ s.blk.bus.attempts tr.requester → s.blk.bus.head tr.requester = some o →
        exec .phaseTimeoutExpiry s = .next (s.event (fun b => Blocks.deliver s.time
          { b with bus := ((b.bus.setTransfer none).dropHead tr.requester).setAttempts 0 tr.requester } o .noAnswer
          tr.given)))
      ∧ ((∀ e, tr.phase ≠ .release e) → exec .releaseEnd s = .next s)

/-! ### What an outcome does at its requester -/

/-- R89, R110, R119: the slot is LOST with the reason, or COVERED with it. -/
def LostFor (b : Blocks) (i : SlotId) (reason : LossReason) : Prop :=
  ((b.slot i).state = .lost ∧ (b.slot i).lostReason = some reason)
    ∨ ((b.slot i).state = .covered ∧ (b.slot i).coverReason = some reason)

/-- R117: the second blocks stand after slot i of the first became LIVE. Where it is reverting, a CLEAR is wanted for the spare
that holds it, unless one placed for this revert is outstanding and not abandoned (log 17, DEDUCED, unsafe); for every other
slot a CLEAR is wanted as before. -/
def ClearJudged (b c : Blocks) (i : SlotId) : Prop :=
  let outstanding := fun t => (b.slot t).order = some { code := .clear, abandoned := false }
    ∧ ∃ o ∈ b.bus.registryQueue, o.slot = t ∧ o.purpose = .registry (.clear true)
  let holds := fun t => (b.slot t).coveredSlot = some i ∧ ∀ u, u < t → (b.slot u).coveredSlot ≠ some i
  let asBefore := fun t => (c.slot t).clearWanted = (b.slot t).clearWanted
  ((b.slot i).revertMark = false → ∀ t, asBefore t)
    ∧ ((b.slot i).revertMark = true → (b.slot i).coveredSlot = none → ∀ t,
        (holds t → ¬outstanding t → (c.slot t).clearWanted = true)
        ∧ (holds t → outstanding t → asBefore t)
        ∧ (¬holds t → asBefore t))

/-- R44: no end on the slot counts as attached. -/
def EndsDetached (b : Blocks) (i : SlotId) : Prop :=
  ∀ l ∈ b.store.links, ∀ e, (l.endpoint e).slot = i → l.attached e = false

/-- R85, R87, R91, R98, R114: a fresh card's loading has begun: its first step is the reads where it has stored config and
holds no slot, else the writes. The cover load of a spare that holds a slot is counted from 0 runs (R114), and its done field
is no (DESIGN CHOICE, unsafe, log 35). -/
def LoadingBegun (b : Blocks) (i : SlotId) (d : Identity) : Prop :=
  let r := b.slot i
  r.state = .loading ∧ r.latestId = some .fresh ∧ r.identity = some d ∧ r.order = none ∧ r.writeSet = []
    ∧ r.readBuffer = []
    ∧ (∃ ld, r.loading = some ld ∧ ld.next = 0
        ∧ ld.step = if r.coveredSlot = none ∧ d.storedConfig = true then .reads else .writes)
    ∧ (r.coveredSlot.isSome = true → r.coverLoad = some { runs := 0, done := false })

/-- R83 to R85, R89, R91, R92: what an outcome does at the slot its IDENTIFY was placed for. The outcome of an abandoned
order is discarded. A card that does not fit the plan, a REFUSED and a FRESH lose the slot with MISMATCH, and NO_ANSWER with
SILENT. A card that fits is judged by its term: intact, a slot in IDENTIFYING is LIVE and a LIVE slot stays as it is; fresh,
the slot is LOADING, its ends are detached and the episode counts it, unless a restart reported it before (R92). That FRESH
loses a LIVE slot too, and that HELD forgets a restart, are the model's choices (log 30 and 31); so is that the cover load of a spare
that holds a slot is done no from the beginning of the spare's own loading, where R114 gives the runs alone (log 35, DESIGN
CHOICE, unsafe), and that every outcome of an abandoned order is discarded, FRESH and NO_ANSWER among them (log 28, DEDUCED,
unsafe). R117: a reverting slot that becomes LIVE makes a CLEAR wanted for its spare, unless one placed for this revert is
outstanding (log 17, DEDUCED, unsafe). -/
def Obligations.IdentificationIsJudgedByFitAndTerm : Prop :=
  ∀ (t : Nat) (b : Blocks) (o : BusOrder) (out : OrderOutcome) (given : List (List Byte)),
    let i := o.slot
    let r := b.slot i
    let c := Blocks.deliver t b o out given
    let q := c.slot i
    (∀ use, o.purpose = .registry use → r.order.any RegistryOrder.abandoned = true →
        c = b.modSlot i (fun r => { r with order := none }))
    ∧ (o.purpose = .registry .identify → r.order.any RegistryOrder.abandoned = false →
        (r.state.inService = false → out ≠ .done → c = b.modSlot i (fun r => { r with order := none }))
        ∧ (r.state.inService = true →
            (out = .refused ∨ out = .fresh → LostFor c i .mismatch) ∧ (out = .noAnswer → LostFor c i .silent)
            ∧ ∀ d p, out = .done → given.head?.bind readIdentity = some d → r.plan = some p →
                let fits := d.cardType = p.cardType ∧ p.minRevision ≤ d.revision ∧ p.portCount ≤ d.portCount
                let intact := r.storedTerm = some d.term
                (¬fits → LostFor c i .mismatch)
                ∧ (fits → r.state = .identifying → intact →
                    q.state = .live ∧ q.latestId = some .intact ∧ q.identity = some d ∧ q.deadline = none
                    ∧ q.storedTerm = r.storedTerm ∧ q.order = none ∧ c.store = b.store ∧ c.engine = b.engine
                    ∧ ClearJudged b c i
                    ∧ (r.coveredSlot = none → c.ep = b.ep.modOpen Episode.countSlotIntact)
                    ∧ .slotState i .identifying .live none ∈ c.raised
                    ∧ (d.cause = .alarm → .slotAlarm i .alarm ∈ c.raised)
                    ∧ ∀ s, r.coveredSlot = some s → (b.slot s).state = .lost → (c.slot s).state = .covered)
                ∧ (fits → r.state = .identifying → ¬intact →
                    LoadingBegun c i d ∧ q.deadline = r.deadline ∧ q.storedTerm = r.storedTerm
                    ∧ q.coveredSlot = r.coveredSlot ∧ .slotState i .identifying .loading none ∈ c.raised
                    ∧ (r.latestId = some .fresh → c.store = b.store ∧ c.engine = b.engine ∧ c.ep = b.ep)
                    ∧ (r.latestId ≠ some .fresh →
                        EndsDetached c i ∧ c.ep = b.ep.modOpen Episode.countSlotFresh))
                ∧ (fits → r.state = .live → intact →
                    c = { b.modSlot i (fun r => { r with order := none, identity := some d, attention := false }) with
                          raised := b.raised ++ if d.cause = .alarm then [.slotAlarm i .alarm] else [] })
                ∧ (fits → r.state = .live → ¬intact →
                    LoadingBegun c i d ∧ q.deadline = some (p.returnDeadline * 1000) ∧ q.attention = false
                    ∧ q.storedTerm = r.storedTerm ∧ q.coveredSlot = r.coveredSlot ∧ EndsDetached c i
                    ∧ .slotState i .live .loading none ∈ c.raised
                    ∧ (r.coveredSlot = none → c.ep = b.ep.modOpen Episode.countSlotFresh)
                    ∧ ∀ s, r.coveredSlot = some s → (b.slot s).state = .covered →
                        (c.slot s).state = .lost ∧ (c.slot s).lostReason = (b.slot s).coverReason)))

/-- R83, R150: an order stands at the tail of the registry queue, as its slot's one order, and nothing but the registry and
its queue was moved. -/
def Placed (b c : Blocks) (i : SlotId) (o : BusOrder) : Prop :=
  c = { b with bus := { b.bus with registryQueue := b.bus.registryQueue ++ [o] }, reg := c.reg }
    ∧ (c.slot i).order = some { code := o.code, abandoned := false }

/-- R98, R102, R104, R106, R112: a WRITE PORTS stands placed. It carries each port's record as it stands in the record
source, with the groups and the test state given; its ports have left the write set; and at the first run of a cover load the
test state of the held slot's planned ports becomes NORMAL. -/
def WritePlaced (b c : Blocks) (i : SlotId) (plan : Plan) (first count : Nat) (groups : Nat → GroupSet)
    (test : PortRec → TestState) (use : RegistryUse) : Prop :=
  let source := (b.slot i).coveredSlot.getD i
  let firstRun := (b.slot i).coveredSlot.isSome = true ∧ first = 0 ∧ use ≠ .writeSet
  (∃ send, Placed b c i { slot := i, code := .writePorts, first, count, send, purpose := .registry use }
      ∧ send.length = count
      ∧ ∀ (k : Nat) (h : first + k < 32), k < count →
          send[k]? = some (portRecordBytes (groups (first + k)) (test (b.port source ⟨first + k, h⟩))
            (b.port source ⟨first + k, h⟩)))
    ∧ (c.slot i).writeSet =
        (b.slot i).writeSet.filter (fun q => decide (q.val < first) || decide (first + count ≤ q.val))
    ∧ (firstRun → ∀ (j : SlotId) (q : Fin 32), c.port j q =
        if j = source ∧ q.val < plan.portCount then { b.port j q with test := .normal } else b.port j q)
    ∧ (¬firstRun → c.reg.ports = b.reg.ports)

/-- R106: the write set is served: its lowest port, with those that follow it in unbroken succession, up to 8. -/
def WriteSetServed (b c : Blocks) (i : SlotId) (plan : Plan) : Prop :=
  ((b.slot i).writeSet = [] → c = b)
    ∧ ∀ p rest, (b.slot i).writeSet = p :: rest → ∃ n, 1 ≤ n ∧ n ≤ 8
        ∧ (∀ k, k < n → ((p :: rest)[k]?).map Fin.val = some (p.val + k))
        ∧ (n = 8 ∨ ((p :: rest)[n]?).map Fin.val ≠ some (p.val + n))
        ∧ WritePlaced b c i plan p.val n (fun _ => plan.mergeGroups) PortRec.test .writeSet

/-- R83, R86, R91, R98, R100, R104, R106, R112, R114, R117: what order a slot without one has placed: an IDENTIFY in
IDENTIFYING; the reads, the writes, the write set and SET TERM of a loading, in that order; and in LIVE the attention
IDENTIFY, then the next run of the cover load, then a wanted CLEAR, then the write set. An outstanding order, and any other
state, places none. Three clauses are the model's choices (DESIGN CHOICE, unsafe): the write set of a loading carries the
table's test state (log 33); an attention pending holds back neither the write set nor SET TERM of a LOADING slot (log 37);
and the want of a CLEAR ends at its placement (log 34). So is that a loading whose hold ended goes on over the ports the spare
then has (log 20). -/
def Obligations.WantedOrdersArePlaced : Prop :=
  (∀ (b : Blocks) (i : SlotId),
    (b.slot i).order.isSome = true ∨ (b.slot i).state ∉ [SlotState.identifying, .loading, .live] → b.placeWanted i = b)
  ∧ ∀ (b : Blocks) (i : SlotId), (b.slot i).order = none →
    let r := b.slot i
    let c := b.placeWanted i
    let plain := fun (code : OrderCode) (send : List (List Byte)) (use : RegistryUse) =>
      Placed b c i { slot := i, code, first := 0, count := 1, send, purpose := .registry use }
    (r.state = .identifying → plain .identify [] .identify)
    ∧ (r.state = .live → r.attention = true → plain .identify [] .identify)
    ∧ ∀ plan, (b.slot (r.coveredSlot.getD i)).plan = some plan → plan.portCount ≤ 32 →
        let ports := fun run => min 8 (plan.portCount - 8 * run)
        (∀ ld, r.state = .loading → r.loading = some ld →
            (ld.step = .reads →
                Placed b c i { slot := i, code := .readPorts, first := 8 * ld.next, count := ports ld.next, send := [],
                               purpose := .registry .loadRead })
            ∧ (ld.step = .writes →
                WritePlaced b c i plan (8 * ld.next) (ports ld.next)
                  (fun p => if r.coveredSlot.isSome then plan.mergeGroups else (ld.write[p]?).getD plan.mergeGroups)
                  (fun _ => .normal) .loadWrite)
            ∧ (ld.step = .writeSet ∨ ld.step = .setTerm →
                (r.writeSet ≠ [] → WriteSetServed b c i plan)
                ∧ (r.writeSet = [] →
                    let term := match r.storedTerm with | none => 1 | some t => if t < 255 then t + 1 else 1
                    plain .setTerm [[byte term]] (.setTerm term)
                    ∧ (c.slot i).loading = some { ld with step := .setTerm })))
        ∧ (r.state = .live → r.attention = false →
            let nextRun := fun s k => r.coveredSlot = some s ∧ (r.coverLoad.map CoverLoad.runs) = some k
              ∧ 8 * k < plan.portCount
            (∀ s k, nextRun s k → (b.slot s).revertMark = false →
                WritePlaced b c i plan (8 * k) (ports k) (fun _ => plan.mergeGroups) (fun _ => .normal) (.coverRun s k))
            ∧ (r.clearWanted = true → (∀ s k, nextRun s k → (b.slot s).revertMark = true) →
                plain .clear [] (.clear true) ∧ (c.slot i).clearWanted = false)
            ∧ (r.clearWanted = false → (∃ s k, nextRun s k ∧ (b.slot s).revertMark = true) → c = b)
            ∧ (r.clearWanted = false → (∀ s k, ¬nextRun s k) → WriteSetServed b c i plan))

/-- R86, R87, R89, R92, R100, R104, R106, R112, R114: what an outcome of a loading's or a cover load's order does. The
records of a read run join the read buffer, and after the last one the merge is taken; a write run advances the loading,
after the last one to the write set, and a run of the cover load counts toward the cover it was placed for (log 21); SET TERM
makes the slot LIVE with its stored term and its latest identification still FRESH. A REFUSED loses the slot with MISMATCH
and NO_ANSWER with SILENT; a FRESH loses a slot that is not LIVE, and restarts a LIVE one. R117: a reverting slot that becomes
LIVE makes a CLEAR wanted for its spare, unless one placed for this revert is outstanding (log 17, DEDUCED, unsafe). That a
loading whose hold ended goes on over the ports the spare then has is the model's choice (log 20, DESIGN CHOICE, unsafe). -/
def Obligations.LoadingRunsAndTermAreCounted : Prop :=
  ∀ (t : Nat) (b : Blocks) (o : BusOrder) (use : RegistryUse) (given : List (List Byte)), o.purpose = .registry use →
    (b.slot o.slot).order.any RegistryOrder.abandoned = false →
    let i := o.slot
    let r := b.slot i
    let got := fun out => Blocks.deliver t b o out given
    let ended := b.modSlot i (fun r => { r with order := none })
    (∀ ld p, use = .loadRead → r.loading = some ld → r.plan = some p →
        let absent : PortReport := { line := none, level := none, signal := none, admin := none }
        let buffer := r.readBuffer ++ given.map (fun bytes => (readPortReport bytes).getD absent)
        (8 * (ld.next + 1) < p.portCount →
            got .done = b.modSlot i (fun r => { r with
              order := none, readBuffer := buffer, loading := some { ld with next := ld.next + 1 } }))
        ∧ (p.portCount ≤ 8 * (ld.next + 1) → got .done = ended.merge p i buffer))
    ∧ (∀ ld p, use = .loadWrite → r.loading = some ld → (b.slot (r.coveredSlot.getD i)).plan = some p →
        got .done = b.modSlot i (fun r => { r with
          order := none
          loading := some (if p.portCount ≤ 8 * (ld.next + 1) then { ld with step := .writeSet }
            else { ld with next := ld.next + 1 })
          coverLoad := r.coverLoad.map (fun c => { c with runs := c.runs + 1 }) }))
    ∧ (use = .writeSet → got .done = ended)
    ∧ (∀ held run, use = .coverRun held run →
        (∀ cl, r.coveredSlot = some held → r.coverLoad = some cl → cl.runs = run →
            got .done = b.modSlot i (fun r => { r with order := none, coverLoad := some { cl with runs := run + 1 } }))
        ∧ (r.coveredSlot ≠ some held ∨ (∀ cl, r.coverLoad = some cl → cl.runs ≠ run) → got .done = ended))
    ∧ (∀ term, use = .setTerm term →
        (r.state ≠ .loading → got .done = ended)
        ∧ (r.state = .loading →
            let c := got .done
            let q := c.slot i
            q.state = .live ∧ q.storedTerm = some term ∧ q.latestId = r.latestId ∧ q.deadline = none ∧ q.loading = none
            ∧ q.order = none ∧ q.coverLoad = r.coverLoad.map (fun c => { c with done := true })
            ∧ c.store = b.store ∧ c.engine = b.engine ∧ .slotState i .loading .live none ∈ c.raised
            ∧ ClearJudged b c i
            ∧ (r.coveredSlot = none → c.ep = b.ep)
            ∧ ∀ s, r.coveredSlot = some s → (b.slot s).state = .lost → (c.slot s).state = .covered))
    ∧ (use ≠ .identify → (∀ reverts, use ≠ .clear reverts) → r.state.inService = true →
        LostFor (got .noAnswer) i .silent ∧ LostFor (got .refused) i .mismatch
        ∧ (r.state ≠ .live → LostFor (got .fresh) i .mismatch)
        ∧ (r.state = .live → use = .writeSet ∨ (∃ held run, use = .coverRun held run) →
            let c := got .fresh
            let q := c.slot i
            q.state = .identifying ∧ q.latestId = some .fresh ∧ q.attention = false ∧ q.order = none
            ∧ q.deadline = some ((r.plan.map Plan.returnDeadline).getD 0 * 1000) ∧ EndsDetached c i
            ∧ (r.coveredSlot = none → c.ep = b.ep.modOpen Episode.countSlotFresh)))

/-- R101, R102: the merge function's table for one group of one port: the table's value before and after, whether the group
is to be written, and whether it marks the port. -/
def GroupMerged {α : Type} (fn : MergeFunction) (inPlan : Bool) (report : Option α) (fit : α → Prop) (limited : α → α)
    (before after : α) (written marked : Bool) : Prop :=
  (inPlan = false → after = before ∧ written = false ∧ marked = false)
    ∧ (inPlan = true →
        (report = none → after = before ∧ written = true ∧ marked = false)
        ∧ ∀ v, report = some v →
          (fn = .stored → after = before ∧ written = true ∧ marked = false)
          ∧ (fn = .card → after = limited v ∧ (written = true ↔ ¬fit v) ∧ marked = false)
          ∧ (fn = .agree → after = before ∧ (written = true ↔ ¬(fit v ∧ v = before)) ∧ marked = written)
          ∧ (fn = .fill → (fit v → after = v) ∧ (¬fit v → after = before) ∧ (written = true ↔ ¬fit v) ∧ marked = false))

/-- R100 to R103: the merge. For each port of the plan every group of the plan's merge groups goes as the merge function's
table gives, and every other group stays; the test state becomes NORMAL; under AGREE a port with a differing or unfit group
is marked, counted once up to 255 and noticed, and one without is marked no more. The groups to be written stand in the
loading, which goes on to its write runs with an empty read buffer; nothing else moves. That the DISAGREED notices of one
merge are raised lowest port first is the model's choice (log 26, DESIGN CHOICE, unsafe): R103 gives them no order. -/
def Obligations.MergeFollowsTheFunction : Prop :=
  ∀ (b : Blocks) (plan : Plan) (i : SlotId) (reports : List PortReport),
    let c := b.merge plan i reports
    let fn := plan.mergeFunction
    let groups := plan.mergeGroups
    ∃ (ws : List GroupSet) (marks : Fin 32 → GroupSet),
      let marked := fun p => (marks p).line || (marks p).level || (marks p).signal || (marks p).admin
      ws.length = min plan.portCount 32
      ∧ c.slot i = { b.slot i with loading := some { step := .writes, next := 0, write := ws }, readBuffer := [] }
      ∧ (∀ j, j ≠ i → c.slot j = b.slot j)
      ∧ (∀ j p, j ≠ i ∨ plan.portCount ≤ p.val → c.port j p = b.port j p)
      ∧ c = { b with reg := c.reg, raised := c.raised }
      ∧ c.raised = b.raised ++ (if fn = .agree then
          ((List.finRange 32).filter (fun p => decide (p.val < plan.portCount) && marked p)).map
            (fun p => .slotDisagreed i p.val (marks p)) else [])
      ∧ ∀ p : Fin 32, p.val < plan.portCount →
          let absent : PortReport := { line := none, level := none, signal := none, admin := none }
          let told := (reports[p.val]?).getD absent
          let old := b.port i p
          let new := c.port i p
          let m := marks p
          ∃ w, ws[p.val]? = some w
            ∧ GroupMerged fn groups.line told.line (fun v => v.1 ≤ 15 ∧ v.2 ≤ 3) (fun v => (min v.1 15, min v.2 3))
                (old.lineKind, old.termination) (new.lineKind, new.termination) w.line m.line
            ∧ GroupMerged fn groups.level told.level
                (fun v => -120 ≤ v.1 ∧ v.1 ≤ 60 ∧ -120 ≤ v.2 ∧ v.2 ≤ 60)
                (fun v => (max (-120) (min 60 v.1), max (-120) (min 60 v.2)))
                (old.txLevel, old.rxLevel) (new.txLevel, new.rxLevel) w.level m.level
            ∧ GroupMerged fn groups.signal told.signal (fun v => v.1 ≤ 7 ∧ v.2 ≤ 15)
                (fun v => (min v.1 7, min v.2 15)) (old.scheme, old.timing) (new.scheme, new.timing) w.signal m.signal
            ∧ GroupMerged fn groups.admin told.admin (fun _ => True) id old.blocked new.blocked w.admin m.admin
            ∧ new.test = .normal
            ∧ (fn ≠ .agree → new.disagreed = old.disagreed ∧ new.disagreements = old.disagreements)
            ∧ (fn = .agree → new.disagreed = marked p
                ∧ new.disagreements = if marked p then min (old.disagreements + 1) 255 else old.disagreements)

/-- R111, R118: a link after the restore of a slot: its ends are back home, its ends on the spare are detached, and a link
that came home returns to PENDING, or to RELEASING where its removal was requested in flight. -/
def LinkRestored (spare s : SlotId) (l m : Link) : Prop :=
  let homed := l.epA.home = some s ∨ l.epB.home = some s
  let back := fun (e : Endpoint) => if e.home = some s then { slot := s, port := e.port, home := none } else e
  (m.cls, m.seq, m.hset, m.index, m.late, m.removal) = (l.cls, l.seq, l.hset, l.index, l.late, l.removal)
    ∧ m.epA = back l.epA ∧ m.epB = back l.epB
    ∧ m.attA = (l.attA && l.epA.slot != spare) ∧ m.attB = (l.attB && l.epB.slot != spare)
    ∧ m.state = if homed then
        (if l.state.flying then (if l.removal then .releasing else .pending)
         else if l.state = .carried ∨ l.state = .suspect then .pending else l.state)
      else l.state

/-- R117 to R119: what an outcome of a CLEAR does at the spare, and at the slot s it holds. While the revert it was placed
for goes on, DONE completes it: the spare holds nothing, s reverts no more, and its links come home; FRESH does the same, and
is a restart of the spare besides. Once s was lost, the CLEAR completes no revert, be it one begun later (log 17): DONE
detaches the ends on the spare, and the cover load begins again; FRESH is a restart. REFUSED loses the spare with MISMATCH
and NO_ANSWER with SILENT. The loss of s makes it COVERED at once where its spare is LIVE, and ends the revert of every CLEAR
placed for the spare. -/
def Obligations.ClearEndsTheRevert : Prop :=
  (∀ (t : Nat) (b : Blocks) (o : BusOrder) (reverts : Bool) (given : List (List Byte)), o.purpose = .registry (.clear reverts) →
    (b.slot o.slot).order.any RegistryOrder.abandoned = false →
    let i := o.slot
    let r := b.slot i
    let got := fun out => Blocks.deliver t b o out given
    (r.state.inService = true → LostFor (got .refused) i .mismatch ∧ LostFor (got .noAnswer) i .silent)
    ∧ (r.coveredSlot = none → got .done = b.modSlot i (fun r => { r with order := none }))
    ∧ ∀ s, r.coveredSlot = some s → s ≠ i →
        (reverts = true →
            let c := got .done
            c.slot i = { r with order := none, coveredSlot := none, coverLoad := none, writeSet := [], clearWanted := false }
            ∧ c.slot s = { b.slot s with revertMark := false, coverReason := none }
            ∧ (∀ j, j ≠ i → j ≠ s → c.slot j = b.slot j)
            ∧ c.power = b.power ∧ c.ep = b.ep ∧ c.raised = b.raised ∧ c.reg.ports = b.reg.ports
            ∧ (b.store.Law → ∀ k l, b.link k = some l → ∃ m, c.link k = some m ∧ LinkRestored i s l m))
        ∧ (reverts = true → r.state = .live →
            let c := got .fresh
            (c.slot i).state = .identifying ∧ (c.slot i).latestId = some .fresh ∧ (c.slot i).coveredSlot = none
            ∧ (c.slot i).coverLoad = none ∧ (c.slot s).state = (b.slot s).state ∧ (c.slot s).revertMark = false
            ∧ (c.slot s).coverReason = none)
        ∧ (reverts = false →
            let c := got .done
            c.slot i = { r with order := none, coverLoad := some { runs := 0, done := false } }
            ∧ (∀ j, j ≠ i → c.slot j = b.slot j) ∧ EndsDetached c i ∧ c.ep = b.ep)
        ∧ (reverts = false → r.state = .live →
            let c := got .fresh
            (c.slot i).state = .identifying ∧ (c.slot i).latestId = some .fresh ∧ (c.slot i).coveredSlot = some s
            ∧ (c.slot s).revertMark = (b.slot s).revertMark
            ∧ ((b.slot s).state = .covered → (c.slot s).state = .lost)))
  ∧ ∀ (b : Blocks) (s spare : SlotId) (reason : LossReason), reason ≠ .retired → (b.slot s).state ≠ .lost →
    (b.slot s).revertMark = true → (b.slot s).coveredSlot = none → b.holder s = some spare →
    let c := b.lose s reason
    LostFor c s reason ∧ ((c.slot s).state = .covered ↔ (b.slot spare).state = .live)
    ∧ (c.slot s).revertMark = false ∧ (c.slot s).coverReason = some reason ∧ (c.slot spare).coveredSlot = some s
    ∧ (c.slot spare).clearWanted = false
    ∧ ∀ o ∈ c.bus.registryQueue, o.slot = spare → o.purpose ≠ .registry (.clear true)

/-- R42: the flagged links: an in-flight link whose removal is requested and that has no order outstanding becomes RELEASING
and leaves every collection; every other link stays as it was. -/
def FlaggedLinksRelease (b c : Blocks) : Prop :=
  ∀ id l, b.link id = some l →
    let flagged := (∃ f ∈ b.engine.inFlight, f.link = id) ∧ l.removal = true ∧ ∀ o ∈ b.bus.relinkQueue, o.forLink id = false
    (flagged → c.link id = some { l with state := .releasing, deferral := none } ∧ c.entry id = none
        ∧ id ∉ c.engine.queue ∧ id ∉ c.engine.deferred ∧ ∀ o ∈ c.engine.backlog, o.forLink id = false)
    ∧ (¬flagged → c.link id = some l ∧ c.entry id = b.entry id ∧ (id ∈ c.engine.queue ↔ id ∈ b.engine.queue)
        ∧ (id ∈ c.engine.deferred ↔ id ∈ b.engine.deferred))

/-- A DETACH for one end of a link (R36, R43): at its endpoint's slot and port. -/
def detachOrder (l : Link) (lend : LinkEnd) (current : Bool) : BusOrder :=
  { slot := (l.endpoint lend).slot, code := .detach, first := (l.endpoint lend).port.val, count := 1, send := []
    purpose := .engine { link := l.id, lend, current, opened := false } }

/-- R36: one link on its refusal path, once no order of it is outstanding: with no end attached it is DEFERRED with REFUSED
at the tail of the deferred list and a LINK notice is raised; else its step becomes DETACH, and DETACH for each attached end
joins the backlog. A link without a refusal, one flagged (R42), and one already detaching stay as they are. -/
def RefusalJudged (t : Nat) (b c : Blocks) (id : Nat) : Prop :=
  ∀ f l, b.entry id = some f → b.link id = some l →
    let judged := f.refused = true ∧ l.removal = false ∧ ∀ o ∈ b.bus.relinkQueue, o.forLink id = false
    let attached := l.attA = true ∨ l.attB = true
    (¬judged → c = b)
    ∧ (judged → ¬attached →
        c.link id = some { l with state := .deferred, deferral := some { reason := .refused, since := t } }
        ∧ (∀ k, k ≠ id → c.link k = b.link k ∧ c.entry k = b.entry k)
        ∧ c.engine.deferred = b.engine.deferred ++ [id] ∧ c.engine.queue = b.engine.queue.filter (fun k => k != id)
        ∧ c.entry id = none ∧ (∀ o ∈ c.engine.backlog, o.forLink id = false)
        ∧ c.raised = b.raised ++ [.link .deferred id l.cls (some .refused)] ∧ c.reg = b.reg ∧ c.ep = b.ep)
    ∧ (judged → attached → f.step = .detach → c = b)
    ∧ (judged → attached → f.step ≠ .detach →
        c = { b with engine := { b.engine with
          inFlight := c.engine.inFlight
          backlog := b.engine.backlog ++ (if l.attA then [detachOrder l .a true] else [])
            ++ (if l.attB then [detachOrder l .b true] else []) } }
        ∧ c.entry id = some { f with step := .detach, outA := none, outB := none }
        ∧ ∀ k, k ≠ id → c.entry k = b.entry k)

/-- R43, R45: one RELEASING link: with no end attached and no order outstanding its record and its cells are deleted; else a
DETACH joins the backlog for each end that is attached, stands on a LIVE slot and has no DETACH outstanding or waiting. Any
other link stays as it is. -/
def ReleaseJudged (b c : Blocks) (id : Nat) : Prop :=
  ∀ l, b.link id = some l →
    let gone := l.attA = false ∧ l.attB = false ∧ ∀ o ∈ b.bus.relinkQueue, o.forLink id = false
    let wants := fun lend => l.attached lend && (b.slot (l.endpoint lend).slot).state == .live
      && (b.bus.relinkQueue ++ b.engine.backlog).all (fun o => !(o.code == .detach && o.forEnd id lend))
    (l.state ≠ .releasing → c = b)
    ∧ (l.state = .releasing → gone → c = { b with store := { b.store with
        links := b.store.links.filter (fun m => m.id != id), cells := b.store.cells.filter (fun x => x.link != id) } })
    ∧ (l.state = .releasing → ¬gone → c = { b with engine := { b.engine with
        backlog := b.engine.backlog ++ (if wants .a then [detachOrder l .a false] else [])
          ++ (if wants .b then [detachOrder l .b false] else []) } })

/-- R29, R30, R32, R36, R64, R65, R89, R92, R108, R157: what an outcome of one of the engine's orders does. Ends attached follows
the table of R29, whatever the link's state; a stale outcome does nothing more. One that counts toward the present step of a
link without removal: the survey of both ends verifies the link where both records match under the compare mask, and returns
it to PENDING where not; both ATTACH orders DONE make it READY; ACTIVATE for A is followed by ACTIVATE for B, and that one
carries the link; a REFUSED ATTACH or ACTIVATE marks the entry and withdraws the link's backlog orders. R47, R68, R69: a
carried link of origin QUEUE counts in order and raises CARRIED where no episode is open; one of origin DEFERRED counts late
and raises LATE always. FRESH and NO_ANSWER of an order of the engine or of a CARD PORTS go to the slot registry too, after the
requester (log 8): FRESH restarts a LIVE slot, and NO_ANSWER loses one in service with SILENT. That NO_ANSWER of a CARD PORTS
loses a slot in IDENTIFYING or LOADING follows R89, where R108 has it disregarded for a slot no longer LIVE: the model's choice
(log 32, DESIGN CHOICE, unsafe). R36, R42, R43, R45: what
the engine then judges of flagged links, refusal paths and RELEASING links, one after another, before the head is judged (the
order is log 6, DESIGN CHOICE). In one pass the refusal paths are taken in the order of their links' starts and the RELEASING
links lowest id first, and the DETACH of end A stands before that of end B: R36 and R43 leave this open (log 26, DESIGN
CHOICE, unsafe). R28: the oldest backlog orders are placed at the tail of the relink queue, in their order, while one of its
16 places is free. -/
def Obligations.EndsAndSurveysAreAccounted : Prop :=
  (∀ (t : Nat) (b : Blocks),
    FlaggedLinksRelease b b.flagPass ∧ (∀ id, RefusalJudged t b (Blocks.refuse t b id) id)
    ∧ (∀ id, ReleaseJudged b (b.releaseOne id) id)
    ∧ Blocks.refusalPass t b = (b.engine.inFlight.map InFlight.link).foldl (Blocks.refuse t) b
    ∧ b.releasePass = ((b.store.links.filter (fun l => l.state == .releasing)).map Link.id).foldl Blocks.releaseOne b
    ∧ Blocks.judgeEngine t b =
        let c := (Blocks.refusalPass t b.flagPass).releasePass
        Blocks.judgeHead t (c.engine.queue.length + 1) c) ∧
  (∀ b : Blocks,
    let c := b.placeBacklog
    (∃ placed, c = { b with bus := { b.bus with relinkQueue := b.bus.relinkQueue ++ placed }
                            engine := { b.engine with backlog := c.engine.backlog } }
        ∧ b.engine.backlog = placed ++ c.engine.backlog
        ∧ (placed ≠ [] → c.bus.relinkQueue.length ≤ 16))
    ∧ (c.engine.backlog = [] ∨ 16 ≤ c.bus.relinkQueue.length)) ∧
  (∀ (t : Nat) (b : Blocks) (o : BusOrder) (out : OrderOutcome) (given : List (List Byte)),
    (∀ use, o.purpose ≠ .registry use) →
    let c := Blocks.deliver t b o out given
    (out = .noAnswer → (b.slot o.slot).state.inService = true → LostFor c o.slot .silent)
    ∧ (out = .fresh → (b.slot o.slot).state = .live →
        (c.slot o.slot).state = .identifying ∧ (c.slot o.slot).latestId = some .fresh ∧ EndsDetached c o.slot))
  ∧ (∀ (t : Nat) (b : Blocks) (o : BusOrder) (e : EngineTag) (out : OrderOutcome) (given : List (List Byte)) (l : Link),
    o.purpose = .engine e → b.link e.link = some l →
    let c := Blocks.engineOutcome t b o e out given
    let attaches := (o.code = .attach ∨ o.code = .activate) ∧ out = .done ∧ e.opened = false
      ∧ ((l.endpoint e.lend).slot = o.slot ∨ (l.endpoint e.lend).home = some o.slot)
    let detaches := (o.code ∈ [OrderCode.attach, .activate, .survey] ∧ out = .fresh)
      ∨ (o.code = .detach ∧ out ≠ .noAnswer)
    (o.code ≠ .survey ∨ out ≠ .done → (∀ f, b.entry e.link = some f → f.step = .survey → o.code = .survey) →
        ∃ m, c.link e.link = some m
          ∧ (attaches → m.attached e.lend = true) ∧ (detaches → m.attached e.lend = false)
          ∧ (¬attaches → ¬detaches → m.attached e.lend = l.attached e.lend)
          ∧ (∀ other, other ≠ e.lend → m.attached other = l.attached other)
          ∧ m.epA = l.epA ∧ m.epB = l.epB)
    ∧ (∀ k, k ≠ e.link → c.link k = b.link k)
    ∧ c.reg = b.reg ∧ c.power = b.power
    ∧ (e.current = false ∨ b.entry e.link = none →
        (o.code = .survey → out ≠ .fresh → c = b)
        ∧ (∃ m, c.link e.link = some m ∧ m.state = l.state)
        ∧ c.engine = { b.engine with backlog := c.engine.backlog } ∧ c.bus = b.bus ∧ c.ep = b.ep ∧ c.raised = b.raised))
  ∧ ∀ (t : Nat) (b : Blocks) (o : BusOrder) (e : EngineTag) (given : List (List Byte)) (l : Link) (f : InFlight),
    o.purpose = .engine e → e.current = true → b.link e.link = some l → b.entry e.link = some f → l.removal = false →
    let id := e.link
    let c := fun out => Blocks.deliver t b o out given
    let ends := fun (out : OrderOutcome) (x : LinkEnd) =>
      if x = e.lend then some out else match x with | .a => f.outA | .b => f.outB
    let answer := (given.head?.bind readAttachment).getD none
    let record := fun (x : LinkEnd) =>
      if x = e.lend then some answer else match x with | .a => f.recA | .b => f.recB
    let agrees := fun (x : LinkEnd) => ∃ a, record x = some (some a) ∧ a.active = true
      ∧ (b.engine.mask.hset = true → a.hset = l.hset) ∧ (b.engine.mask.index = true → a.index = l.index)
      ∧ (b.engine.mask.role = true → a.role = x) ∧ (b.engine.mask.tag = true → a.tag = l.id)
    let away := fun (b' : Blocks) => b'.entry id = none ∧ ∀ x ∈ b'.engine.backlog, x.forLink id = false
    (o.code = .survey → f.step = .survey → ∀ other, other ≠ e.lend →
        (ends .done other = some .done → agrees e.lend → agrees other →
            (∃ m, (c .done).link id = some m ∧ m.state = .carried ∧ m.attA = true ∧ m.attB = true)
            ∧ away (c .done) ∧ id ∉ (c .done).engine.queue ∧ (c .done).ep = b.ep.modOpen Episode.countVerified)
        ∧ (ends .done other = some .refused ∨ (ends .done other = some .done ∧ ¬(agrees e.lend ∧ agrees other)) →
            (∃ m, (c .done).link id = some m ∧ m.state = .pending ∧ m.attA = l.attA ∧ m.attB = l.attB)
            ∧ away (c .done) ∧ (c .done).engine.queue = b.engine.queue ∧ (c .done).ep = b.ep)
        ∧ (ends .refused other = some .done ∨ ends .refused other = some .refused →
            (∃ m, (c .refused).link id = some m ∧ m.state = .pending ∧ m.attA = l.attA ∧ m.attB = l.attB)
            ∧ away (c .refused) ∧ (c .refused).engine.queue = b.engine.queue ∧ (c .refused).ep = b.ep)
        ∧ (ends .done other = none ∨ ends .done other = some .fresh ∨ ends .done other = some .noAnswer →
            ∃ m, (c .done).link id = some m ∧ m.state = l.state ∧ (c .done).entry id ≠ none))
    ∧ (o.code = .attach → f.step = .attach → f.refused = false → ∀ other, other ≠ e.lend →
        ends .done other = some .done →
        ∃ m, (c .done).link id = some m ∧ m.state = .ready ∧ ((c .done).entry id).map InFlight.step = some .idle)
    ∧ (o.code = .activate → f.refused = false →
        (f.step = .activateA → e.lend = .a →
            ((c .done).entry id).map InFlight.step = some .activateB
            ∧ ∃ x, (c .done).engine.backlog = b.engine.backlog ++ [x] ∧ x.code = .activate ∧ x.slot = l.epB.slot
                ∧ x.first = l.epB.port.val
                ∧ x.purpose = .engine { link := l.id, lend := .b, current := true, opened := false })
        ∧ (f.step = .activateB → e.lend = .b →
            (∃ m, (c .done).link id = some m ∧ m.state = .carried) ∧ away (c .done) ∧ id ∉ (c .done).engine.queue
            ∧ (f.origin = .queue →
                (c .done).ep = b.ep.modOpen (fun r => { r with
                  firstActivation := some (r.firstActivation.getD t), inOrder := min (r.inOrder + 1) 65535 })
                ∧ (b.ep.isOpen = true → (c .done).raised = b.raised)
                ∧ (b.ep.isOpen = false → (c .done).raised = b.raised ++ [.link .carried id l.cls none]))
            ∧ (f.origin = .deferred →
                (c .done).ep = b.ep.modOpen (fun r => { r with
                  firstActivation := some (r.firstActivation.getD t), late := min (r.late + 1) 65535 })
                ∧ (c .done).raised = b.raised ++ [.link .late id l.cls none])))
    ∧ (o.code = .attach ∨ o.code = .activate → f.step ≠ .survey →
        ((c .refused).entry id).map InFlight.refused = some true ∧ (∀ x ∈ (c .refused).engine.backlog, x.forLink id = false)
        ∧ ∃ m, (c .refused).link id = some m ∧ m.state = l.state)

/-! ### Slots and power -/

/-- R91, R83: a rising attention line of a LIVE slot sets attention pending and an IDENTIFY is wanted; one that is already
pending, or of a slot in any other state, changes nothing. An order for the slot then stands, the IDENTIFY where none was
outstanding, unless the emptied in-flight set of a SETTLING shelf brings the freeze in that event (R51, R54). R83, R150: what
a change of a slot's state does to its outstanding order: one on the bus is abandoned and carried to its end; one that is
not is withdrawn, leaves the registry queue with the orders behind it in their order, and, if it was the head, takes the
head's attempt count back to 0; then the record is in the new state, with what R78 and R79 leave present in it, and a STATE
notice is raised. That a change of state keeps attention pending (log 16, DEDUCED, unsafe), that an abandoned order that waits
between two attempts is withdrawn by the next change of state (log 28, DEDUCED, unsafe), and that a CLEAR abandoned or
withdrawn is not wanted again by it (log 34, DESIGN CHOICE, unsafe), are the model's. -/
def Obligations.AttentionOfALiveSlotIsPending : Prop :=
  (∀ (b : Blocks) (i : SlotId),
    let c := b.abandonOrder i
    let head := ∃ o, b.bus.registryQueue.head? = some o ∧ o.slot = i
    let carried := head ∧ ∃ tr, b.bus.transfer = some tr ∧ tr.requester = .registry ∧ tr.phase ≠ .release .cut
    ((b.slot i).order = none → c = b)
    ∧ ∀ o, (b.slot i).order = some o →
      (∀ j, j ≠ i → c.slot j = b.slot j)
      ∧ (carried → c = { b with reg := c.reg } ∧ c.reg.ports = b.reg.ports
          ∧ c.slot i = { b.slot i with order := some { o with abandoned := true } })
      ∧ (¬carried → c = { b with reg := c.reg, bus := { b.bus with
              registryQueue := b.bus.registryQueue.filter (fun x => x.slot != i)
              registryAttempts := c.bus.registryAttempts } } ∧ c.reg.ports = b.reg.ports
          ∧ (head → c.bus.registryAttempts = 0) ∧ (¬head → c.bus.registryAttempts = b.bus.registryAttempts)
          ∧ c.slot i = { b.slot i with order := none }))
  ∧ (∀ (b : Blocks) (i : SlotId) (st : SlotState),
    let c := b.changeState i st
    let r := (b.abandonOrder i).slot i
    let powered := st ∈ [SlotState.ramping, .held, .identifying, .loading, .live]
    ((b.slot i).state = st → c = b)
    ∧ ((b.slot i).state ≠ st →
        c = { b with reg := c.reg, bus := (b.abandonOrder i).bus
                     raised := b.raised ++ [.slotState i (b.slot i).state st (c.slot i).lostReason] }
        ∧ c.reg.ports = b.reg.ports ∧ (∀ j, j ≠ i → c.slot j = b.slot j)
        ∧ c.slot i = { r with
            state := st
            lostReason := if st = .lost then r.lostReason else none
            latestId := if powered ∧ st ≠ .held then r.latestId else none
            identity := if powered then r.identity else none
            deadline := if st ∈ [SlotState.ramping, .identifying, .loading] then r.deadline else none
            loading := if st = .loading then r.loading else none
            readBuffer := if st = .loading then r.readBuffer else [] }))
  ∧ ∀ (s : State) (i : SlotId), s.Awake →
    ((s.blk.slot i).state ≠ .live ∨ (s.blk.slot i).attention = true → exec (.attentionRise i) s = .next s)
    ∧ ((s.blk.slot i).state = .live → (s.blk.slot i).attention = false → ∃ t, exec (.attentionRise i) s = .next t
        ∧ t = s.event (fun b => b.modSlot i (fun r => { r with attention := true }))
        ∧ (t.blk.slot i).attention = true
        ∧ (s.blk.ep.shelf ≠ .settling
            ∨ (∃ id f l, s.blk.entry id = some f ∧ s.blk.link id = some l ∧ f.refused = false ∧ l.removal = false
                ∧ (l.state = .verifying ∨ l.state = .preparing ∨ l.state = .activating)) →
            (t.blk.slot i).order =
              some ((s.blk.slot i).order.getD { code := .identify, abandoned := false })
            ∧ ((s.blk.slot i).order = none → ∃ o ∈ t.blk.bus.registryQueue, o.slot = i ∧ o.code = .identify
                ∧ o.first = 0 ∧ o.count = 1 ∧ o.send = []))
        ∧ t.feed = s.feed ∧ t.time = s.time ∧ t.pending = s.pending)

/-- R110: the spare t can cover the slot i, lost for the reason: the slot is planned WORKING with cover enabled and not
retired, and the lowest slot planned SPARE has the same card type, is LIVE, holds nothing, and has no link's end on it. -/
def Coverable (b : Blocks) (i : SlotId) (reason : LossReason) (t : SlotId) : Prop :=
  ∃ p q, (b.slot i).plan = some p ∧ p.role = .working ∧ p.coverEnabled = true ∧ reason ≠ .retired
    ∧ (b.slot t).plan = some q ∧ q.role = .spare ∧ q.cardType = p.cardType
    ∧ (∀ u, u < t → ∀ r, (b.slot u).plan = some r → r.role = .working)
    ∧ (b.slot t).state = .live ∧ (b.slot t).coveredSlot = none
    ∧ ∀ l ∈ b.store.links, l.epA.slot ≠ t ∧ l.epB.slot ≠ t

/-- R110, R111: the second blocks stand after the loss of slot i of the first, covered by the spare t: the slot is COVERED
with the reason, the spare holds it with a cover load of 0 runs and an empty write set, and two notices are raised. Every end
on the slot is remapped to the spare, detached if its switch was closed; and a link with that home that was CARRIED, SUSPECT
or in flight is PENDING, or RELEASING where its removal was requested in flight. -/
def CoverTaken (b c : Blocks) (i : SlotId) (reason : LossReason) (t : SlotId) : Prop :=
  let moved := fun (e : Endpoint) => if e.slot = i then { slot := t, port := e.port, home := some i } else e
  (c.slot i).state = .covered ∧ (c.slot i).coverReason = some reason ∧ (c.slot i).lostReason = none
    ∧ c.slot t = { b.slot t with coveredSlot := some i, coverLoad := some { runs := 0, done := false }, writeSet := [] }
    ∧ (∀ j, j ≠ i → j ≠ t → c.slot j = b.slot j)
    ∧ c.raised = b.raised ++ [.slotState i (b.slot i).state .lost (some reason), .slotState i .lost .covered none]
    ∧ c.ep = (b.ep.modOpen Episode.countSlotLost).modOpen Episode.countSlotCovered
    ∧ (b.store.Law → ∀ k l, b.link k = some l → ∃ m, c.link k = some m
        ∧ (m.cls, m.seq, m.hset, m.index, m.late, m.removal) = (l.cls, l.seq, l.hset, l.index, l.late, l.removal)
        ∧ m.epA = moved l.epA ∧ m.epB = moved l.epB
        ∧ m.attA = (l.attA && !((b.powerRec i).closed && l.epA.slot == i))
        ∧ m.attB = (l.attB && !((b.powerRec i).closed && l.epB.slot == i))
        ∧ (let homed := m.epA.home = some i ∨ m.epB.home = some i
           (homed → l.state.flying = true → l.removal = true → m.state = .releasing)
           ∧ (homed → l.state = .carried ∨ (l.state.flying = true ∧ l.removal = false) →
                m.state = .pending ∧ k ∈ c.engine.queue)
           ∧ (homed → l.state = .suspect → m.state = .pending)
           ∧ (homed → l.state.flying = true → c.entry k = none)
           ∧ (¬homed ∨ l.state = .pending ∨ l.state = .deferred ∨ l.state = .releasing → m.state = l.state)))

/-- R46, R90: the second blocks stand after the loss of slot i of the first without cover: the slot is LOST with the reason,
the ends on it are detached, and every link with an end on it that was not RELEASING is RELEASING, in no collection, counted
and noticed as DROPPED. -/
def LossUncovered (b c : Blocks) (i : SlotId) (reason : LossReason) : Prop :=
  let dropped := b.store.links.filter (fun l => (l.epA.slot == i || l.epB.slot == i) && l.state != .releasing)
  (c.slot i).state = .lost ∧ (c.slot i).lostReason = some reason ∧ (∀ j, j ≠ i → c.slot j = b.slot j)
    ∧ (b.store.Law →
        c.raised = b.raised ++ .slotState i (b.slot i).state .lost (some reason)
            :: dropped.map (fun l => .link .dropped l.id l.cls none)
        ∧ c.ep = dropped.foldl (fun ep _ => ep.modOpen Episode.countDropped) (b.ep.modOpen Episode.countSlotLost)
        ∧ ∀ k l, b.link k = some l →
            let m := { l with attA := l.attA && l.epA.slot != i, attB := l.attB && l.epB.slot != i }
            (l ∈ dropped → c.link k = some { m with state := .releasing, deferral := none } ∧ c.entry k = none
                ∧ k ∉ c.engine.queue ∧ k ∉ c.engine.deferred)
            ∧ (l ∉ dropped → c.link k = some m))

/-- R115, R46, R44: the second blocks stand after the loss of spare i of the first, which held slot s: the spare is LOST with
the reason and holds nothing. A held slot on its way back keeps its state, its mark and cover reason gone; any other is LOST
with the same reason, counted and noticed where it enters LOST. The ends on the spare are detached, and every link with an end
on it that was not RELEASING is RELEASING, in no collection, counted and noticed as DROPPED. -/
def SpareLost (b c : Blocks) (i s : SlotId) (reason : LossReason) : Prop :=
  let r := b.slot s
  let enters := r.revertMark = false ∧ r.state ≠ .lost
  let dropped := b.store.links.filter (fun l => (l.epA.slot == i || l.epB.slot == i) && l.state != .releasing)
  let drops := dropped.map (fun l => Event.link .dropped l.id l.cls none)
  let dropAll := fun (ep : EpisodeController) => dropped.foldl (fun ep _ => ep.modOpen Episode.countDropped) ep
  let spareEntry := Event.slotState i (b.slot i).state .lost (some reason)
  let counted := b.ep.modOpen Episode.countSlotLost
  (c.slot i).state = .lost ∧ (c.slot i).lostReason = some reason ∧ (c.slot i).coveredSlot = none
    ∧ (c.slot i).coverLoad = none ∧ (c.slot i).writeSet = [] ∧ (c.slot i).clearWanted = false
    ∧ (∀ j, j ≠ i → j ≠ s → c.slot j = b.slot j)
    ∧ (r.revertMark = true → c.slot s = { r with revertMark := false, coverReason := none })
    ∧ (r.revertMark = false → (c.slot s).state = .lost ∧ (c.slot s).lostReason = some reason
        ∧ (c.slot s).coverReason = none ∧ (c.slot s).revertMark = false)
    ∧ (b.store.Law →
        (enters → c.raised = b.raised ++ spareEntry :: .slotState s r.state .lost (some reason) :: drops
          ∧ c.ep = dropAll (counted.modOpen Episode.countSlotLost))
        ∧ (¬enters → c.raised = b.raised ++ spareEntry :: drops ∧ c.ep = dropAll counted)
        ∧ ∀ k l, b.link k = some l →
            let m := { l with attA := l.attA && l.epA.slot != i, attB := l.attB && l.epB.slot != i }
            (l ∈ dropped → c.link k = some { m with state := .releasing, deferral := none } ∧ c.entry k = none
                ∧ k ∉ c.engine.queue ∧ k ∉ c.engine.deferred)
            ∧ (l ∉ dropped → c.link k = some m))

/-- R88 to R90, R110: the expiry of a running return deadline loses the slot with reason LATE, unless the spare covers it:
its switch is open, its charge 0 and its timers stopped, and it is out of the admission queue. That an open switch has
charge 0 (R136) is part of the slot law below. R46, R110, R111: what a loss for any reason does where the slot neither
reverts nor holds another: cover is taken exactly where the spare can cover it, and otherwise its links are dropped. R115: what
the loss of a spare that holds a slot does. The order of the notices of a loss, LOST first, then COVERED or the LOST of the
held slot (log 36), then DROPPED lowest id first (log 26), is the model's choice (DESIGN CHOICE, unsafe): R169 leaves it open.
R112: the cover load of a LIVE spare is done once its last run has completed, its write set is empty and no write is outstanding; this
is judged at the start of what every event judges, so that the relink engine, judged next, finds it done (the order is log
6, and that of the grant log 9, DESIGN CHOICE, unsafe). -/
def Obligations.ReturnDeadlineLosesTheSlot : Prop :=
  (∀ (b : Blocks) (i : SlotId) (reason : LossReason), (b.slot i).state ≠ .lost → (b.slot i).coveredSlot = none →
    (b.slot i).revertMark = false →
    (∀ t, Coverable b i reason t → CoverTaken b (b.lose i reason) i reason t)
    ∧ ((∀ t, ¬Coverable b i reason t) → LossUncovered b (b.lose i reason) i reason))
  ∧ (∀ (b : Blocks) (i s : SlotId) (reason : LossReason), (b.slot i).state ≠ .lost → (b.slot i).coveredSlot = some s →
    s ≠ i → SpareLost b (b.lose i reason) i s reason)
  ∧ (∀ (b : Blocks) (i : SlotId),
    let r := b.slot i
    let ends := fun cl => r.state = .live ∧ r.coverLoad = some cl ∧ cl.done = false ∧ r.writeSet = []
      ∧ (∀ o, r.order = some o → o.code ≠ .writePorts)
      ∧ ∃ s p, r.coveredSlot = some s ∧ (b.slot s).plan = some p ∧ p.portCount ≤ 8 * cl.runs
    (∀ cl, ends cl → b.finishCoverLoad i = b.modSlot i (fun r => { r with coverLoad := some { cl with done := true } }))
    ∧ ((∀ s, r.coveredSlot = some s → (b.slot s).plan.isSome = true) → (∀ cl, ¬ends cl) → b.finishCoverLoad i = b))
  ∧ (∀ (t : Nat) (b : Blocks), Blocks.settle t b =
      let c := Blocks.judgeEngine t ((List.finRange 16).foldl Blocks.finishCoverLoad b)
      ((Blocks.judgeClose t (Blocks.judgeSettled t c.standDown).judgeAdmission).placeRegistry).placeBacklog.grant)
  ∧ ∀ (s : State) (i : SlotId), s.Awake →
    (¬((s.blk.slot i).deadline.isSome = true ∧ (s.blk.slot i).state.timed = true) →
        exec (.returnDeadlineExpiry i) s = .next s)
    ∧ ((s.blk.slot i).deadline.isSome = true → (s.blk.slot i).state.timed = true →
        ((s.blk.powerRec i).closed = false → (s.blk.powerRec i).charge = 0) →
        ∃ t, exec (.returnDeadlineExpiry i) s = .next t ∧ t = s.event (fun b => b.lose i .late)
        ∧ (((t.blk.slot i).state = .lost ∧ (t.blk.slot i).lostReason = some .late)
            ∨ ((t.blk.slot i).state = .covered ∧ (t.blk.slot i).coverReason = some .late))
        ∧ (t.blk.slot i).deadline = none
        ∧ t.blk.powerRec i = { closed := false, charge := 0, ramp := none, dark := none, trips := (s.blk.powerRec i).trips }
        ∧ i ∉ t.blk.power.queue ∧ t.feed = s.feed ∧ t.time = s.time ∧ t.pending = s.pending)

/-- R142, R82: the expiry of a running ramp timer: the charge falls to the plan's steady, the timer stops, and the
registry makes a RAMPING slot HELD in HOLDUP and IDENTIFYING otherwise. R144, R81: the expiry of a running dark timer: the
timer stops, the slot joins the admission queue, and the registry makes a DARK slot QUEUED; then the queue is judged. An
expiry of a timer that does not run is none (log 4). -/
def Obligations.RampAndDarkTimersMoveTheSlot : Prop :=
  (∀ (s : State) (i : SlotId), s.Awake →
    ((s.blk.powerRec i).ramp = none → exec (.rampTimerExpiry i) s = .next s)
    ∧ ((s.blk.powerRec i).ramp.isSome = true → exec (.rampTimerExpiry i) s = .next (s.event (Blocks.rampExpired i))
        ∧ (∀ b : Blocks,
            let c := Blocks.rampExpired i b
            c.powerRec i = { b.powerRec i with ramp := none, charge := ((b.slot i).plan.map Plan.steady).getD 0 }
            ∧ (∀ j, j ≠ i → c.powerRec j = b.powerRec j)
            ∧ (c.slot i).state = (if (b.slot i).state ≠ .ramping then (b.slot i).state
                else if b.ep.shelf = .holdup then .held else .identifying)
            ∧ (∀ j, j ≠ i → c.slot j = b.slot j)
            ∧ c.power.queue = b.power.queue ∧ c.store = b.store ∧ c.engine = b.engine ∧ c.ep = b.ep)))
  ∧ ∀ (s : State) (i : SlotId), s.Awake →
    ((s.blk.powerRec i).dark = none → exec (.darkTimerExpiry i) s = .next s)
    ∧ ((s.blk.powerRec i).dark.isSome = true → exec (.darkTimerExpiry i) s = .next (s.event (Blocks.darkExpired i))
        ∧ (∀ b : Blocks,
            let c := Blocks.darkExpired i b
            c.powerRec i = { b.powerRec i with dark := none } ∧ (∀ j, j ≠ i → c.powerRec j = b.powerRec j)
            ∧ i ∈ c.power.queue ∧ (∀ j, j ≠ i → (j ∈ c.power.queue ↔ j ∈ b.power.queue))
            ∧ (c.slot i).state = (if (b.slot i).state = .dark then .queued else (b.slot i).state)
            ∧ (∀ j, j ≠ i → c.slot j = b.slot j)
            ∧ c.store = b.store ∧ c.engine = b.engine ∧ c.ep = b.ep))

/-- R145, R90, R110: a trip of a CLOSED switch: the switch is open, the charge 0, the ramp stopped, the trip count one
higher up to 255, and the slot is LOST with reason POWER_FAULT, unless the spare covers it; a trip of an open switch is
disregarded. -/
def Obligations.TripOpensTheSwitch : Prop :=
  ∀ (s : State) (i : SlotId), s.Awake →
    ((s.blk.powerRec i).closed = false → exec (.switchTrip i) s = .next s)
    ∧ ((s.blk.powerRec i).closed = true → ∃ t, exec (.switchTrip i) s = .next t ∧ t = s.event (Blocks.tripped i)
        ∧ t.blk.powerRec i = { closed := false, charge := 0, ramp := none, dark := none,
                               trips := min ((s.blk.powerRec i).trips + 1) 255 }
        ∧ (((t.blk.slot i).state = .lost ∧ (t.blk.slot i).lostReason = some .powerFault)
            ∨ ((t.blk.slot i).state = .covered ∧ (t.blk.slot i).coverReason = some .powerFault))
        ∧ i ∉ t.blk.power.queue ∧ t.feed = s.feed ∧ t.time = s.time ∧ t.pending = s.pending)

/-- R138, R139: the head of the admission queue, and it alone, is admitted exactly while the supply is UP as reported, the
shelf is not in HOLDUP, and the admitted load with its inrush is within the budget as reported; an admission closes the
switch at the plan's inrush, starts the ramp, and makes a QUEUED slot RAMPING with its return deadline started (R140, R81).
The queue is judged until its head is not admitted. That the queue is in order and holds a slot once is part of the slot law
below. -/
def Obligations.AdmissionKeepsToTheBudget : Prop :=
  ∀ b : Blocks,
    (∀ i, b.admissible = some i → ∃ p rest, b.power.queue = i :: rest ∧ (b.slot i).plan = some p ∧ b.power.supply = .up
        ∧ b.ep.shelf ≠ .holdup ∧ b.power.load + p.inrush ≤ b.power.budget
        ∧ (b.admitSlot i).powerRec i =
            { b.powerRec i with closed := true, charge := p.inrush, ramp := some p.rampTime }
        ∧ i ∉ (b.admitSlot i).power.queue ∧ (∀ j, j ≠ i → (b.admitSlot i).powerRec j = b.powerRec j))
    ∧ (∀ i rest p, b.power.queue = i :: rest → (b.slot i).plan = some p → b.power.supply = .up → b.ep.shelf ≠ .holdup →
        b.power.load + p.inrush ≤ b.power.budget →
        b.admissible = some i
        ∧ (i ∉ rest → (b.admitSlot i).power.queue = rest)
        ∧ ((b.slot i).state = .queued → ((b.admitSlot i).slot i).state = .ramping
            ∧ ((b.admitSlot i).slot i).deadline = some (p.returnDeadline * 1000)))
    ∧ (b.power.queue.length ≤ 16 → b.judgeAdmission.admissible = none)
    ∧ (b.admissible = none → b.judgeAdmission = b)
    ∧ b.judgeAdmission.power.supply = b.power.supply ∧ b.judgeAdmission.power.budget = b.power.budget

/-! ### What the commands leave alone -/

/-- R146: the trip count of a slot is changed by a trip of its closed switch alone, by one and up to 255, and by a reset;
it is read in GET SLOT. A trip makes its slot LOST, and the registry raises the STATE notice of that entry, with POWER_FAULT;
that it is the first notice the trip raises is the model's choice (log 36, DESIGN CHOICE, unsafe). -/
def Obligations.TripCountIsChangedByTripsAlone : Prop :=
  (∀ (s t : State) (c : Instr) (i : SlotId), exec c s = .next t → c ≠ .deviceReset → c ≠ .resetRelease →
    (c = .frameSent → t ≠ s.resetAll) →
    (t.blk.powerRec i).trips =
      if c = .switchTrip i ∧ (s.blk.powerRec i).closed = true ∧ s.resetHeld = false then
        min ((s.blk.powerRec i).trips + 1) 255
      else (s.blk.powerRec i).trips)
  ∧ (∀ s : State, ∀ i, (s.resetAll.blk.powerRec i).trips = 0)
  ∧ ∀ (b : Blocks) (i : SlotId), (b.slotFields i).getLast? = some (byte (b.powerRec i).trips)
    ∧ ((b.slot i).state ≠ .lost → ∃ more, (Blocks.tripped i b).raised
        = b.raised ++ .slotState i (b.slot i).state .lost (some .powerFault) :: more)

/-- R122, R127, R132, R133: the feed monitor is moved by samples, the arm timer, the two requests that set it, and the
resets, and by nothing else. -/
def Obligations.FeedMonitorIsMovedByItsOwnAlone : Prop :=
  ∀ (s t : State) (c : Instr), exec c s = .next t → c.wellFormed = true → isResetPin c = false →
    (∀ id v, c ≠ .feedSample id v) → c ≠ .armTimerExpiry → (∀ tag body, c ≠ .setFeeds tag body) →
    (∀ tag body, c ≠ .setBudget tag body) → (∀ ch, c ≠ .characterReceived ch) → c ≠ .frameSent → t.feed = s.feed

/-- R168, R95, R74, R18, R19, R107: the six queries change nothing: in whatever state they come, every block, the monitor
and the time counter stay as they were. -/
def Obligations.QueriesChangeNothing : Prop :=
  ∀ (s t : State) (c : Instr) (tag : Byte) (body : List Byte), s.Quiet →
    c ∈ [Instr.getShelf tag body, .getSlot tag body, .getEpisode tag body, .getLink tag body, .findLinks tag body,
         .getPort tag body] →
    exec c s = .next t → t.blk = s.blk ∧ t.feed = s.feed ∧ t.time = s.time ∧ t.port.mask = s.port.mask
      ∧ t.port.notices = s.port.notices

/-- Every command answers a next state, leaves the commands that wait behind it, and leaves the time counter unless it
brings a reset: time passes on an empty queue alone (log 2). -/
def Obligations.CommandsTakeNoTime : Prop :=
  ∀ (s : State) (c : Instr), ∃ t, exec c s = .next t ∧ t.pending = s.pending ∧ (t.time = s.time ∨ t.time = 0)
    ∧ (isResetPin c = false → c ≠ .frameSent → t.time = s.time ∧ t.resetHeld = s.resetHeld)

/-! ### The laws -/

/-- The laws hold right after reset. -/
def Obligations.LawsHoldAtReset : Prop := State.reset.Lawful

/-- R121, R123, R125, R127, R129, R130, law 10; and R48, R60, R73, law 12. -/
def Obligations.EveryStepKeepsTheFeedAndEpisodeLaws : Prop :=
  KeptByStep (fun s => s.feed.Law) ∧ KeptByStep (fun s => s.blk.ep.Law)

/-- R1, R5 to R10, laws 2 and 5. -/
def Obligations.EveryStepKeepsTheLinkStoreLaw : Prop := KeptByStep (fun s => s.blk.store.Law)

/-- R20 to R24, laws 4, 5 and 7. -/
def Obligations.EveryStepKeepsTheRelinkLaw : Prop := KeptByStep (fun s => s.blk.store.Law ∧ s.blk.RelinkLaw)

/-- R12, R14, law 1. -/
def Obligations.EveryStepKeepsTheEndpointLaw : Prop := KeptByStep (fun s => s.blk.EndpointLaw)

/-- R109, R113, R136, R137, law 11. -/
def Obligations.EveryStepKeepsTheSlotLaw : Prop := KeptByStep (fun s => s.blk.SlotLaw)

/-- R130, R133, R136, law 3. -/
def Obligations.EveryStepKeepsTheLoadLaw : Prop := KeptByStep (fun s => s.blk.SlotLaw ∧ s.LoadLaw)

/-- R25, R40, R90, law 8. -/
def Obligations.EveryStepKeepsTheOccupancyLaw : Prop :=
  KeptByStep (fun s => s.blk.store.Law ∧ s.blk.RelinkLaw ∧ s.blk.SlotLaw ∧ s.blk.OccupancyLaw)

/-- R86, law 9. -/
def Obligations.EveryStepKeepsTheTermLaw : Prop := KeptByStep (fun s => s.blk.TermLaw)

/-- R163, R165, R170, R171: the port; R151: the grant; and the blocks have told the port everything. -/
def Obligations.EveryStepKeepsThePortLaw : Prop :=
  KeptByStep (fun s => s.port.Law) ∧ KeptByStep (fun s => s.blk.bus.Law) ∧ KeptByStep State.Quiet
end

