-- ==== Sys2Proof/Laws/Frames.lean ====
section
/-! SUPPORT. What each shared operation leaves alone: of the eight parts of the blocks, those an operation does not
change, once for each operation. Later proofs cite these and do not unfold the operations. -/

namespace Sys2Proof.Machine

/-- A fold whose every step keeps a value keeps it. -/
theorem foldl_keeps {α β γ : Type} {f : β → α → β} (g : β → γ) (h : ∀ b a, g (f b a) = g b) (l : List α) (b : β) :
    g (l.foldl f b) = g b := by
  induction l generalizing b with
  | nil => rfl
  | cons a l ih => rw [List.foldl_cons, ih, h]

@[simp] theorem Blocks.modSlot_frame (b : Blocks) (i : SlotId) (f : SlotRec → SlotRec) :
    (b.modSlot i f).power = b.power ∧ (b.modSlot i f).bus = b.bus ∧ (b.modSlot i f).store = b.store ∧
      (b.modSlot i f).engine = b.engine ∧ (b.modSlot i f).ep = b.ep ∧ (b.modSlot i f).raised = b.raised ∧
      (b.modSlot i f).passOutcome = b.passOutcome :=
  ⟨rfl, rfl, rfl, rfl, rfl, rfl, rfl⟩

@[simp] theorem Blocks.modPort_frame (b : Blocks) (i : SlotId) (p : Fin 32) (f : PortRec → PortRec) :
    (b.modPort i p f).power = b.power ∧ (b.modPort i p f).bus = b.bus ∧ (b.modPort i p f).store = b.store ∧
      (b.modPort i p f).engine = b.engine ∧ (b.modPort i p f).ep = b.ep ∧ (b.modPort i p f).raised = b.raised ∧
      (b.modPort i p f).passOutcome = b.passOutcome :=
  ⟨rfl, rfl, rfl, rfl, rfl, rfl, rfl⟩

@[simp] theorem Blocks.modPower_frame (b : Blocks) (i : SlotId) (f : PowerRec → PowerRec) :
    (b.modPower i f).reg = b.reg ∧ (b.modPower i f).bus = b.bus ∧ (b.modPower i f).store = b.store ∧
      (b.modPower i f).engine = b.engine ∧ (b.modPower i f).ep = b.ep ∧ (b.modPower i f).raised = b.raised ∧
      (b.modPower i f).passOutcome = b.passOutcome :=
  ⟨rfl, rfl, rfl, rfl, rfl, rfl, rfl⟩

@[simp] theorem Blocks.tally_frame (b : Blocks) (f : Episode → Episode) :
    (b.tally f).reg = b.reg ∧ (b.tally f).power = b.power ∧ (b.tally f).bus = b.bus ∧ (b.tally f).store = b.store ∧
      (b.tally f).engine = b.engine ∧ (b.tally f).raised = b.raised ∧ (b.tally f).passOutcome = b.passOutcome :=
  ⟨rfl, rfl, rfl, rfl, rfl, rfl, rfl⟩

@[simp] theorem Blocks.raise_frame (b : Blocks) (e : Event) :
    (b.raise e).reg = b.reg ∧ (b.raise e).power = b.power ∧ (b.raise e).bus = b.bus ∧ (b.raise e).store = b.store ∧
      (b.raise e).engine = b.engine ∧ (b.raise e).ep = b.ep ∧ (b.raise e).passOutcome = b.passOutcome :=
  ⟨rfl, rfl, rfl, rfl, rfl, rfl, rfl⟩

@[simp] theorem Blocks.mapLinks_frame (b : Blocks) (f : Link → Link) :
    (b.mapLinks f).reg = b.reg ∧ (b.mapLinks f).power = b.power ∧ (b.mapLinks f).bus = b.bus ∧
      (b.mapLinks f).engine = b.engine ∧ (b.mapLinks f).ep = b.ep ∧ (b.mapLinks f).raised = b.raised ∧
      (b.mapLinks f).passOutcome = b.passOutcome :=
  ⟨rfl, rfl, rfl, rfl, rfl, rfl, rfl⟩

@[simp] theorem Blocks.modLink_frame (b : Blocks) (id : Nat) (f : Link → Link) :
    (b.modLink id f).reg = b.reg ∧ (b.modLink id f).power = b.power ∧ (b.modLink id f).bus = b.bus ∧
      (b.modLink id f).engine = b.engine ∧ (b.modLink id f).ep = b.ep ∧ (b.modLink id f).raised = b.raised ∧
      (b.modLink id f).passOutcome = b.passOutcome :=
  ⟨rfl, rfl, rfl, rfl, rfl, rfl, rfl⟩

@[simp] theorem Blocks.remapLinks_frame (b : Blocks) (i j : SlotId) :
    (b.remapLinks i j).reg = b.reg ∧ (b.remapLinks i j).power = b.power ∧ (b.remapLinks i j).bus = b.bus ∧
      (b.remapLinks i j).engine = b.engine ∧ (b.remapLinks i j).ep = b.ep ∧ (b.remapLinks i j).raised = b.raised ∧
      (b.remapLinks i j).passOutcome = b.passOutcome :=
  ⟨rfl, rfl, rfl, rfl, rfl, rfl, rfl⟩

@[simp] theorem Blocks.restoreLinks_frame (b : Blocks) (i : SlotId) :
    (b.restoreLinks i).reg = b.reg ∧ (b.restoreLinks i).power = b.power ∧ (b.restoreLinks i).bus = b.bus ∧
      (b.restoreLinks i).engine = b.engine ∧ (b.restoreLinks i).ep = b.ep ∧ (b.restoreLinks i).raised = b.raised ∧
      (b.restoreLinks i).passOutcome = b.passOutcome :=
  ⟨rfl, rfl, rfl, rfl, rfl, rfl, rfl⟩

@[simp] theorem Blocks.modEntry_frame (b : Blocks) (id : Nat) (g : InFlight → InFlight) :
    (b.modEntry id g).reg = b.reg ∧ (b.modEntry id g).power = b.power ∧ (b.modEntry id g).bus = b.bus ∧
      (b.modEntry id g).store = b.store ∧ (b.modEntry id g).ep = b.ep ∧ (b.modEntry id g).raised = b.raised ∧
      (b.modEntry id g).passOutcome = b.passOutcome :=
  ⟨rfl, rfl, rfl, rfl, rfl, rfl, rfl⟩

@[simp] theorem Blocks.putBacklog_frame (b : Blocks) (os : List BusOrder) :
    (b.putBacklog os).reg = b.reg ∧ (b.putBacklog os).power = b.power ∧ (b.putBacklog os).bus = b.bus ∧
      (b.putBacklog os).store = b.store ∧ (b.putBacklog os).ep = b.ep ∧ (b.putBacklog os).raised = b.raised ∧
      (b.putBacklog os).passOutcome = b.passOutcome :=
  ⟨rfl, rfl, rfl, rfl, rfl, rfl, rfl⟩

@[simp] theorem Blocks.filterBacklog_frame (b : Blocks) (k : BusOrder → Bool) :
    (b.filterBacklog k).reg = b.reg ∧ (b.filterBacklog k).power = b.power ∧ (b.filterBacklog k).bus = b.bus ∧
      (b.filterBacklog k).store = b.store ∧ (b.filterBacklog k).ep = b.ep ∧ (b.filterBacklog k).raised = b.raised ∧
      (b.filterBacklog k).passOutcome = b.passOutcome :=
  ⟨rfl, rfl, rfl, rfl, rfl, rfl, rfl⟩

@[simp] theorem Blocks.setHold_frame (b : Blocks) (h : Option HoldTimer) :
    (b.setHold h).reg = b.reg ∧ (b.setHold h).power = b.power ∧ (b.setHold h).bus = b.bus ∧
      (b.setHold h).store = b.store ∧ (b.setHold h).ep = b.ep ∧ (b.setHold h).raised = b.raised ∧
      (b.setHold h).passOutcome = b.passOutcome :=
  ⟨rfl, rfl, rfl, rfl, rfl, rfl, rfl⟩

@[simp] theorem Blocks.joinQueue_frame (b : Blocks) (id : Nat) :
    (b.joinQueue id).reg = b.reg ∧ (b.joinQueue id).power = b.power ∧ (b.joinQueue id).bus = b.bus ∧
      (b.joinQueue id).store = b.store ∧ (b.joinQueue id).ep = b.ep ∧ (b.joinQueue id).raised = b.raised ∧
      (b.joinQueue id).passOutcome = b.passOutcome := by
  unfold Blocks.joinQueue; try dsimp only
  repeat' split
  all_goals simp

@[simp] theorem Blocks.leaveQueue_frame (b : Blocks) (id : Nat) :
    (b.leaveQueue id).reg = b.reg ∧ (b.leaveQueue id).power = b.power ∧ (b.leaveQueue id).bus = b.bus ∧
      (b.leaveQueue id).store = b.store ∧ (b.leaveQueue id).ep = b.ep ∧ (b.leaveQueue id).raised = b.raised ∧
      (b.leaveQueue id).passOutcome = b.passOutcome :=
  ⟨rfl, rfl, rfl, rfl, rfl, rfl, rfl⟩

@[simp] theorem Blocks.leaveDeferred_frame (b : Blocks) (id : Nat) :
    (b.leaveDeferred id).reg = b.reg ∧ (b.leaveDeferred id).power = b.power ∧ (b.leaveDeferred id).bus = b.bus ∧
      (b.leaveDeferred id).store = b.store ∧ (b.leaveDeferred id).ep = b.ep ∧
      (b.leaveDeferred id).raised = b.raised ∧ (b.leaveDeferred id).passOutcome = b.passOutcome :=
  ⟨rfl, rfl, rfl, rfl, rfl, rfl, rfl⟩

@[simp] theorem Blocks.withdraw_frame (b : Blocks) (id : Nat) :
    (b.withdraw id).reg = b.reg ∧ (b.withdraw id).power = b.power ∧ (b.withdraw id).bus = b.bus ∧
      (b.withdraw id).store = b.store ∧ (b.withdraw id).ep = b.ep ∧ (b.withdraw id).raised = b.raised ∧
      (b.withdraw id).passOutcome = b.passOutcome :=
  ⟨rfl, rfl, rfl, rfl, rfl, rfl, rfl⟩

@[simp] theorem Blocks.leaveInFlight_frame (b : Blocks) (id : Nat) :
    (b.leaveInFlight id).reg = b.reg ∧ (b.leaveInFlight id).power = b.power ∧
      (b.leaveInFlight id).store = b.store ∧ (b.leaveInFlight id).ep = b.ep ∧
      (b.leaveInFlight id).raised = b.raised ∧ (b.leaveInFlight id).passOutcome = b.passOutcome :=
  ⟨rfl, rfl, rfl, rfl, rfl, rfl⟩

@[simp] theorem Blocks.setLinkState_frame (b : Blocks) (id : Nat) (st : LinkState) :
    (b.setLinkState id st).reg = b.reg ∧ (b.setLinkState id st).power = b.power ∧
      (b.setLinkState id st).bus = b.bus ∧ (b.setLinkState id st).engine = b.engine ∧
      (b.setLinkState id st).ep = b.ep ∧ (b.setLinkState id st).raised = b.raised ∧
      (b.setLinkState id st).passOutcome = b.passOutcome :=
  ⟨rfl, rfl, rfl, rfl, rfl, rfl, rfl⟩

@[simp] theorem Blocks.detachWhere_frame (b : Blocks) (p : Endpoint → Bool) :
    (b.detachWhere p).reg = b.reg ∧ (b.detachWhere p).power = b.power ∧ (b.detachWhere p).bus = b.bus ∧
      (b.detachWhere p).ep = b.ep ∧ (b.detachWhere p).raised = b.raised ∧
      (b.detachWhere p).passOutcome = b.passOutcome :=
  ⟨rfl, rfl, rfl, rfl, rfl, rfl⟩

@[simp] theorem Blocks.detachSlot_frame (b : Blocks) (i : SlotId) :
    (b.detachSlot i).reg = b.reg ∧ (b.detachSlot i).power = b.power ∧ (b.detachSlot i).bus = b.bus ∧
      (b.detachSlot i).ep = b.ep ∧ (b.detachSlot i).raised = b.raised ∧
      (b.detachSlot i).passOutcome = b.passOutcome :=
  ⟨rfl, rfl, rfl, rfl, rfl, rfl⟩

@[simp] theorem Blocks.detachEnd_frame (b : Blocks) (id : Nat) (e : LinkEnd) :
    (b.detachEnd id e).reg = b.reg ∧ (b.detachEnd id e).power = b.power ∧ (b.detachEnd id e).bus = b.bus ∧
      (b.detachEnd id e).ep = b.ep ∧ (b.detachEnd id e).raised = b.raised ∧
      (b.detachEnd id e).passOutcome = b.passOutcome :=
  ⟨rfl, rfl, rfl, rfl, rfl, rfl⟩

@[simp] theorem Blocks.markOpened_frame (b : Blocks) (i : SlotId) :
    (b.markOpened i).reg = b.reg ∧ (b.markOpened i).power = b.power ∧ (b.markOpened i).store = b.store ∧
      (b.markOpened i).engine = b.engine ∧ (b.markOpened i).ep = b.ep ∧ (b.markOpened i).raised = b.raised ∧
      (b.markOpened i).passOutcome = b.passOutcome :=
  ⟨rfl, rfl, rfl, rfl, rfl, rfl, rfl⟩

@[simp] theorem Blocks.switchOpened_frame (b : Blocks) (i : SlotId) :
    (b.switchOpened i).power = b.power ∧ (b.switchOpened i).ep = b.ep ∧ (b.switchOpened i).raised = b.raised ∧
      (b.switchOpened i).passOutcome = b.passOutcome :=
  ⟨rfl, rfl, rfl, rfl⟩

@[simp] theorem Blocks.release_frame (b : Blocks) (id : Nat) :
    (b.release id).reg = b.reg ∧ (b.release id).power = b.power ∧ (b.release id).ep = b.ep ∧
      (b.release id).raised = b.raised ∧ (b.release id).passOutcome = b.passOutcome :=
  ⟨rfl, rfl, rfl, rfl, rfl⟩

@[simp] theorem Blocks.defer_frame (b : Blocks) (t id : Nat) (r : DeferReason) :
    (b.defer t id r).reg = b.reg ∧ (b.defer t id r).power = b.power ∧ (b.defer t id r).ep = b.ep ∧
      (b.defer t id r).passOutcome = b.passOutcome := by
  unfold Blocks.defer; try dsimp only
  repeat' split
  all_goals simp

@[simp] theorem Blocks.returnLink_frame (b : Blocks) (id : Nat) :
    (b.returnLink id).reg = b.reg ∧ (b.returnLink id).power = b.power ∧ (b.returnLink id).ep = b.ep ∧
      (b.returnLink id).raised = b.raised ∧ (b.returnLink id).passOutcome = b.passOutcome := by
  unfold Blocks.returnLink; try dsimp only
  repeat' split
  all_goals simp

@[simp] theorem Blocks.slotInPlace_frame (b : Blocks) (i : SlotId) :
    (b.slotInPlace i).reg = b.reg ∧ (b.slotInPlace i).power = b.power ∧ (b.slotInPlace i).ep = b.ep ∧
      (b.slotInPlace i).raised = b.raised ∧ (b.slotInPlace i).passOutcome = b.passOutcome := by
  unfold Blocks.slotInPlace
  refine ⟨?_, ?_, ?_, ?_, ?_⟩
  all_goals
    refine Eq.trans (foldl_keeps _ ?_ _ _) ?_
    · intro b a; simp
    · simp

@[simp] theorem Blocks.coverReport_frame (b : Blocks) (i : SlotId) :
    (b.coverReport i).reg = b.reg ∧ (b.coverReport i).power = b.power ∧ (b.coverReport i).ep = b.ep ∧
      (b.coverReport i).raised = b.raised ∧ (b.coverReport i).passOutcome = b.passOutcome := by
  unfold Blocks.coverReport
  refine ⟨?_, ?_, ?_, ?_, ?_⟩
  all_goals
    refine Eq.trans (foldl_keeps _ ?_ _ _) ?_
    · intro b a; simp
    · simp

@[simp] theorem Blocks.dropLink_frame (b : Blocks) (id : Nat) :
    (b.dropLink id).reg = b.reg ∧ (b.dropLink id).power = b.power ∧ (b.dropLink id).passOutcome = b.passOutcome := by
  unfold Blocks.dropLink; try dsimp only
  repeat' split
  all_goals simp

@[simp] theorem Blocks.dropLinks_frame (b : Blocks) (p : Link → Bool) :
    (b.dropLinks p).reg = b.reg ∧ (b.dropLinks p).power = b.power ∧ (b.dropLinks p).passOutcome = b.passOutcome := by
  unfold Blocks.dropLinks
  refine ⟨?_, ?_, ?_⟩
  all_goals
    refine Eq.trans (foldl_keeps _ ?_ _ _) ?_
    · intro b a; simp
    · simp

@[simp] theorem Blocks.carry_frame (b : Blocks) (t : Nat) (f : InFlight) :
    (b.carry t f).reg = b.reg ∧ (b.carry t f).power = b.power ∧ (b.carry t f).passOutcome = b.passOutcome := by
  unfold Blocks.carry; try dsimp only
  repeat' split
  all_goals simp

@[simp] theorem Blocks.verify_frame (b : Blocks) (id : Nat) :
    (b.verify id).reg = b.reg ∧ (b.verify id).power = b.power ∧ (b.verify id).raised = b.raised ∧
      (b.verify id).passOutcome = b.passOutcome :=
  ⟨rfl, rfl, rfl, rfl⟩

@[simp] theorem Blocks.start_frame (b : Blocks) (c : Start) :
    (b.start c).reg = b.reg ∧ (b.start c).power = b.power ∧ (b.start c).bus = b.bus ∧ (b.start c).ep = b.ep ∧
      (b.start c).raised = b.raised ∧ (b.start c).passOutcome = b.passOutcome := by
  unfold Blocks.start; try dsimp only
  repeat' split
  all_goals simp

@[simp] theorem Blocks.startLoop_frame (n : Nat) (b : Blocks) :
    (Blocks.startLoop n b).reg = b.reg ∧ (Blocks.startLoop n b).power = b.power ∧
      (Blocks.startLoop n b).bus = b.bus ∧ (Blocks.startLoop n b).ep = b.ep ∧
      (Blocks.startLoop n b).raised = b.raised ∧ (Blocks.startLoop n b).passOutcome = b.passOutcome := by
  induction n generalizing b with
  | zero => simp [Blocks.startLoop]
  | succ n ih =>
    unfold Blocks.startLoop; try dsimp only
    repeat' split
    all_goals simp [ih]

@[simp] theorem Blocks.startRule_frame (b : Blocks) :
    (b.startRule).reg = b.reg ∧ (b.startRule).power = b.power ∧ (b.startRule).bus = b.bus ∧
      (b.startRule).ep = b.ep ∧ (b.startRule).raised = b.raised ∧ (b.startRule).passOutcome = b.passOutcome := by
  unfold Blocks.startRule; try dsimp only
  repeat' split
  all_goals simp

@[simp] theorem Blocks.activate_frame (b : Blocks) (id : Nat) :
    (b.activate id).reg = b.reg ∧ (b.activate id).power = b.power ∧ (b.activate id).bus = b.bus ∧
      (b.activate id).ep = b.ep ∧ (b.activate id).raised = b.raised ∧
      (b.activate id).passOutcome = b.passOutcome := by
  unfold Blocks.activate; try dsimp only
  repeat' split
  all_goals simp

@[simp] theorem Blocks.activateReady_frame (b : Blocks) :
    (b.activateReady).reg = b.reg ∧ (b.activateReady).power = b.power ∧ (b.activateReady).bus = b.bus ∧
      (b.activateReady).ep = b.ep ∧ (b.activateReady).raised = b.raised ∧
      (b.activateReady).passOutcome = b.passOutcome := by
  unfold Blocks.activateReady
  refine ⟨?_, ?_, ?_, ?_, ?_, ?_⟩
  all_goals
    refine Eq.trans (foldl_keeps _ ?_ _ _) ?_
    · intro b a; simp
    · simp

@[simp] theorem Blocks.judgeHead_frame (t n : Nat) (b : Blocks) :
    (Blocks.judgeHead t n b).reg = b.reg ∧ (Blocks.judgeHead t n b).power = b.power ∧
      (Blocks.judgeHead t n b).ep = b.ep ∧ (Blocks.judgeHead t n b).passOutcome = b.passOutcome := by
  induction n generalizing b with
  | zero => simp [Blocks.judgeHead]
  | succ n ih =>
    unfold Blocks.judgeHead; try dsimp only
    repeat' split
    all_goals simp [ih]

@[simp] theorem Blocks.removeLink_frame (b : Blocks) (id : Nat) :
    (b.removeLink id).reg = b.reg ∧ (b.removeLink id).power = b.power ∧ (b.removeLink id).ep = b.ep ∧
      (b.removeLink id).raised = b.raised ∧ (b.removeLink id).passOutcome = b.passOutcome := by
  unfold Blocks.removeLink; try dsimp only
  repeat' split
  all_goals simp

@[simp] theorem Blocks.flagPass_frame (b : Blocks) :
    (b.flagPass).reg = b.reg ∧ (b.flagPass).power = b.power ∧ (b.flagPass).ep = b.ep ∧
      (b.flagPass).raised = b.raised ∧ (b.flagPass).passOutcome = b.passOutcome := by
  unfold Blocks.flagPass
  refine ⟨?_, ?_, ?_, ?_, ?_⟩ <;> (refine foldl_keeps _ ?_ _ _; intro b a; split <;> simp)

@[simp] theorem Blocks.refuse_frame (t : Nat) (b : Blocks) (id : Nat) :
    (Blocks.refuse t b id).reg = b.reg ∧ (Blocks.refuse t b id).power = b.power ∧
      (Blocks.refuse t b id).ep = b.ep ∧ (Blocks.refuse t b id).passOutcome = b.passOutcome := by
  unfold Blocks.refuse; try dsimp only
  repeat' split
  all_goals simp

@[simp] theorem Blocks.refusalPass_frame (t : Nat) (b : Blocks) :
    (b.refusalPass t).reg = b.reg ∧ (b.refusalPass t).power = b.power ∧ (b.refusalPass t).ep = b.ep ∧
      (b.refusalPass t).passOutcome = b.passOutcome := by
  unfold Blocks.refusalPass
  refine ⟨?_, ?_, ?_, ?_⟩
  all_goals
    refine Eq.trans (foldl_keeps _ ?_ _ _) ?_
    · intro b a; simp
    · simp

@[simp] theorem Blocks.decideDetach_frame (b : Blocks) (l : Link) (e : LinkEnd) :
    (b.decideDetach l e).reg = b.reg ∧ (b.decideDetach l e).power = b.power ∧ (b.decideDetach l e).bus = b.bus ∧
      (b.decideDetach l e).store = b.store ∧ (b.decideDetach l e).ep = b.ep ∧
      (b.decideDetach l e).raised = b.raised ∧ (b.decideDetach l e).passOutcome = b.passOutcome := by
  unfold Blocks.decideDetach; try dsimp only
  repeat' split
  all_goals simp

@[simp] theorem Blocks.releaseOne_frame (b : Blocks) (id : Nat) :
    (b.releaseOne id).reg = b.reg ∧ (b.releaseOne id).power = b.power ∧ (b.releaseOne id).bus = b.bus ∧
      (b.releaseOne id).ep = b.ep ∧ (b.releaseOne id).raised = b.raised ∧
      (b.releaseOne id).passOutcome = b.passOutcome := by
  unfold Blocks.releaseOne; try dsimp only
  repeat' split
  all_goals simp

@[simp] theorem Blocks.releasePass_frame (b : Blocks) :
    (b.releasePass).reg = b.reg ∧ (b.releasePass).power = b.power ∧ (b.releasePass).bus = b.bus ∧
      (b.releasePass).ep = b.ep ∧ (b.releasePass).raised = b.raised ∧
      (b.releasePass).passOutcome = b.passOutcome := by
  unfold Blocks.releasePass
  refine ⟨?_, ?_, ?_, ?_, ?_, ?_⟩
  all_goals
    refine Eq.trans (foldl_keeps _ ?_ _ _) ?_
    · intro b a; simp
    · simp

@[simp] theorem Blocks.judgeEngine_frame (t : Nat) (b : Blocks) :
    (b.judgeEngine t).reg = b.reg ∧ (b.judgeEngine t).power = b.power ∧ (b.judgeEngine t).ep = b.ep ∧
      (b.judgeEngine t).passOutcome = b.passOutcome := by
  unfold Blocks.judgeEngine; simp

@[simp] theorem Blocks.standDown_frame (b : Blocks) :
    (b.standDown).reg = b.reg ∧ (b.standDown).power = b.power ∧ (b.standDown).ep = b.ep ∧
      (b.standDown).raised = b.raised ∧ (b.standDown).passOutcome = b.passOutcome := by
  unfold Blocks.standDown; repeat' split
  all_goals first
    | (refine ⟨?_, ?_, ?_, ?_, ?_⟩ <;> (refine foldl_keeps _ ?_ _ _; intro b a; split <;> simp))
    | simp

@[simp] theorem Blocks.accountEnds_frame (b : Blocks) (o : BusOrder) (e : EngineTag) (out : OrderOutcome) :
    (b.accountEnds o e out).reg = b.reg ∧ (b.accountEnds o e out).power = b.power ∧
      (b.accountEnds o e out).bus = b.bus ∧ (b.accountEnds o e out).ep = b.ep ∧
      (b.accountEnds o e out).raised = b.raised ∧ (b.accountEnds o e out).passOutcome = b.passOutcome := by
  unfold Blocks.accountEnds; try dsimp only
  repeat' split
  all_goals simp

@[simp] theorem Blocks.judgeSurvey_frame (b : Blocks) (l : Link) (f : InFlight) :
    (b.judgeSurvey l f).reg = b.reg ∧ (b.judgeSurvey l f).power = b.power ∧ (b.judgeSurvey l f).raised = b.raised ∧
      (b.judgeSurvey l f).passOutcome = b.passOutcome := by
  unfold Blocks.judgeSurvey; try dsimp only
  repeat' split
  all_goals simp

@[simp] theorem Blocks.judgeAttach_frame (b : Blocks) (l : Link) (f : InFlight) :
    (b.judgeAttach l f).reg = b.reg ∧ (b.judgeAttach l f).power = b.power ∧ (b.judgeAttach l f).bus = b.bus ∧
      (b.judgeAttach l f).ep = b.ep ∧ (b.judgeAttach l f).raised = b.raised ∧
      (b.judgeAttach l f).passOutcome = b.passOutcome := by
  unfold Blocks.judgeAttach; try dsimp only
  repeat' split
  all_goals simp

@[simp] theorem Blocks.judgeActivate_frame (t : Nat) (b : Blocks) (l : Link) (f : InFlight) :
    (b.judgeActivate t l f).reg = b.reg ∧ (b.judgeActivate t l f).power = b.power ∧
      (b.judgeActivate t l f).passOutcome = b.passOutcome := by
  unfold Blocks.judgeActivate; try dsimp only
  repeat' split
  all_goals simp

@[simp] theorem Blocks.noteRefusal_frame (b : Blocks) (id : Nat) :
    (b.noteRefusal id).reg = b.reg ∧ (b.noteRefusal id).power = b.power ∧ (b.noteRefusal id).bus = b.bus ∧
      (b.noteRefusal id).store = b.store ∧ (b.noteRefusal id).ep = b.ep ∧ (b.noteRefusal id).raised = b.raised ∧
      (b.noteRefusal id).passOutcome = b.passOutcome :=
  ⟨rfl, rfl, rfl, rfl, rfl, rfl, rfl⟩

@[simp] theorem Blocks.countOutcome_frame (t : Nat) (b : Blocks) (o : BusOrder) (e : EngineTag) (out : OrderOutcome) (a : Option Attachment) :
    (b.countOutcome t o e out a).reg = b.reg ∧ (b.countOutcome t o e out a).power = b.power ∧
      (b.countOutcome t o e out a).passOutcome = b.passOutcome := by
  unfold Blocks.countOutcome; try dsimp only
  repeat' split
  all_goals simp

@[simp] theorem Blocks.engineOutcome_frame (t : Nat) (b : Blocks) (o : BusOrder) (e : EngineTag) (out : OrderOutcome) (rs : List (List Byte)) :
    (b.engineOutcome t o e out rs).reg = b.reg ∧ (b.engineOutcome t o e out rs).power = b.power ∧
      (b.engineOutcome t o e out rs).passOutcome = b.passOutcome := by
  unfold Blocks.engineOutcome; try dsimp only
  repeat' split
  all_goals simp

@[simp] theorem Blocks.placeBacklog_frame (b : Blocks) :
    (b.placeBacklog).reg = b.reg ∧ (b.placeBacklog).power = b.power ∧ (b.placeBacklog).store = b.store ∧
      (b.placeBacklog).ep = b.ep ∧ (b.placeBacklog).raised = b.raised ∧
      (b.placeBacklog).passOutcome = b.passOutcome :=
  ⟨rfl, rfl, rfl, rfl, rfl, rfl⟩

end Sys2Proof.Machine
end

