-- ==== Sys2Proof/Laws/SlotFrames.lean ====
section
/-! SUPPORT. What the operations of the power sequencer, the registry, the bus and the episode controller leave alone. -/

namespace Sys2Proof.Machine

@[simp] theorem Blocks.setPowerQueue_frame (b : Blocks) (q : List SlotId) :
    (b.setPowerQueue q).reg = b.reg ∧ (b.setPowerQueue q).bus = b.bus ∧ (b.setPowerQueue q).store = b.store ∧
      (b.setPowerQueue q).engine = b.engine ∧ (b.setPowerQueue q).ep = b.ep ∧
      (b.setPowerQueue q).raised = b.raised ∧ (b.setPowerQueue q).passOutcome = b.passOutcome :=
  ⟨rfl, rfl, rfl, rfl, rfl, rfl, rfl⟩

@[simp] theorem Blocks.joinAdmission_frame (b : Blocks) (i : SlotId) :
    (b.joinAdmission i).reg = b.reg ∧ (b.joinAdmission i).bus = b.bus ∧ (b.joinAdmission i).store = b.store ∧
      (b.joinAdmission i).engine = b.engine ∧ (b.joinAdmission i).ep = b.ep ∧
      (b.joinAdmission i).raised = b.raised ∧ (b.joinAdmission i).passOutcome = b.passOutcome := by
  unfold Blocks.joinAdmission; try dsimp only
  repeat' split
  all_goals simp

@[simp] theorem Blocks.leaveAdmission_frame (b : Blocks) (i : SlotId) :
    (b.leaveAdmission i).reg = b.reg ∧ (b.leaveAdmission i).bus = b.bus ∧ (b.leaveAdmission i).store = b.store ∧
      (b.leaveAdmission i).engine = b.engine ∧ (b.leaveAdmission i).ep = b.ep ∧
      (b.leaveAdmission i).raised = b.raised ∧ (b.leaveAdmission i).passOutcome = b.passOutcome :=
  ⟨rfl, rfl, rfl, rfl, rfl, rfl, rfl⟩

@[simp] theorem Blocks.openSwitch_frame (b : Blocks) (i : SlotId) :
    (b.openSwitch i).ep = b.ep ∧ (b.openSwitch i).raised = b.raised ∧
      (b.openSwitch i).passOutcome = b.passOutcome := by
  unfold Blocks.openSwitch; try dsimp only
  repeat' split
  all_goals simp

@[simp] theorem Blocks.powerShed_frame (b : Blocks) (i : SlotId) :
    (b.powerShed i).ep = b.ep ∧ (b.powerShed i).raised = b.raised ∧ (b.powerShed i).passOutcome = b.passOutcome := by
  unfold Blocks.powerShed; simp

@[simp] theorem Blocks.powerOff_frame (b : Blocks) (i : SlotId) :
    (b.powerOff i).ep = b.ep ∧ (b.powerOff i).raised = b.raised ∧ (b.powerOff i).passOutcome = b.passOutcome := by
  unfold Blocks.powerOff; simp

@[simp] theorem Blocks.abandonOrder_frame (b : Blocks) (i : SlotId) :
    (b.abandonOrder i).power = b.power ∧ (b.abandonOrder i).store = b.store ∧
      (b.abandonOrder i).engine = b.engine ∧ (b.abandonOrder i).ep = b.ep ∧ (b.abandonOrder i).raised = b.raised ∧
      (b.abandonOrder i).passOutcome = b.passOutcome := by
  unfold Blocks.abandonOrder; try dsimp only
  repeat' split
  all_goals simp

@[simp] theorem Blocks.changeState_frame (b : Blocks) (i : SlotId) (st : SlotState) :
    (b.changeState i st).power = b.power ∧ (b.changeState i st).store = b.store ∧
      (b.changeState i st).engine = b.engine ∧ (b.changeState i st).ep = b.ep ∧
      (b.changeState i st).passOutcome = b.passOutcome := by
  unfold Blocks.changeState; try dsimp only
  repeat' split
  all_goals simp

@[simp] theorem Blocks.spareLeftLive_frame (b : Blocks) (i : SlotId) :
    (b.spareLeftLive i).power = b.power ∧ (b.spareLeftLive i).store = b.store ∧
      (b.spareLeftLive i).engine = b.engine ∧ (b.spareLeftLive i).passOutcome = b.passOutcome := by
  unfold Blocks.spareLeftLive; try dsimp only
  repeat' split
  all_goals simp

@[simp] theorem Blocks.coverAgain_frame (b : Blocks) (i : SlotId) :
    (b.coverAgain i).power = b.power ∧ (b.coverAgain i).store = b.store ∧ (b.coverAgain i).engine = b.engine ∧
      (b.coverAgain i).passOutcome = b.passOutcome := by
  unfold Blocks.coverAgain; try dsimp only
  repeat' split
  all_goals simp

@[simp] theorem Blocks.wantClear_frame (b : Blocks) (i : SlotId) :
    (b.wantClear i).power = b.power ∧ (b.wantClear i).bus = b.bus ∧ (b.wantClear i).store = b.store ∧
      (b.wantClear i).engine = b.engine ∧ (b.wantClear i).ep = b.ep ∧ (b.wantClear i).raised = b.raised ∧
      (b.wantClear i).passOutcome = b.passOutcome := by
  unfold Blocks.wantClear; try dsimp only
  repeat' split
  all_goals simp

@[simp] theorem Blocks.enterState_frame (b : Blocks) (i : SlotId) (st : SlotState) :
    (b.enterState i st).power = b.power ∧ (b.enterState i st).store = b.store ∧
      (b.enterState i st).engine = b.engine ∧ (b.enterState i st).passOutcome = b.passOutcome := by
  unfold Blocks.enterState; try dsimp only
  repeat' split
  all_goals simp

@[simp] theorem Blocks.startDeadline_frame (b : Blocks) (i : SlotId) :
    (b.startDeadline i).power = b.power ∧ (b.startDeadline i).bus = b.bus ∧ (b.startDeadline i).store = b.store ∧
      (b.startDeadline i).engine = b.engine ∧ (b.startDeadline i).ep = b.ep ∧
      (b.startDeadline i).raised = b.raised ∧ (b.startDeadline i).passOutcome = b.passOutcome :=
  ⟨rfl, rfl, rfl, rfl, rfl, rfl, rfl⟩

@[simp] theorem Blocks.admit_frame (b : Blocks) (i : SlotId) :
    (b.admitSlot i).store = b.store ∧ (b.admitSlot i).engine = b.engine ∧ (b.admitSlot i).passOutcome = b.passOutcome := by
  unfold Blocks.admitSlot; try dsimp only
  repeat' split
  all_goals simp

@[simp] theorem Blocks.admitLoop_frame (n : Nat) (b : Blocks) :
    (Blocks.admitLoop n b).store = b.store ∧ (Blocks.admitLoop n b).engine = b.engine ∧
      (Blocks.admitLoop n b).passOutcome = b.passOutcome := by
  induction n generalizing b with
  | zero => simp [Blocks.admitLoop]
  | succ n ih =>
    unfold Blocks.admitLoop; try dsimp only
    repeat' split
    all_goals simp [ih]

@[simp] theorem Blocks.judgeAdmission_frame (b : Blocks) :
    (b.judgeAdmission).store = b.store ∧ (b.judgeAdmission).engine = b.engine ∧
      (b.judgeAdmission).passOutcome = b.passOutcome := by
  unfold Blocks.judgeAdmission; simp

@[simp] theorem Blocks.powerQueue_frame (b : Blocks) (i : SlotId) :
    (b.powerQueue i).store = b.store ∧ (b.powerQueue i).engine = b.engine ∧
      (b.powerQueue i).passOutcome = b.passOutcome := by
  unfold Blocks.powerQueue; try dsimp only
  repeat' split
  all_goals simp

@[simp] theorem Blocks.queueSlot_frame (b : Blocks) (i : SlotId) :
    (b.queueSlot i).store = b.store ∧ (b.queueSlot i).engine = b.engine ∧
      (b.queueSlot i).passOutcome = b.passOutcome := by
  unfold Blocks.queueSlot; simp

@[simp] theorem Blocks.endClearRevert_frame (b : Blocks) (i : SlotId) :
    (b.endClearRevert i).reg = b.reg ∧ (b.endClearRevert i).power = b.power ∧
      (b.endClearRevert i).store = b.store ∧ (b.endClearRevert i).engine = b.engine ∧
      (b.endClearRevert i).ep = b.ep ∧ (b.endClearRevert i).raised = b.raised ∧
      (b.endClearRevert i).passOutcome = b.passOutcome :=
  ⟨rfl, rfl, rfl, rfl, rfl, rfl, rfl⟩

@[simp] theorem Blocks.endHold_frame (b : Blocks) (i : SlotId) :
    (b.endHold i).power = b.power ∧ (b.endHold i).bus = b.bus ∧ (b.endHold i).store = b.store ∧
      (b.endHold i).engine = b.engine ∧ (b.endHold i).ep = b.ep ∧ (b.endHold i).raised = b.raised ∧
      (b.endHold i).passOutcome = b.passOutcome :=
  ⟨rfl, rfl, rfl, rfl, rfl, rfl, rfl⟩

@[simp] theorem Blocks.takeCover_frame (b : Blocks) (i j : SlotId) (r : LossReason) :
    (b.takeCover i j r).power = b.power ∧ (b.takeCover i j r).passOutcome = b.passOutcome := by
  unfold Blocks.takeCover; simp

@[simp] theorem Blocks.spareLost_frame (b : Blocks) (i j : SlotId) (r : LossReason) :
    (b.spareLost i j r).power = b.power ∧ (b.spareLost i j r).passOutcome = b.passOutcome := by
  unfold Blocks.spareLost; try dsimp only
  repeat' split
  all_goals simp

@[simp] theorem Blocks.retireHeld_frame (b : Blocks) (i : SlotId) :
    (b.retireHeld i).power = b.power ∧ (b.retireHeld i).passOutcome = b.passOutcome := by
  unfold Blocks.retireHeld; try dsimp only
  repeat' split
  all_goals simp

@[simp] theorem Blocks.revertingLost_frame (b : Blocks) (i : SlotId) (r : LossReason) :
    (b.revertingLost i r).power = b.power ∧ (b.revertingLost i r).passOutcome = b.passOutcome := by
  unfold Blocks.revertingLost; try dsimp only
  repeat' split
  all_goals simp

@[simp] theorem Blocks.settleLoss_frame (b : Blocks) (i : SlotId) (r : LossReason) :
    (b.settleLoss i r).power = b.power ∧ (b.settleLoss i r).passOutcome = b.passOutcome := by
  unfold Blocks.settleLoss; try dsimp only
  repeat' split
  all_goals simp

@[simp] theorem Blocks.lose_frame (b : Blocks) (i : SlotId) (r : LossReason) :
    (b.lose i r).passOutcome = b.passOutcome := by
  unfold Blocks.lose; simp

@[simp] theorem Blocks.loseInService_frame (b : Blocks) (i : SlotId) (r : LossReason) :
    (b.loseInService i r).passOutcome = b.passOutcome := by
  unfold Blocks.loseInService; try dsimp only
  repeat' split
  all_goals simp

@[simp] theorem Blocks.cardRestart_frame (b : Blocks) (i : SlotId) :
    (b.cardRestart i).power = b.power ∧ (b.cardRestart i).passOutcome = b.passOutcome := by
  unfold Blocks.cardRestart; try dsimp only
  repeat' split
  all_goals simp

@[simp] theorem Blocks.mergeOne_frame (plan : Plan) (i : SlotId) (rs : List PortReport) (acc : Blocks × List GroupSet) (p : Fin 32) :
    ((Blocks.mergeOne plan i rs acc p).1).power = acc.1.power ∧
      ((Blocks.mergeOne plan i rs acc p).1).bus = acc.1.bus ∧
      ((Blocks.mergeOne plan i rs acc p).1).store = acc.1.store ∧
      ((Blocks.mergeOne plan i rs acc p).1).engine = acc.1.engine ∧
      ((Blocks.mergeOne plan i rs acc p).1).ep = acc.1.ep ∧
      ((Blocks.mergeOne plan i rs acc p).1).passOutcome = acc.1.passOutcome := by
  unfold Blocks.mergeOne; dsimp only; split
  all_goals simp

@[simp] theorem Blocks.merge_frame (b : Blocks) (plan : Plan) (i : SlotId) (rs : List PortReport) :
    (b.merge plan i rs).power = b.power ∧ (b.merge plan i rs).bus = b.bus ∧ (b.merge plan i rs).store = b.store ∧
      (b.merge plan i rs).engine = b.engine ∧ (b.merge plan i rs).ep = b.ep ∧
      (b.merge plan i rs).passOutcome = b.passOutcome := by
  unfold Blocks.merge
  refine ⟨?_, ?_, ?_, ?_, ?_, ?_⟩
  · simp only [Blocks.modSlot_frame]
    exact foldl_keeps (fun m : Blocks × List GroupSet => m.1.power) (by intro a p; simp) _ _
  · simp only [Blocks.modSlot_frame]
    exact foldl_keeps (fun m : Blocks × List GroupSet => m.1.bus) (by intro a p; simp) _ _
  · simp only [Blocks.modSlot_frame]
    exact foldl_keeps (fun m : Blocks × List GroupSet => m.1.store) (by intro a p; simp) _ _
  · simp only [Blocks.modSlot_frame]
    exact foldl_keeps (fun m : Blocks × List GroupSet => m.1.engine) (by intro a p; simp) _ _
  · simp only [Blocks.modSlot_frame]
    exact foldl_keeps (fun m : Blocks × List GroupSet => m.1.ep) (by intro a p; simp) _ _
  · simp only [Blocks.modSlot_frame]
    exact foldl_keeps (fun m : Blocks × List GroupSet => m.1.passOutcome) (by intro a p; simp) _ _

@[simp] theorem Blocks.beginLoading_frame (b : Blocks) (i : SlotId) :
    (b.beginLoading i).power = b.power ∧ (b.beginLoading i).bus = b.bus ∧ (b.beginLoading i).store = b.store ∧
      (b.beginLoading i).engine = b.engine ∧ (b.beginLoading i).ep = b.ep ∧
      (b.beginLoading i).passOutcome = b.passOutcome := by
  unfold Blocks.beginLoading; try dsimp only
  repeat' split
  all_goals simp

@[simp] theorem Blocks.identified_frame (b : Blocks) (i : SlotId) (id : Identity) :
    (b.identified i id).passOutcome = b.passOutcome := by
  unfold Blocks.identified; try dsimp only
  repeat' split
  all_goals simp

@[simp] theorem Blocks.termGiven_frame (b : Blocks) (i : SlotId) (term : Nat) :
    (b.termGiven i term).power = b.power ∧ (b.termGiven i term).store = b.store ∧
      (b.termGiven i term).engine = b.engine ∧ (b.termGiven i term).passOutcome = b.passOutcome := by
  unfold Blocks.termGiven; try dsimp only
  repeat' split
  all_goals simp

@[simp] theorem Blocks.runRead_frame (b : Blocks) (i : SlotId) (rs : List (List Byte)) :
    (b.runRead i rs).power = b.power ∧ (b.runRead i rs).bus = b.bus ∧ (b.runRead i rs).store = b.store ∧
      (b.runRead i rs).engine = b.engine ∧ (b.runRead i rs).ep = b.ep ∧
      (b.runRead i rs).passOutcome = b.passOutcome := by
  unfold Blocks.runRead; try dsimp only
  repeat' split
  all_goals simp

@[simp] theorem Blocks.runWritten_frame (b : Blocks) (i : SlotId) :
    (b.runWritten i).power = b.power ∧ (b.runWritten i).bus = b.bus ∧ (b.runWritten i).store = b.store ∧
      (b.runWritten i).engine = b.engine ∧ (b.runWritten i).ep = b.ep ∧ (b.runWritten i).raised = b.raised ∧
      (b.runWritten i).passOutcome = b.passOutcome :=
  ⟨rfl, rfl, rfl, rfl, rfl, rfl, rfl⟩

@[simp] theorem Blocks.coverRunWritten_frame (b : Blocks) (i j : SlotId) (n : Nat) :
    (b.coverRunWritten i j n).power = b.power ∧ (b.coverRunWritten i j n).bus = b.bus ∧
      (b.coverRunWritten i j n).store = b.store ∧ (b.coverRunWritten i j n).engine = b.engine ∧
      (b.coverRunWritten i j n).ep = b.ep ∧ (b.coverRunWritten i j n).raised = b.raised ∧
      (b.coverRunWritten i j n).passOutcome = b.passOutcome := by
  unfold Blocks.coverRunWritten; try dsimp only
  repeat' split
  all_goals simp

@[simp] theorem Blocks.completeRevert_frame (b : Blocks) (i j : SlotId) :
    (b.completeRevert i j).power = b.power ∧ (b.completeRevert i j).ep = b.ep ∧
      (b.completeRevert i j).raised = b.raised ∧ (b.completeRevert i j).passOutcome = b.passOutcome := by
  unfold Blocks.completeRevert
  refine ⟨?_, ?_, ?_, ?_⟩
  all_goals
    refine Eq.trans (foldl_keeps _ ?_ _ _) ?_
    · intro b a; simp
    · simp

@[simp] theorem Blocks.cleared_frame (b : Blocks) (i : SlotId) (reverts : Bool) (out : OrderOutcome) :
    (b.cleared i reverts out).passOutcome = b.passOutcome := by
  unfold Blocks.cleared; try dsimp only
  repeat' split
  all_goals simp

@[simp] theorem Blocks.orderFailed_frame (b : Blocks) (i : SlotId) (out : OrderOutcome) :
    (b.orderFailed i out).passOutcome = b.passOutcome := by
  unfold Blocks.orderFailed; try dsimp only
  repeat' split
  all_goals simp

@[simp] theorem Blocks.registryOutcome_frame (b : Blocks) (o : BusOrder) (u : RegistryUse) (out : OrderOutcome) (rs : List (List Byte)) :
    (b.registryOutcome o u out rs).passOutcome = b.passOutcome := by
  unfold Blocks.registryOutcome; try dsimp only
  repeat' split
  all_goals simp

@[simp] theorem Blocks.busReport_frame (b : Blocks) (i : SlotId) (out : OrderOutcome) :
    (b.busReport i out).passOutcome = b.passOutcome := by
  unfold Blocks.busReport; try dsimp only
  repeat' split
  all_goals simp

@[simp] theorem Blocks.resetHeldTests_frame (b : Blocks) (i : SlotId) :
    (b.resetHeldTests i).power = b.power ∧ (b.resetHeldTests i).bus = b.bus ∧
      (b.resetHeldTests i).store = b.store ∧ (b.resetHeldTests i).engine = b.engine ∧
      (b.resetHeldTests i).ep = b.ep ∧ (b.resetHeldTests i).raised = b.raised ∧
      (b.resetHeldTests i).passOutcome = b.passOutcome := by
  unfold Blocks.resetHeldTests
  refine ⟨?_, ?_, ?_, ?_, ?_, ?_, ?_⟩
  all_goals
    refine Eq.trans (foldl_keeps _ ?_ _ _) ?_
    · intro b a; simp
    · simp

@[simp] theorem Blocks.notePlacement_frame (b : Blocks) (i : SlotId) (o : BusOrder) :
    (b.notePlacement i o).power = b.power ∧ (b.notePlacement i o).bus = b.bus ∧
      (b.notePlacement i o).store = b.store ∧ (b.notePlacement i o).engine = b.engine ∧
      (b.notePlacement i o).ep = b.ep ∧ (b.notePlacement i o).raised = b.raised ∧
      (b.notePlacement i o).passOutcome = b.passOutcome := by
  unfold Blocks.notePlacement; try dsimp only
  repeat' split
  all_goals simp

@[simp] theorem Blocks.placeWanted_frame (b : Blocks) (i : SlotId) :
    (b.placeWanted i).power = b.power ∧ (b.placeWanted i).store = b.store ∧ (b.placeWanted i).engine = b.engine ∧
      (b.placeWanted i).ep = b.ep ∧ (b.placeWanted i).raised = b.raised ∧
      (b.placeWanted i).passOutcome = b.passOutcome := by
  unfold Blocks.placeWanted; try dsimp only
  repeat' split
  all_goals simp

@[simp] theorem Blocks.placeRegistry_frame (b : Blocks) :
    (b.placeRegistry).power = b.power ∧ (b.placeRegistry).store = b.store ∧ (b.placeRegistry).engine = b.engine ∧
      (b.placeRegistry).ep = b.ep ∧ (b.placeRegistry).raised = b.raised ∧
      (b.placeRegistry).passOutcome = b.passOutcome := by
  unfold Blocks.placeRegistry
  refine ⟨?_, ?_, ?_, ?_, ?_, ?_⟩
  all_goals
    refine Eq.trans (foldl_keeps _ ?_ _ _) ?_
    · intro b a; simp
    · simp

@[simp] theorem Blocks.finishCoverLoad_frame (b : Blocks) (i : SlotId) :
    (b.finishCoverLoad i).power = b.power ∧ (b.finishCoverLoad i).bus = b.bus ∧
      (b.finishCoverLoad i).store = b.store ∧ (b.finishCoverLoad i).engine = b.engine ∧
      (b.finishCoverLoad i).ep = b.ep ∧ (b.finishCoverLoad i).raised = b.raised ∧
      (b.finishCoverLoad i).passOutcome = b.passOutcome := by
  unfold Blocks.finishCoverLoad; try dsimp only
  repeat' split
  all_goals simp

@[simp] theorem Blocks.finishCoverLoads_frame (b : Blocks) :
    (b.finishCoverLoads).power = b.power ∧ (b.finishCoverLoads).bus = b.bus ∧
      (b.finishCoverLoads).store = b.store ∧ (b.finishCoverLoads).engine = b.engine ∧
      (b.finishCoverLoads).ep = b.ep ∧ (b.finishCoverLoads).raised = b.raised ∧
      (b.finishCoverLoads).passOutcome = b.passOutcome := by
  unfold Blocks.finishCoverLoads
  refine ⟨?_, ?_, ?_, ?_, ?_, ?_, ?_⟩
  all_goals
    refine Eq.trans (foldl_keeps _ ?_ _ _) ?_
    · intro b a; simp
    · simp

@[simp] theorem Blocks.grant_frame (b : Blocks) :
    (b.grant).reg = b.reg ∧ (b.grant).power = b.power ∧ (b.grant).store = b.store ∧ (b.grant).engine = b.engine ∧
      (b.grant).ep = b.ep ∧ (b.grant).raised = b.raised ∧ (b.grant).passOutcome = b.passOutcome :=
  ⟨rfl, rfl, rfl, rfl, rfl, rfl, rfl⟩

@[simp] theorem Blocks.cutBus_frame (b : Blocks) :
    (b.cutBus).reg = b.reg ∧ (b.cutBus).power = b.power ∧ (b.cutBus).store = b.store ∧
      (b.cutBus).engine = b.engine ∧ (b.cutBus).ep = b.ep ∧ (b.cutBus).raised = b.raised :=
  ⟨rfl, rfl, rfl, rfl, rfl, rfl⟩

@[simp] theorem Blocks.setShelf_frame (b : Blocks) (st : ShelfState) :
    (b.setShelf st).reg = b.reg ∧ (b.setShelf st).power = b.power ∧ (b.setShelf st).bus = b.bus ∧
      (b.setShelf st).store = b.store ∧ (b.setShelf st).engine = b.engine ∧ (b.setShelf st).raised = b.raised ∧
      (b.setShelf st).passOutcome = b.passOutcome :=
  ⟨rfl, rfl, rfl, rfl, rfl, rfl, rfl⟩

@[simp] theorem Blocks.openEpisode_frame (t : Nat) (c : EpisodeCause) (m : Option Nat) (b : Blocks) :
    (Blocks.openEpisode t c m b).reg = b.reg ∧ (Blocks.openEpisode t c m b).power = b.power ∧
      (Blocks.openEpisode t c m b).bus = b.bus ∧ (Blocks.openEpisode t c m b).store = b.store ∧
      (Blocks.openEpisode t c m b).engine = b.engine ∧ (Blocks.openEpisode t c m b).passOutcome = b.passOutcome :=
  ⟨rfl, rfl, rfl, rfl, rfl, rfl⟩

@[simp] theorem Blocks.endRegistryOrders_frame (b : Blocks) :
    (b.endRegistryOrders).power = b.power ∧ (b.endRegistryOrders).bus = b.bus ∧
      (b.endRegistryOrders).store = b.store ∧ (b.endRegistryOrders).engine = b.engine ∧
      (b.endRegistryOrders).ep = b.ep ∧ (b.endRegistryOrders).raised = b.raised ∧
      (b.endRegistryOrders).passOutcome = b.passOutcome := by
  unfold Blocks.endRegistryOrders
  refine ⟨?_, ?_, ?_, ?_, ?_, ?_, ?_⟩
  all_goals
    refine Eq.trans (foldl_keeps _ ?_ _ _) ?_
    · intro b a; simp
    · simp

@[simp] theorem Blocks.freezeLinks_frame (b : Blocks) :
    (b.freezeLinks).reg = b.reg ∧ (b.freezeLinks).power = b.power ∧ (b.freezeLinks).bus = b.bus ∧
      (b.freezeLinks).ep = b.ep ∧ (b.freezeLinks).raised = b.raised ∧
      (b.freezeLinks).passOutcome = b.passOutcome := by
  unfold Blocks.freezeLinks
  refine ⟨?_, ?_, ?_, ?_, ?_, ?_⟩
  all_goals
    refine Eq.trans (foldl_keeps _ ?_ _ _) ?_
    · intro b a; simp
    · simp

@[simp] theorem Blocks.freezeSlot_frame (b : Blocks) (i : SlotId) :
    (b.freezeSlot i).passOutcome = b.passOutcome := by
  unfold Blocks.freezeSlot; try dsimp only
  repeat' split
  all_goals simp

@[simp] theorem Blocks.stopDeadlines_frame (b : Blocks) :
    (b.stopDeadlines).power = b.power ∧ (b.stopDeadlines).bus = b.bus ∧ (b.stopDeadlines).store = b.store ∧
      (b.stopDeadlines).engine = b.engine ∧ (b.stopDeadlines).ep = b.ep ∧ (b.stopDeadlines).raised = b.raised ∧
      (b.stopDeadlines).passOutcome = b.passOutcome := by
  unfold Blocks.stopDeadlines
  refine ⟨?_, ?_, ?_, ?_, ?_, ?_, ?_⟩
  all_goals
    refine Eq.trans (foldl_keeps _ ?_ _ _) ?_
    · intro b a; simp
    · simp

@[simp] theorem Blocks.recoverSlot_frame (b : Blocks) (i : SlotId) :
    (b.recoverSlot i).power = b.power ∧ (b.recoverSlot i).store = b.store ∧ (b.recoverSlot i).engine = b.engine ∧
      (b.recoverSlot i).passOutcome = b.passOutcome := by
  unfold Blocks.recoverSlot; try dsimp only
  repeat' split
  all_goals simp

@[simp] theorem Blocks.recover_frame (b : Blocks) :
    (b.recover).power = b.power ∧ (b.recover).store = b.store ∧ (b.recover).engine = b.engine ∧
      (b.recover).passOutcome = b.passOutcome := by
  unfold Blocks.recover
  refine ⟨?_, ?_, ?_, ?_⟩
  all_goals
    refine Eq.trans (foldl_keeps _ ?_ _ _) ?_
    · intro b a; simp
    · simp

@[simp] theorem Blocks.handFmin_frame (b : Blocks) (m : Option Nat) :
    (b.handFmin m).reg = b.reg ∧ (b.handFmin m).power = b.power ∧ (b.handFmin m).bus = b.bus ∧
      (b.handFmin m).store = b.store ∧ (b.handFmin m).engine = b.engine ∧ (b.handFmin m).raised = b.raised ∧
      (b.handFmin m).passOutcome = b.passOutcome := by
  unfold Blocks.handFmin; try dsimp only
  repeat' split
  all_goals simp

@[simp] theorem Blocks.judgeClose_frame (t : Nat) (b : Blocks) :
    (b.judgeClose t).reg = b.reg ∧ (b.judgeClose t).power = b.power ∧ (b.judgeClose t).bus = b.bus ∧
      (b.judgeClose t).store = b.store ∧ (b.judgeClose t).engine = b.engine ∧
      (b.judgeClose t).passOutcome = b.passOutcome := by
  unfold Blocks.judgeClose; try dsimp only
  repeat' split
  all_goals simp

@[simp] theorem Blocks.budgetReport_frame (b : Blocks) (n : Nat) :
    (b.budgetReport n).reg = b.reg ∧ (b.budgetReport n).bus = b.bus ∧ (b.budgetReport n).store = b.store ∧
      (b.budgetReport n).engine = b.engine ∧ (b.budgetReport n).ep = b.ep ∧ (b.budgetReport n).raised = b.raised ∧
      (b.budgetReport n).passOutcome = b.passOutcome :=
  ⟨rfl, rfl, rfl, rfl, rfl, rfl, rfl⟩

end Sys2Proof.Machine
end

