-- ==== Sys2Proof/Laws/State.lean ====
section
/-! SUPPORT. What a state holds after each update of it, one lemma for each field, true by `rfl`; and reading a slot
record, a power record and a port record after one of them was changed. -/

namespace Sys2Proof.Machine

/-! ### The state's own updates -/

@[simp] theorem State.holding_blk (s : State) (f : Frame) : (s.holding f).blk = s.blk := rfl
@[simp] theorem State.holding_feed (s : State) (f : Frame) : (s.holding f).feed = s.feed := rfl
@[simp] theorem State.holding_time (s : State) (f : Frame) : (s.holding f).time = s.time := rfl
@[simp] theorem State.holding_resetHeld (s : State) (f : Frame) : (s.holding f).resetHeld = s.resetHeld := rfl
@[simp] theorem State.holding_pending (s : State) (f : Frame) : (s.holding f).pending = s.pending := rfl
@[simp] theorem State.holding_buffer (s : State) (f : Frame) : (s.holding f).port.buffer = [f] := rfl

@[simp] theorem State.replied_blk (s : State) (f : Frame) (st : Status) (fields : List Byte) :
    (s.replied f st fields).blk = s.blk := rfl
@[simp] theorem State.replied_feed (s : State) (f : Frame) (st : Status) (fields : List Byte) :
    (s.replied f st fields).feed = s.feed := rfl
@[simp] theorem State.replied_time (s : State) (f : Frame) (st : Status) (fields : List Byte) :
    (s.replied f st fields).time = s.time := rfl
@[simp] theorem State.replied_resetHeld (s : State) (f : Frame) (st : Status) (fields : List Byte) :
    (s.replied f st fields).resetHeld = s.resetHeld := rfl
@[simp] theorem State.replied_pending (s : State) (f : Frame) (st : Status) (fields : List Byte) :
    (s.replied f st fields).pending = s.pending := rfl

@[simp] theorem State.settled_blk (s : State) (f : Blocks → Blocks) :
    (s.settled f).blk = Blocks.settle s.time (f s.blk) := by simp only [State.settled]
@[simp] theorem State.settled_feed (s : State) (f : Blocks → Blocks) : (s.settled f).feed = s.feed := by simp only [State.settled]
@[simp] theorem State.settled_port (s : State) (f : Blocks → Blocks) : (s.settled f).port = s.port := by simp only [State.settled]
@[simp] theorem State.settled_time (s : State) (f : Blocks → Blocks) : (s.settled f).time = s.time := by simp only [State.settled]
@[simp] theorem State.settled_resetHeld (s : State) (f : Blocks → Blocks) : (s.settled f).resetHeld = s.resetHeld := by simp only [State.settled]
@[simp] theorem State.settled_pending (s : State) (f : Blocks → Blocks) : (s.settled f).pending = s.pending := by simp only [State.settled]

@[simp] theorem State.deliver_blk (s : State) : s.deliver.blk = s.blk.told := rfl
@[simp] theorem State.deliver_feed (s : State) : s.deliver.feed = s.feed := rfl
@[simp] theorem State.deliver_port (s : State) :
    s.deliver.port = s.port.hear s.time s.blk.passOutcome s.blk.raised := rfl
@[simp] theorem State.deliver_time (s : State) : s.deliver.time = s.time := rfl
@[simp] theorem State.deliver_resetHeld (s : State) : s.deliver.resetHeld = s.resetHeld := rfl
@[simp] theorem State.deliver_pending (s : State) : s.deliver.pending = s.pending := rfl

@[simp] theorem Blocks.told_raised (b : Blocks) : b.told.raised = [] := rfl
@[simp] theorem Blocks.told_passOutcome (b : Blocks) : b.told.passOutcome = none := rfl
@[simp] theorem Blocks.told_frame (b : Blocks) :
    b.told.reg = b.reg ∧ b.told.power = b.power ∧ b.told.bus = b.bus ∧ b.told.store = b.store
      ∧ b.told.engine = b.engine ∧ b.told.ep = b.ep := ⟨rfl, rfl, rfl, rfl, rfl, rfl⟩

/-- An event leaves the feed monitor, the time, the pin and the queue, and the blocks with nothing left to tell. -/
@[simp] theorem State.event_frame (s : State) (f : Blocks → Blocks) :
    (s.event f).feed = s.feed ∧ (s.event f).time = s.time ∧ (s.event f).resetHeld = s.resetHeld
      ∧ (s.event f).pending = s.pending ∧ (s.event f).blk = (Blocks.settle s.time (f s.blk)).told :=
  by simp [State.event]

theorem State.event_quiet (s : State) (f : Blocks → Blocks) : (s.event f).Quiet := by simp [State.Quiet]

@[simp] theorem State.onBus_frame (s : State) (f : CardBus → CardBus) :
    (s.onBus f).feed = s.feed ∧ (s.onBus f).port = s.port ∧ (s.onBus f).time = s.time
      ∧ (s.onBus f).resetHeld = s.resetHeld ∧ (s.onBus f).pending = s.pending
      ∧ (s.onBus f).blk = { s.blk with bus := f s.blk.bus } := ⟨rfl, rfl, rfl, rfl, rfl, rfl⟩

@[simp] theorem State.resetAll_pending (s : State) : s.resetAll.pending = s.pending := rfl

/-! ### The port's parts -/

@[simp] theorem SupervisionPort.noticeLeft_frame (t : Nat) (p : SupervisionPort) :
    (p.noticeLeft t).framer = p.framer ∧ (p.noticeLeft t).gap = p.gap ∧ (p.noticeLeft t).buffer = p.buffer
      ∧ (p.noticeLeft t).replies = p.replies ∧ (p.noticeLeft t).mask = p.mask ∧ (p.noticeLeft t).line = p.line := by
  unfold SupervisionPort.noticeLeft
  repeat' split
  all_goals simp

@[simp] theorem SupervisionPort.begin_frame (t : Nat) (p : SupervisionPort) :
    (p.begin t).framer = p.framer ∧ (p.begin t).gap = p.gap ∧ (p.begin t).buffer = p.buffer
      ∧ (p.begin t).replies = p.replies ∧ (p.begin t).mask = p.mask := by
  unfold SupervisionPort.begin
  split <;> simp

@[simp] theorem SupervisionPort.reply_frame (t : Nat) (p : SupervisionPort) (r : Reply) :
    (p.reply t r).framer = p.framer ∧ (p.reply t r).gap = p.gap ∧ (p.reply t r).buffer = p.buffer
      ∧ (p.reply t r).replies = p.replies ++ [r] ∧ (p.reply t r).mask = p.mask := by
  simp [SupervisionPort.reply]

@[simp] theorem SupervisionPort.offerNotice_frame (p : SupervisionPort) (n : Notice) :
    (p.offerNotice n).framer = p.framer ∧ (p.offerNotice n).gap = p.gap ∧ (p.offerNotice n).buffer = p.buffer
      ∧ (p.offerNotice n).replies = p.replies ∧ (p.offerNotice n).mask = p.mask ∧ (p.offerNotice n).line = p.line := by
  unfold SupervisionPort.offerNotice
  split <;> simp

@[simp] theorem SupervisionPort.takeNotice_frame (t : Nat) (p : SupervisionPort) (e : Event) :
    (p.takeNotice t e).framer = p.framer ∧ (p.takeNotice t e).gap = p.gap ∧ (p.takeNotice t e).buffer = p.buffer
      ∧ (p.takeNotice t e).replies = p.replies ∧ (p.takeNotice t e).mask = p.mask := by
  unfold SupervisionPort.takeNotice
  split <;> simp

@[simp] theorem SupervisionPort.busy_frame (t : Nat) (p : SupervisionPort) (f : Frame) :
    (p.busy t f).framer = p.framer ∧ (p.busy t f).gap = p.gap ∧ (p.busy t f).buffer = p.buffer
      ∧ (p.busy t f).mask = p.mask := by
  unfold SupervisionPort.busy
  split <;> simp

/-! ### Records read after a change -/

@[simp] theorem Blocks.slot_modSlot_same (b : Blocks) (i : SlotId) (f : SlotRec → SlotRec) :
    (b.modSlot i f).slot i = f (b.slot i) := by
  simp [Blocks.slot, Blocks.modSlot]

@[simp] theorem Blocks.slot_modSlot_other (b : Blocks) (i j : SlotId) (f : SlotRec → SlotRec) (h : j ≠ i) :
    (b.modSlot i f).slot j = b.slot j := by
  have h' : i.val ≠ j.val := fun e => h (Fin.ext e.symm)
  simp [Blocks.slot, Blocks.modSlot, h']

@[simp] theorem Blocks.powerRec_modPower_same (b : Blocks) (i : SlotId) (f : PowerRec → PowerRec) :
    (b.modPower i f).powerRec i = f (b.powerRec i) := by
  simp [Blocks.powerRec, Blocks.modPower]

@[simp] theorem Blocks.powerRec_modPower_other (b : Blocks) (i j : SlotId) (f : PowerRec → PowerRec) (h : j ≠ i) :
    (b.modPower i f).powerRec j = b.powerRec j := by
  have h' : i.val ≠ j.val := fun e => h (Fin.ext e.symm)
  simp [Blocks.powerRec, Blocks.modPower, h']

@[simp] theorem Blocks.port_modPort_same (b : Blocks) (i : SlotId) (p : Fin 32) (f : PortRec → PortRec) :
    (b.modPort i p f).port i p = f (b.port i p) := by
  simp [Blocks.port, Blocks.modPort]

@[simp] theorem Blocks.port_modPort_other (b : Blocks) (i j : SlotId) (p q : Fin 32) (f : PortRec → PortRec)
    (h : ¬(j = i ∧ q = p)) : (b.modPort i p f).port j q = b.port j q := by
  unfold Blocks.port Blocks.modPort
  by_cases hi : j = i
  · subst hi
    have hq : p.val ≠ q.val := fun e => h ⟨rfl, Fin.ext e.symm⟩
    simp [hq]
  · have hi' : i.val ≠ j.val := fun e => hi (Fin.ext e.symm)
    simp [hi']

end Sys2Proof.Machine
end

