-- ==== Sys2Proof/Tests/Slice0.lean ====
section
/-! SUPPORT. The model's own tests: the smoke test of WellFormed, worked values of the spec, small steps, and for each
statement with hypotheses a state and operands that meet them. -/

namespace Sys2Proof.Tests
open Sys2Proof Sys2Proof.Machine

-- One theorem at a time: the evaluations would otherwise each wait in a thread of their own.
set_option Elab.async false

/-! ### Small states -/

/-- What a command gives, as a state; the state itself where it would not answer a next state. -/
def after (c : Instr) (s : State) : State :=
  match exec c s with
  | .next t => t
  | .fault _ => s
  | .refused _ => s

/-- A working plan of 8 ports: KEEP, inrush 60, steady 20. -/
def workPlan : Plan :=
  { role := .working, cardType := 20, minRevision := 0, portCount := 8, policy := .keep, admissionRank := 0, inrush := 60,
    steady := 20, rampTime := 10, returnDeadline := 600, mergeFunction := .stored,
    mergeGroups := { line := true, level := true, signal := true, admin := true }, coverEnabled := false }

/-- A slot record in a state, under the working plan. -/
def inState (st : SlotState) : SlotRec :=
  { SlotRec.reset with plan := some workPlan, state := st, storedTerm := some 1, latestId := some .intact }

/-- STANDBY with slot 0 in a state under the working plan, its power record as given, the supply UP and ARMED. -/
def standing (st : SlotState) (w : PowerRec) : State :=
  { State.reset with
    blk := { ((Blocks.reset.modSlot 0 (fun _ => inState st)).modPower 0 (fun _ => w)) with
      ep := { EpisodeController.reset with shelf := .standby, supply := .up } }
    feed := { FeedMonitor.reset with armed := true, supply := .up } }

/-- Slot 0 LIVE, its switch CLOSED at the steady charge. -/
def liveState : State := standing .live { closed := true, charge := 20, ramp := none, dark := none, trips := 254 }

def withPort (s : State) (p : SupervisionPort) : State := { s with port := p }
def withBus (s : State) (bus : CardBus) : State := { s with blk := { s.blk with bus } }

/-- The bus with a transfer of the registry in a phase, for the order at its queue's head. -/
def carrying (code : OrderCode) (count : Nat) (send : List (List Byte)) (phase : Phase) (attempts : Nat) : CardBus :=
  let order : BusOrder := { slot := 0, code, first := 0, count, send, purpose := .registry .identify }
  { CardBus.reset with
    registryQueue := [order]
    registryAttempts := attempts
    transfer := some { order, requester := .registry, phase, given := [], taken := 0, wait := 10 } }

theorem reset_ready : State.reset.Ready := ⟨rfl, ⟨rfl, rfl⟩, rfl⟩
theorem live_ready : liveState.Ready := ⟨rfl, ⟨rfl, rfl⟩, rfl⟩

/-! ### WellFormed, Decode -/

theorem test_wf_refuses_request_kind_as_bad_kind : (Instr.badKind 0x16 0 []).wellFormed = false := by decide
theorem test_wf_takes_unknown_kind : (Instr.badKind 0x17 0 []).wellFormed = true := by decide
theorem test_wf_refuses_long_body : (Instr.getShelf 0 (List.replicate 251 0)).wellFormed = false := by decide +kernel
theorem test_wf_refuses_long_bad_kind : (Instr.badKind 0x00 0 (List.replicate 251 0)).wellFormed = false := by
  decide +kernel
theorem test_wf_takes_longest_body : (Instr.getShelf 0 (List.replicate 250 0)).wellFormed = true := by decide +kernel
theorem test_no_word_spells_a_command : decodeTableWord 8 0x01 = none := rfl

/-! ### Worked values of the spec -/

/-- R174: over the nine characters "123456789" the check is 0x29B1. -/
theorem test_check_value : crc16 [0x31, 0x32, 0x33, 0x34, 0x35, 0x36, 0x37, 0x38, 0x39] = 0x29B1 := by decide +kernel

/-- A monitor whose feed A reads a filtered value, alone. -/
def reading (f : Nat) : FeedMonitor :=
  { FeedMonitor.reset with feedA := { present := true, reading := some { acc := 16 * f, status := .good } } }

/-- R130: the table of budgets. -/
theorem test_budget_table :
    [3946, 4000, 4001, 4637, 4800, 5200, 6000].map (fun f => (reading f).computeBudget)
      = [0, 0, 0, 318, 400, 600, 600] := by decide

/-- R130: with Gain 255, a margin of 151 reaches the cap and one of 150 gives 597. -/
theorem test_budget_gain :
    [4151, 4150].map (fun f => { reading f with gain := 255 }.computeBudget) = [600, 597] := by decide

/-- R123: a rising feed rests below 16 times the sample, and a falling one reaches it. -/
theorem test_filter_rounds_down :
    filterStep 3 79993 5000 = 79993 ∧ filterStep 3 80001 5000 = 80000 ∧ filterStep 0 0 8191 = 131056 := by decide

/-- R86: the term after 255 is 1. -/
theorem test_next_term_wraps :
    [none, some 1, some 254, some 255].map (fun t => { SlotRec.reset with storedTerm := t }.nextTerm) = [1, 2, 255, 1] := by
  decide

/-- R60: the episode counter goes from 65535 to 1. -/
theorem test_counter_wraps : advanceCounter 65535 = 1 ∧ advanceCounter 0 = 1 := by decide

/-- R9: a width-2 link takes H23 when a cell of H01 is held. -/
theorem test_search_takes_the_next_pair :
    searchCells [{ highway := 1, index := 0, link := 5 }] 2 512 0 = some (.h23, 0) := by decide

/-- R101: AGREE writes and marks a group that differs; FILL writes an unfit one and copies a fit one. -/
theorem test_merge_table :
    MergeFunction.agree.choose (some { fit := true, equal := false }) = { copy := false, write := true, mark := true }
      ∧ MergeFunction.fill.choose (some { fit := false, equal := false }) = { copy := false, write := true, mark := false }
      ∧ MergeFunction.card.choose (some { fit := false, equal := false }) = { copy := true, write := true, mark := false } := by
  decide

/-! ### Small steps -/

/-- R163, R166, 11.4: the frame of a GET SHELF on the line brings its reply. -/
theorem test_frame_brings_a_reply :
    (({ kind := 0x09, tag := 3, body := [] } : Frame).wire.foldl (fun s c => after (.characterReceived c) s)
      State.reset).port.replies.map (fun r => (r.kind, r.tag, r.status, r.fields.length)) = [(0x09, 3, .ok, 24)] := by
  decide +kernel

/-- R76, R77: a LOAD SLOT in COLD turns the slot OFF; R80: START SHELF then queues it. -/
theorem test_load_and_start :
    let s := after (.loadSlot 1 [2, 1, 0, 20, 0, 8, 0, 0, 0, 60, 0, 20, 0, 5, 2, 88, 0, 15, 0]) State.reset
    (s.blk.slot 2).state = .off ∧ ((s.blk.slot 2).plan.map Plan.rampTime) = some 10
      ∧ s.port.replies.map (fun r => (r.status, r.fields)) = [(.clamped, [0, 10, 2, 88])]
      ∧ ((after (.startShelf 1 []) { s with port := SupervisionPort.reset }).blk.slot 2).state = .queued := by
  decide +kernel

/-- R145: a trip at 254 counts to 255, opens the switch, and the slot is LOST. -/
theorem test_trip :
    let t := after (.switchTrip 0) liveState
    t.blk.powerRec 0 = { closed := false, charge := 0, ramp := none, dark := none, trips := 255 }
      ∧ (t.blk.slot 0).state = .lost ∧ (t.blk.slot 0).lostReason = some .powerFault := by
  decide +kernel

/-- R137, R139: the queue requests of a START SHELF are taken one after another, so under a budget of one inrush slot 0 is
admitted before slot 1 of a lower rank has joined (log 26). -/
theorem test_start_shelf_judges_each_request :
    let off (rank : Nat) : SlotRec := { SlotRec.reset with plan := some { workPlan with admissionRank := rank }, state := .off }
    let b := (Blocks.reset.modSlot 0 (fun _ => off 3)).modSlot 1 (fun _ => off 0)
    let t := after (.startShelf 1 [])
      { State.reset with blk := { b with power := { b.power with supply := .up, budget := 60 } } }
    (t.blk.slot 0).state = .ramping ∧ (t.blk.slot 1).state = .queued ∧ t.blk.power.queue = [1] := by
  decide +kernel

/-- R155: a completion that is none of the three fails the attempt in ACKNOWLEDGE too, for an order without records. -/
theorem test_bad_completion_fails_an_attempt_in_acknowledge :
    let s := withBus State.reset (carrying .clear 1 [] .acknowledge 0)
    (after (.cardCompletion 7) s).blk.bus.registryAttempts = 1 ∧ (after (.cardCompletion 0) s) = s := by
  decide +kernel

/-- R78, R104: the next run rests at the last one, and the write set is served after it. -/
theorem test_loading_advances :
    Loading.advance 9 { step := .writes, next := 0, write := [] } = { step := .writes, next := 1, write := [] }
      ∧ Loading.advance 9 { step := .writes, next := 1, write := [] } = { step := .writeSet, next := 1, write := [] } := by
  decide

/-! ### Witnesses: for each statement with hypotheses, a state and operands that meet them, clause by clause -/

/-- A request that waits, and a reply to it. -/
def waiting : Frame := { kind := 0x09, tag := 1, body := [] }
def replyTo (kind : Byte) (status : Status) (inHand : Bool) : Reply := { kind, tag := 1, status, fields := [], inHand }

/-- The port with a reply on the line, and the frames in the buffer. -/
def sending (r : Reply) (buffer : List Frame) : State :=
  withPort State.reset { SupervisionPort.reset with line := .reply, replies := [r], buffer }

theorem witness_StepRunsTheFrontCommand :
    { State.reset with pending := [Instr.lineError, .frameSent] }.pending = .lineError :: [.frameSent] := rfl

theorem witness_EmptyQueueIsOneMillisecond :
    State.reset.pending = [] ∧ State.reset.resetHeld = false ∧ (after .deviceReset State.reset).pending = []
      ∧ (after .deviceReset State.reset).resetHeld = true := by decide +kernel

theorem witness_PinResetsAndHoldsThePart :
    (after .deviceReset State.reset).resetHeld = true ∧ isResetPin .lineError = false := by decide +kernel

theorem witness_CharactersErrorsAndGapsMoveTheFramer :
    State.reset.Awake ∧ State.reset.port.framer = .hunt
      ∧ [[0xA5], [0xA5, 0], [0xA5, 0, 2], [0xA5, 0, 2, 9, 1, 0]].map
          (fun cs => (cs.foldl (fun (s : State) c => after (.characterReceived c) s) State.reset).port.framer)
        = [.length [], .length [0], .frame 2 [], .frame 2 [9, 1, 0]]
      ∧ (withPort State.reset { SupervisionPort.reset with framer := .frame 3 (9 :: 1 :: [7] ++ [0]) }).port.framer
        = .frame ([(7 : Byte)].length + 2) (9 :: 1 :: [7] ++ [0])
      ∧ State.reset.port.gap = none ∧ (after (.characterReceived 0xA5) State.reset).port.gap.isSome = true :=
  ⟨rfl, rfl, by decide +kernel, rfl, rfl, by decide +kernel⟩

theorem witness_FrameOnTheLineIsReceivedWhole :
    SupervisionPort.reset.framer = .hunt
      ∧ ({ kind := 0, tag := 0, body := List.replicate 250 0xA5 } : Frame).body.length ≤ 250 := by decide +kernel

theorem witness_RequestBufferQueuesOrAnswersBusy :
    let s (n busy : Nat) := withPort State.reset { SupervisionPort.reset with
      buffer := List.replicate n waiting, replies := List.replicate busy (replyTo 9 .busy false) }
    (s 3 0).Awake ∧ requestFrame (.getShelf 1 []) = some waiting ∧ (s 3 0).port.buffer ≠ [] ∧ (s 3 0).port.buffer.length < 4
      ∧ 4 ≤ (s 4 3).port.buffer.length ∧ (s 4 3).port.busyCount < 4 ∧ 4 ≤ (s 4 4).port.busyCount :=
  ⟨rfl, rfl, by decide +kernel⟩

theorem witness_BadKindAndBadLengthMoveNoBlock :
    State.reset.Ready ∧ isRequestKind 0x17 = false ∧ isRequestKind 0 = false
      ∧ requestFrame (.getSlot 1 []) = some { kind := 0x0A, tag := 1, body := [] } ∧ allowedLengths 0x0A = some [1]
      ∧ ([] : List Byte).length ∉ [1] := ⟨reset_ready, by decide, by decide, rfl, rfl, by decide⟩

theorem witness_FrameSentMovesTheLine :
    State.reset.Ready ∧ State.reset.Awake ∧ State.reset.port.line = .free
      ∧ (withPort State.reset { SupervisionPort.reset with line := .notice { event := .overflow 0, time := 0 } }).port.line
          = .notice { event := .overflow 0, time := 0 }
      ∧ (replyTo 9 .busy false).inHand = false
      ∧ ((replyTo 8 .badLength true).inHand = true ∧ ¬((replyTo 8 .badLength true).kind = 0x08 ∧ (replyTo 8 .badLength true).status = .ok)
        ∧ (sending (replyTo 8 .badLength true) [waiting]).port.buffer = [waiting])
      ∧ ((replyTo 8 .ok true).inHand = true ∧ (replyTo 8 .ok true).kind = 0x08 ∧ (replyTo 8 .ok true).status = .ok)
      ∧ (sending (replyTo 8 .ok true) []).port.line = .reply
      ∧ (sending (replyTo 8 .ok true) []).port.replies = [replyTo 8 .ok true] := ⟨reset_ready, rfl, by decide +kernel⟩

theorem witness_NextRequestComesIntoHand :
    let s := sending (replyTo 9 .ok true) [waiting, waiting, waiting, waiting]
    s.Awake ∧ s.port.line = .reply ∧ s.port.replies = replyTo 9 .ok true :: [] ∧ (replyTo 9 .ok true).inHand = true
      ∧ ¬((replyTo 9 .ok true).kind = 0x08 ∧ (replyTo 9 .ok true).status = .ok) ∧ s.port.buffer = waiting :: waiting :: [waiting, waiting]
      ∧ requestFrame (.getShelf 1 []) = some waiting := ⟨rfl, rfl, rfl, rfl, by decide, rfl, rfl⟩

theorem witness_NoticeQueueOverflow :
    let n : Notice := { event := .overflow 0, time := 0 }
    let p := { SupervisionPort.reset with notices := n :: List.replicate 16 n, overflow := some 7 }
    p.line = .free ∧ p.replies = [] ∧ p.notices = n :: List.replicate 16 n := ⟨rfl, rfl, rfl⟩

/-- Refused by each value in turn, and accepted at the boundaries. -/
theorem witness_SetFeedsReplacesTheSettings :
    State.reset.Ready ∧ 8191 < 256 * (0x20 : Byte).toNat + (0 : Byte).toNat ∧ 1 < (2 : Byte).toNat
      ∧ ((1 : Byte).toNat ≤ 1 ∧ (0 : Byte).toNat ≤ 1 ∧ 256 * (0x1F : Byte).toNat + (0xFE : Byte).toNat ≤ 8191
        ∧ 256 * (0x1F : Byte).toNat + (0xFF : Byte).toNat ≤ 8191 ∧ 1 ≤ (1 : Byte).toNat + (0 : Byte).toNat
        ∧ 256 * (0x1F : Byte).toNat + (0xFE : Byte).toNat < 256 * (0x1F : Byte).toNat + (0xFF : Byte).toNat) :=
  ⟨reset_ready, by decide⟩

/-- A Cap of 0 is refused, a Cap below the load of a LIVE slot is LOAD_ABOVE, one at the inrush of its plan is taken. -/
theorem witness_SetBudgetReplacesTheSettings :
    State.reset.Ready ∧ ¬(1 ≤ 256 * (0 : Byte).toNat + (0 : Byte).toNat)
      ∧ liveState.Ready ∧ liveState.blk.capServes 60 = true ∧ liveState.blk.power.load ≤ 60
      ∧ (let s := standing .live { closed := true, charge := 61, ramp := none, dark := none, trips := 0 }
         s.Ready ∧ s.blk.capServes 60 = true ∧ 60 < s.blk.power.load) :=
  ⟨reset_ready, by decide, live_ready, by decide +kernel, by decide +kernel, ⟨rfl, ⟨rfl, rfl⟩, rfl⟩, by decide +kernel,
   by decide +kernel⟩

theorem witness_SetRelinkAndSetNoticesReplaceTheSettings :
    State.reset.Ready ∧ 16 ≤ (16 : Byte).toNat ∧ (15 : Byte).toNat < 16
      ∧ ((1 : Byte).toNat ≤ 1 ∧ (0 : Byte).toNat ≤ 1) ∧ 1 < (2 : Byte).toNat :=
  ⟨reset_ready, by decide, by decide, by decide, by decide⟩

/-- The body of a LOAD SLOT of slot 0 under the working plan, with a ramp time. -/
def loadBody (inrush ramp : Byte) : List Byte := [0, 1, 0, 20, 0, 8, 0, 0, 0, inrush, 0, 20, 0, ramp, 2, 88, 0, 15, 0]

/-- COLD with a link whose end A is on slot 0. -/
def aLink : Link :=
  { id := 3, cls := .trunk, seq := 0, epA := { slot := 0, port := 1, home := none },
    epB := { slot := 1, port := 1, home := none }, hset := .h01, index := 511, state := .pending, deferral := none,
    late := false, removal := false, attA := false, attB := false }

def linkedState (l : Link) : State :=
  { State.reset with blk := { Blocks.reset with
      store := { links := [l], cells := cellsOf l.hset l.index l.id, seq := some 1 } } }

theorem linked_ready (l : Link) : (linkedState l).Ready := ⟨rfl, ⟨rfl, rfl⟩, rfl⟩

/-- The bodies spell planned no, a plan that is taken and one whose steady is above its inrush; slot 16 spells nothing. -/
theorem witness_LoadSlotReplacesThePlan_spelled :
    (∀ i plan, ¬LoadSlotSpelled [16, 0] i plan) ∧ LoadSlotSpelled [0, 0] 0 none
      ∧ LoadSlotSpelled (loadBody 60 5) 0 (some { workPlan with rampTime := 5 })
      ∧ LoadSlotSpelled (loadBody 10 5) 0 (some { workPlan with rampTime := 5, inrush := 10 }) := by
  refine ⟨?_, ⟨rfl, .inl ⟨rfl, rfl⟩⟩, ⟨rfl, .inr ⟨rfl, _, rfl, ?_⟩⟩, ⟨rfl, .inr ⟨rfl, _, rfl, ?_⟩⟩⟩
  · intro i plan h
    have h16 : 16 = i.val := h.1
    omega
  · unfold PlanSpelled; decide
  · unfold PlanSpelled; decide

theorem witness_LoadSlotReplacesThePlan :
    State.reset.Ready ∧ liveState.Ready ∧ (loadBody 60 5).length = 19 ∧ [(16 : Byte), 0].length = 2
      ∧ liveState.blk.replannable 0 = false ∧ State.reset.blk.ep.shelf = .cold
      ∧ ¬PlanStrands State.reset.blk 0 none
      ∧ ((linkedState aLink).Ready ∧ PlanStrands (linkedState aLink).blk 0 none)
      ∧ PlanAgrees State.reset.blk State.reset.feed.cap 0 { workPlan with rampTime := 5 }
      ∧ ¬PlanAgrees State.reset.blk State.reset.feed.cap 0 { workPlan with rampTime := 5, inrush := 10 } := by
  refine ⟨reset_ready, live_ready, by decide, by decide, by decide +kernel, rfl, ?_, ⟨linked_ready _, ?_⟩, ?_, ?_⟩
  · rintro ⟨_, l, h, _⟩; cases h
  · exact ⟨rfl, aLink, .head _, aLink.epA, .head _, .inl rfl, fun _ h => nomatch h⟩
  · refine ⟨by decide, by decide, by decide +kernel, fun h => absurd h (by decide), fun _ h => absurd h (by decide), ?_⟩
    rintro ⟨_, l, h, _⟩; cases h
  · intro h; exact absurd h.1 (by decide)

theorem witness_StartShelfQueuesTheSlots :
    liveState.Ready ∧ liveState.blk.ep.shelf ≠ .cold ∧ State.reset.Ready ∧ State.reset.blk.ep.shelf = .cold
      ∧ ({ State.reset with blk := Blocks.reset.modSlot 0 (fun _ => inState .off) }.blk.slot 0).state = .off :=
  ⟨live_ready, by decide +kernel, reset_ready, rfl, by decide +kernel⟩

/-- The blocks in a shelf state, with a record open, or the one slot in a state. -/
def inShelf (shelf : ShelfState) (b : Blocks) : Blocks :=
  { b with ep := { b.ep with shelf, history := [Episode.opened 7 .drill 0 none] } }

/-- A report of the supply in each shelf state; an episode that closes, one held open by a slot and one by the queue. -/
theorem witness_DrillOpensAnEpisode_reports :
    (inShelf .settling Blocks.reset).ep.shelf = .settling ∧ (inShelf .recovering Blocks.reset).ep.shelf = .recovering
      ∧ Blocks.reset.ep.shelf = .cold ∧ Blocks.reset.ep.shelf ≠ .holdup ∧ (inShelf .holdup Blocks.reset).ep.shelf = .holdup
      ∧ (inShelf .recovering liveState.blk).ep.history = [Episode.opened 7 .drill 0 none]
      ∧ (Episode.opened 7 .drill 0 none).ended = none ∧ Blocks.reset.ep.history = []
      ∧ (inShelf .recovering liveState.blk).engine.queue = []
      ∧ (¬∃ i, ((inShelf .recovering liveState.blk).slot i).state
          ∈ [SlotState.dark, .queued, .ramping, .held, .identifying, .loading])
      ∧ (Blocks.judgeClose 9 (inShelf .recovering liveState.blk)).ep.shelf = .standby
      ∧ (∃ i, ((inShelf .recovering (standing .dark PowerRec.reset).blk).slot i).state
          ∈ [SlotState.dark, .queued, .ramping, .held, .identifying, .loading])
      ∧ (Blocks.supplyReport 9 .down none (inShelf .settling Blocks.reset)).ep.history.map
          (fun e => (e.number, e.cause, e.redips)) = [(7, .feed, 1)] := by
  refine ⟨rfl, rfl, rfl, by decide, rfl, rfl, rfl, rfl, rfl, by decide +kernel, by decide +kernel, ⟨0, by decide +kernel⟩,
    by decide +kernel⟩

theorem witness_DrillOpensAnEpisode :
    liveState.Ready ∧ 1 < (2 : Byte).toNat ∧ (1 : Byte).toNat ≤ 1 ∧ State.reset.Ready ∧ State.reset.blk.ep.shelf ≠ .standby
      ∧ liveState.blk.ep.shelf = .standby ∧ liveState.feed.armed = true ∧ liveState.feed.supply = .up :=
  ⟨live_ready, by decide, by decide, reset_ready, by decide +kernel, rfl, rfl, rfl⟩

/-- In SETTLING a READY link that is not the head is stood down, the head and a flagged one are not; outside it none is; and
an emptied in-flight set brings the freeze. -/
theorem witness_DrillOpensAnEpisode_settles :
    let settling (queue : List Nat) (removal : Bool) : Blocks := { inShelf .settling (linkedState { aLink with state := .ready, removal }).blk with
      engine := { Engine.reset with queue, inFlight := [InFlight.new 3 .queue .idle] } }
    (settling [2, 3] false).link 3 = some { aLink with state := .ready } ∧ (settling [2, 3] false).ep.shelf = .settling
      ∧ (settling [2, 3] false).standDown.link 3 = some aLink ∧ (settling [2, 3] false).standDown.entry 3 = none
      ∧ (settling [2, 3] false).standDown.engine.queue = [2, 3]
      ∧ (settling [3, 2] false).standDown = settling [3, 2] false ∧ (settling [2, 3] true).standDown = settling [2, 3] true
      ∧ liveState.blk.ep.shelf ≠ .settling ∧ (settling [2, 3] false).engine.inFlight ≠ []
      ∧ (inShelf .settling liveState.blk).engine.inFlight = []
      ∧ (Blocks.judgeSettled 9 (inShelf .settling liveState.blk)).ep.shelf = .recovering := by
  decide +kernel

theorem witness_ShelfSlotAndEpisodeAreRead : liveState.Ready := live_ready

theorem witness_LinksAndPortsAreRead :
    (linkedState aLink).Ready ∧ (linkedState aLink).blk.link 3 = some aLink
      ∧ (∀ p start, ¬PatternSpelled [32, 0, 0, 0, 0, 0, 0, 0] p start)
      ∧ PatternSpelled [9, 2, 0, 0, 2, 0, 3, 0xFF]
          { cls := some .trunk, slot := none, state := none, width := some 2, hset := none } 1023
      ∧ (15 : Byte).toNat = (15 : SlotId).val ∧ (31 : Byte).toNat = (31 : Fin 32).val := by
  refine ⟨linked_ready _, by decide +kernel, ?_, ?_, rfl, rfl⟩
  · intro p start h; exact absurd h.1 (by decide)
  · exact ⟨by decide, ⟨nofun, fun _ => ⟨_, rfl, by decide⟩⟩, ⟨fun _ => rfl, nofun⟩, ⟨fun _ => rfl, nofun⟩,
      ⟨nofun, fun _ => ⟨_, rfl, by decide⟩⟩, ⟨fun _ => rfl, nofun⟩, nofun, by decide, by decide⟩

/-- A CREATE LINK of a body, in a state with two planned slots. -/
def twoSlots : State :=
  { State.reset with
    blk := (Blocks.reset.modSlot 0 (fun _ => inState .off)).modSlot 1 (fun _ => inState .off) }

theorem two_ready : twoSlots.Ready := ⟨rfl, ⟨rfl, rfl⟩, rfl⟩

/-- A request of width 2 between slots 0 and 1, cells given or not. -/
def wanted (portA : Fin 32) (place : Option (HighwaySet × Nat)) : LinkRequest :=
  { cls := .trunk, slotA := 0, portA, slotB := 1, portB := 1, width := 2, place }

theorem witness_CreateLinkBuildsTheRecord :
    twoSlots.Ready ∧ (∀ r, ¬LinkRequestSpelled [4, 0, 1, 1, 1, 2, 0xFF, 0xFF, 0xFF] r)
      ∧ LinkRequestSpelled [2, 0, 8, 1, 1, 2, 0xFF, 0xFF, 0xFF] (wanted 8 none)
      ∧ LinkRequestSpelled [2, 0, 7, 1, 1, 2, 4, 1, 0xFF] (wanted 7 (some (.h01, 511)))
      ∧ twoSlots.blk.usableEnds (wanted 8 none) = none
      ∧ (twoSlots.blk.usableEnds (wanted 7 none)).isSome = true
      ∧ twoSlots.blk.link 0 = none
      ∧ twoSlots.blk.findCells (wanted 7 (some (.h01, 511))) = .ok (.h01, 511)
      ∧ (linkedState aLink).blk.findCells (wanted 7 (some (.h01, 511))) = .error .cellsTaken
      ∧ (linkedState aLink).blk.portInUse aLink.epA = true := by
  refine ⟨two_ready, ?_, ?_, ?_, by decide +kernel, by decide +kernel, by decide +kernel, by decide +kernel,
    by decide +kernel, by decide +kernel⟩
  · intro r h; simp [LinkRequestSpelled, numberAt] at h
  · exact ⟨by decide, rfl, rfl, rfl, rfl, rfl, by decide, .inl ⟨rfl, rfl, rfl⟩⟩
  · exact ⟨by decide, rfl, rfl, rfl, rfl, rfl, by decide, .inr ⟨.h01, by decide, by decide, rfl⟩⟩

/-- Slot 0 in a state, held by the spare in slot 1. -/
def heldState (st : SlotState) : State :=
  let s := standing st PowerRec.reset
  { s with blk := s.blk.modSlot 1 (fun _ =>
      { inState .live with plan := some { workPlan with role := .spare }, coveredSlot := some 0,
                           coverLoad := some { runs := 0, done := false } }) }

theorem held_ready (st : SlotState) : (heldState st).Ready := ⟨rfl, ⟨rfl, rfl⟩, rfl⟩

/-- An end on a slot in OFF, one on a slot the spare covers, and a record that meets what a CREATE LINK builds. -/
theorem witness_CreateLinkBuildsTheRecord_ends :
    EndpointPasses twoSlots.blk 0 7 { slot := 0, port := 7, home := none }
      ∧ EndpointPasses twoSlots.blk 1 1 { slot := 1, port := 1, home := none }
      ∧ (⟨0, 7, none⟩ : Endpoint).collides ⟨1, 1, none⟩ = false
      ∧ EndpointPasses (heldState .covered).blk 0 7 { slot := 1, port := 7, home := some 0 }
      ∧ twoSlots.blk.link aLink.id = none ∧ aLink.id ∉ twoSlots.blk.engine.queue :=
  ⟨⟨workPlan, by decide +kernel⟩, ⟨workPlan, by decide +kernel⟩, by decide,
   ⟨workPlan, by decide +kernel, by decide, by decide, by decide +kernel, by decide +kernel, by decide +kernel,
    by decide +kernel, fun _ => ⟨1, by decide +kernel⟩⟩, by decide +kernel, by decide +kernel⟩

/-- R6: with the counter spent, the sequences 7 and 900 become 0 and 1, and the new record has 2. -/
theorem witness_CreateLinkBuildsTheRecord_renumbered :
    let b : Blocks := { Blocks.reset with store :=
      { links := [{ aLink with id := 1, seq := 900 }, { aLink with id := 2, seq := 7 }], cells := [], seq := none } }
    let c := Blocks.createLink { aLink with seq := 2 } b
    b.store.seq = none ∧ b.link aLink.id = none ∧ aLink.id ∉ b.engine.queue
      ∧ [1, 2, 3].map (fun k => (c.link k).map Link.seq) = [some 1, some 0, some 2] ∧ c.store.seq = some 3 := by
  decide +kernel

theorem witness_CellsFoundAreFree :
    (wanted 0 (some (.h01, 511))).place = some (.h01, 511) ∧ (wanted 0 none).place = none
      ∧ State.reset.blk.findCells (wanted 0 none) = .ok (.h01, 0) := by
  exact ⟨rfl, rfl, by decide +kernel⟩

/-- The link deferred for a reason. -/
def deferredLink (reason : DeferReason) : Link := { aLink with state := .deferred, deferral := some { reason, since := 9 } }

theorem witness_RemoveReleasesAndRetryFreesTheLink :
    (linkedState aLink).Ready ∧ 1024 ≤ 256 * (4 : Byte).toNat + (0 : Byte).toNat
      ∧ (linkedState aLink).blk.link 2 = none ∧ (linkedState aLink).blk.link 3 = some aLink
      ∧ aLink.state ≠ .releasing ∧ aLink.removal = false
      ∧ (linkedState { aLink with state := .releasing }).blk.link 3 = some { aLink with state := .releasing }
      ∧ (linkedState (deferredLink .hold)).Ready ∧ aLink.state ≠ .deferred
      ∧ (linkedState (deferredLink .hold)).blk.link 3 = some (deferredLink .hold)
      ∧ (linkedState (deferredLink .refused)).blk.link 3 = some (deferredLink .refused)
      ∧ (deferredLink .hold).deferral = some { reason := .hold, since := 9 } := by
  exact ⟨linked_ready _, by decide, by decide +kernel, by decide +kernel, by decide, rfl, by decide +kernel,
    linked_ready _, by decide, by decide +kernel, by decide +kernel, rfl⟩

theorem witness_SetPortReplacesTheGroups :
    State.reset.Ready ∧ [(31 : Byte), 15, 3, 0x88, 60, 7, 15, 2, 1].length = 9
      ∧ PortFieldsSpelled [31, 15, 3, 0x88, 60, 7, 15, 2, 1]
          { line := some (15, 3), level := some (-120, 60), signal := some (7, 15), test := some .loopOuter,
            admin := some true }
      ∧ PortFieldsSpelled [0, 16, 4, 0x88, 60, 8, 16, 3, 2]
          { line := none, level := none, signal := none, test := none, admin := none }
      ∧ (∀ g, ¬PortFieldsSpelled [32, 0, 0, 0, 0, 0, 0, 0, 0] g)
      ∧ (15 : Byte).toNat = (15 : SlotId).val ∧ (31 : Byte).toNat = (31 : Fin 32).val := by
  refine ⟨reset_ready, by decide, ?_, ?_, ?_, rfl, rfl⟩
  · exact ⟨by decide, ⟨nofun, fun _ => ⟨_, rfl, by decide⟩⟩, ⟨nofun, fun _ => ⟨_, rfl, by decide⟩⟩,
      ⟨nofun, fun _ => ⟨_, rfl, by decide⟩⟩, ⟨nofun, fun _ => ⟨_, rfl, by decide⟩⟩, ⟨nofun, fun _ => ⟨_, rfl, by decide⟩⟩⟩
  · exact ⟨by decide, ⟨fun _ => rfl, nofun⟩, ⟨fun _ => rfl, nofun⟩, ⟨fun _ => rfl, nofun⟩, ⟨fun _ => rfl, nofun⟩,
      ⟨fun _ => rfl, nofun⟩⟩
  · intro g h; exact absurd h.1 (by decide)

/-- The pass-through order on the bus, in a phase, with its request in hand. -/
def passing (phase : Phase) : State :=
  let order : BusOrder := { slot := 0, code := .readPorts, first := 7, count := 1, send := [], purpose := .passThrough }
  { liveState with
    blk := { liveState.blk with bus := { CardBus.reset with
      pass := some order, passAttempts := 2
      transfer := some { order, requester := .passThrough, phase, given := [], taken := 0, wait := 10 } } }
    port := { SupervisionPort.reset with buffer := [waiting] } }

theorem witness_CardPortsIsPlacedAndAnswered :
    liveState.Ready ∧ ¬((0 : Byte).toNat ≥ 1) ∧ (7 : Byte).toNat + (1 : Byte).toNat ≤ 32
      ∧ liveState.blk.ep.isOpen = false ∧ (liveState.blk.slot 0).state = .live
      ∧ (liveState.blk.slot 0).plan = some workPlan ∧ 7 + 1 ≤ workPlan.portCount
      ∧ State.reset.Ready ∧ (State.reset.blk.slot 0).state ≠ .live
      ∧ (∀ e ∈ [Ending.failed, .completed .done, .completed .refused, .completed .fresh],
          (passing (.release e)).Awake ∧ (passing (.release e)).Quiet
            ∧ (passing (.release e)).blk.bus.transfer.map (fun tr => (tr.requester, tr.phase))
                = some (.passThrough, .release e)
            ∧ (passing (.release e)).blk.bus.pass.map BusOrder.purpose = some .passThrough)
      ∧ (passing .data).blk.freeze.bus.pass = none ∧ (passing (.release .cut)).blk.freeze.bus.pass.isSome = true := by
  refine ⟨live_ready, by decide, by decide, by decide +kernel, by decide +kernel, by decide +kernel, by decide, reset_ready,
    by decide +kernel, ?_, by decide +kernel, by decide +kernel⟩
  intro e _
  exact ⟨rfl, ⟨rfl, rfl⟩, rfl, rfl⟩

theorem witness_RestartAndRevertTurnTheSlotDark :
    liveState.Ready ∧ (16 : Byte).toNat ≥ 16 ∧ (State.reset.blk.slot 0).state = .vacant
      ∧ ((liveState.blk.slot 0).state = .live ∧ (liveState.blk.slot 0).coveredSlot = none
        ∧ (liveState.blk.slot 0).revertMark = false)
      ∧ ((heldState .lost).Ready ∧ ((heldState .lost).blk.slot 0).state = .lost
        ∧ ((heldState .lost).blk.slot 1).coveredSlot = some 0)
      ∧ ((standing .lost PowerRec.reset).blk.slot 0).state = .lost
      ∧ (standing .lost PowerRec.reset).blk.holder 0 = none
      ∧ ((heldState .covered).Ready ∧ ((heldState .covered).blk.slot 0).state = .covered)
      ∧ (liveState.blk.powerRec 0).closed = true ∧ ((heldState .lost).blk.powerRec 0).charge = 0
      ∧ ((heldState .covered).blk.powerRec 0).charge = 0 := by
  exact ⟨live_ready, by decide, by decide +kernel, by decide +kernel, ⟨held_ready _, by decide +kernel, by decide +kernel⟩,
    by decide +kernel, by decide +kernel, ⟨held_ready _, by decide +kernel⟩, by decide +kernel, by decide +kernel,
    by decide +kernel⟩

/-- The report of slot 0 in place: a CARRIED link, a SUSPECT one, one in flight, and one whose removal is requested there. -/
theorem witness_RestartAndRevertTurnTheSlotDark_reported :
    let b (l : Link) (queue : List Nat) (inFlight : List InFlight) : Blocks :=
      { (linkedState l).blk with engine := { Engine.reset with queue, inFlight } }
    let got (b : Blocks) := ((b.slotInPlace 0).link 3).map (fun m => (m.state, m.attA, m.attB, m.late))
    let attached := { aLink with attA := true, attB := true, late := true }
    let carried := b { attached with state := .carried } [] []
    let suspect := b { attached with state := .suspect } [3] []
    let preparing := b { attached with state := .preparing } [] [InFlight.new 3 .deferred .attach]
    let flagged := b { attached with state := .ready, removal := true } [3] [InFlight.new 3 .queue .idle]
    got carried = some (.pending, false, true, true) ∧ (carried.slotInPlace 0).engine.queue = [3]
      ∧ got suspect = some (.pending, false, true, true) ∧ (suspect.slotInPlace 0).engine.queue = [3]
      ∧ got preparing = some (.pending, false, true, true) ∧ (preparing.slotInPlace 0).engine.queue = [3]
      ∧ (preparing.slotInPlace 0).engine.inFlight = []
      ∧ got flagged = some (.releasing, false, true, true) ∧ (flagged.slotInPlace 0).engine.queue = [] := by
  decide +kernel

theorem witness_SlotRetireLosesTheSlot :
    State.reset.Ready ∧ (State.reset.blk.slot 0).state = .vacant ∧ liveState.Ready
      ∧ (liveState.blk.slot 0).state ∉ [SlotState.vacant, .off, .covered, .lost]
      ∧ (heldState .lost).Ready ∧ ((heldState .lost).blk.slot 0).state = .lost := by
  exact ⟨reset_ready, by decide +kernel, live_ready, by decide +kernel, held_ready _, by decide +kernel⟩

/-- A change to tell of, a budget to tell of alone, and nothing to tell. -/
theorem witness_FeedSampleIsFiltered_told :
    ({ reading 4300 with budget := 7 }).budget ≠ ({ reading 4300 with budget := 7 }).lastReported
      ∧ (reading 4300).budget = (reading 4300).lastReported ∧ FeedMonitor.reset.countedFeeds = []
      ∧ (reading 4300).countedFeeds = [{ acc := 16 * 4300, status := .good }] ∧ (reading 4300).fmin = some 4300 := by
  decide

theorem witness_FeedSampleIsFiltered :
    State.reset.Awake ∧ State.reset.feed.feedA.present = true ∧ State.reset.feed.feedA.reading = none
      ∧ ({ State.reset with feed := reading 4300 }.feed.feed .a).reading.isSome = true
      ∧ ((reading 4300).setFeed { present := false, reading := none } .b).feedB.present = false := by
  exact ⟨rfl, rfl, rfl, rfl, rfl⟩

theorem witness_SupplyAndBudgetAreJudgedOverCountedFeeds :
    (reading 4300).judgedSupply = .up ∧ (reading 4300).supply = .down ∧ (reading 4300).armed = false
      ∧ (reading 4300).armTime ≠ 0 ∧ FeedMonitor.reset.countedFeeds = []
      ∧ (reading 4300).countedFeeds = [{ acc := 16 * 4300, status := .good }] := by decide

theorem witness_ArmTimerArmsTheMonitor :
    State.reset.Awake ∧ State.reset.feed.armTimer = none
      ∧ { State.reset with feed := { reading 4300 with armTimer := some 0 } }.feed.armTimer.isSome = true :=
  ⟨rfl, rfl, rfl⟩

theorem witness_DipCounterCountsEveryDip :
    exec .lineError State.reset = .next State.reset ∧ Instr.lineError ≠ .deviceReset ∧ Instr.lineError ≠ .resetRelease
      ∧ Instr.lineError ≠ .frameSent := ⟨rfl, by decide, by decide, by decide⟩

/-- The hold timer run out for the one link in the queue. -/
def holding : State :=
  let s := linkedState aLink
  { s with blk := { s.blk with engine := { Engine.reset with queue := [3], hold := some { head := 3, left := 0 } } } }

theorem witness_HoldTimerDefersTheHead :
    State.reset.Awake ∧ State.reset.blk.engine.hold = none ∧ holding.Awake ∧ holding.blk.engine.hold.isSome = true
      ∧ holding.blk.engine.queue = [3] ∧ 3 ∉ ([] : List Nat) ∧ holding.blk.link 3 = some aLink :=
  ⟨rfl, rfl, rfl, rfl, rfl, by decide, by decide +kernel⟩

/-- A due head for which the timer does not run, one for which it runs, one under hold time 0, and an empty queue. -/
theorem witness_HoldTimerDefersTheHead_judged :
    let b (hold : Option HoldTimer) (holdTime : Nat) : Blocks :=
      { holding.blk with engine := { holding.blk.engine with hold, holdTime }
                         ep := { holding.blk.ep with shelf := .standby } }
    ((b none 10).startRule.activateReady.engine.queue = [3] ∧ (b none 10).startRule.activateReady.ep.shelf = .standby
        ∧ (b none 10).startRule.activateReady.link 3 = some aLink ∧ aLink.state = .pending
        ∧ (b none 10).startRule.activateReady.eligible aLink = false)
      ∧ (Blocks.judgeHead 9 1 (b none 10)).engine.hold = some { head := 3, left := 10 }
      ∧ (b (some { head := 3, left := 4 }) 10).startRule.activateReady.engine.hold = some { head := 3, left := 4 }
      ∧ (Blocks.judgeHead 9 2 (b none 0)).engine.deferred = [3]
      ∧ (Blocks.judgeHead 9 1 Blocks.reset).engine.hold = none := by
  decide +kernel

/-- Two LIVE slots identified intact, with the link between them in a state and a collection. -/
def joined (l : Link) (queue deferred : List Nat) : Blocks :=
  let b := (liveState.blk.modSlot 1 (fun _ => inState .live))
  { b with store := (linkedState l).blk.store, engine := { Engine.reset with queue, deferred } }

/-- Each choice of the start rule gives the link, and none gives a blocked one; a remapped end waits for the cover load. -/
theorem witness_StartsAndActivationsAreBounded_choices :
    (joined { aLink with state := .suspect } [3] []).startChoice = some { id := 3, origin := .queue, survey := true }
      ∧ (joined aLink [3] []).startChoice = some { id := 3, origin := .queue, survey := false }
      ∧ (joined (deferredLink .hold) [] [3]).startChoice = some { id := 3, origin := .deferred, survey := false }
      ∧ (joined (deferredLink .refused) [] [3]).startChoice = none
      ∧ (joined aLink [3] []).engine.inFlight.length < (joined aLink [3] []).engine.window
      ∧ (joined aLink [3] []).engine.window ≤ 8 ∧ (joined aLink [3] []).ep.shelf = .standby
      ∧ (joined aLink [3] []).link 3 = some aLink
      ∧ (joined aLink [3] []).eligible aLink = true
      ∧ (joined aLink [3] []).eligible { aLink with epA := { aLink.epA with home := some 5 } } = false := by
  decide +kernel

theorem witness_StartsAndActivationsAreBounded :
    (State.reset.blk.engine.inFlight.length < State.reset.blk.engine.window)
      ∧ (let b := (linkedState { aLink with state := .ready }).blk
         let e : Engine := { Engine.reset with queue := [3], window := 1, inFlight := [InFlight.new 3 .queue .idle] }
         let b := { b with engine := e }
         b.engine.window ≤ b.engine.inFlight.length ∧ (b.link 3).map Link.state = some .ready
           ∧ (b.activateReady.link 3).map Link.state = some .activating) := by decide +kernel

/-- SHED slots LIVE and QUEUED, a KEEP slot LIVE, and a slot that a shed spare covers, in each state of the supply. -/
def frozenSlots (supply : Supply) : Blocks :=
  let shed : Plan := { workPlan with policy := .shed }
  let b := liveState.blk.modSlot 1 (fun _ => { inState .live with plan := some { shed with role := .spare }, coveredSlot := some 2 })
  let b := (b.modSlot 2 (fun _ => { inState .covered with coverReason := some .late })).modSlot 3
    (fun _ => { inState .queued with plan := some shed })
  let b := (b.modSlot 4 (fun _ => inState .ramping)).modPower 1 (fun _ => { PowerRec.reset with closed := true, charge := 20 })
  { b with power := { b.power with queue := [3] }, ep := { b.ep with supply, history := [Episode.opened 7 .feed 0 none] } }

theorem witness_FreezeReturnsEveryLink_slots :
    (frozenSlots .down).ep.supply = .down ∧ (frozenSlots .up).ep.supply = .up
      ∧ (List.finRange 5).map (fun i => ((frozenSlots .down).freeze.slot (i.castLE (by decide))).state)
          = [.held, .dark, .lost, .dark, .ramping]
      ∧ (frozenSlots .down).freeze.ep.shelf = .holdup ∧ (frozenSlots .up).freeze.ep.shelf = .recovering
      ∧ ((frozenSlots .up).freeze.slot 0).state = .identifying ∧ ((frozenSlots .up).freeze.slot 4).deadline = some 600000
      ∧ ((frozenSlots .down).freeze.powerRec 1).dark = some 500 ∧ (frozenSlots .down).freeze.power.queue = []
      ∧ (frozenSlots .down).freeze.ep.history.map Episode.frozen = [some 0] := by
  decide +kernel

theorem witness_FreezeReturnsEveryLink :
    (linkedState { aLink with state := .carried }).blk.store.links[0]? = some { aLink with state := .carried }
      ∧ ((linkedState { aLink with state := .carried }).blk.freezeLinks.store.links[0]?).map Link.state = some .pending := by
  decide +kernel

theorem witness_GrantFollowsTheCycle :
    CardBus.reset.transfer = none
      ∧ (let bus := { carrying .identify 1 [] .acknowledge 0 with transfer := none, lastGranted := .passThrough }
         bus.transfer = none ∧ (bus.head .registry).isSome = true ∧ bus.paused = false) := by decide +kernel

/-- In each phase, an order with a record to give, one with a record to take, and one with none. -/
theorem witness_CardAnswersMoveThePhases :
    let s (code : OrderCode) (count : Nat) (send : List (List Byte)) (ph : Phase) :=
      withBus State.reset (carrying code count send ph 0)
    (∀ ph ∈ [Phase.acknowledge, .header, .data, .complete, .release .failed],
        (s .identify 1 [] ph).Awake ∧ (s .identify 1 [] ph).blk.bus.transfer.map Transfer.phase = some ph
          ∧ ((s .identify 1 [] ph).blk.bus.transfer.map Transfer.order).map BusOrder.fromCard = some 1)
      ∧ ((s .setTerm 1 [[1]] .data).blk.bus.transfer.map Transfer.order).map (fun o => (o.fromCard, o.send.length)) = some (0, 1)
      ∧ ((s .clear 1 [] .acknowledge).blk.bus.transfer.map Transfer.order).map (fun o => o.fromCard + o.send.length) = some 0
      ∧ recordFits .identify [20, 15, 32, 1, 1, 2] = true ∧ recordFits .identify [20, 16, 32, 1, 1, 2] = false := by
  refine ⟨?_, by decide +kernel, by decide +kernel, by decide +kernel, by decide +kernel⟩
  intro ph _
  exact ⟨rfl, rfl, rfl⟩

theorem witness_AttemptsEndWithTheirOutcome :
    (∀ e ∈ [Ending.cut, .failed, .completed .done], ∀ n ∈ [1, 2],
        let s := withBus State.reset (carrying .identify 1 [] (.release e) n)
        s.Awake ∧ s.blk.bus.transfer.map Transfer.phase = some (.release e) ∧ s.blk.bus.attempts .registry = n
          ∧ (s.blk.bus.head .registry).isSome = true)
      ∧ State.reset.blk.bus.transfer = none
      ∧ (∀ ph ∈ [Phase.header, .data, .complete, .acknowledge],
          (withBus State.reset (carrying .identify 1 [] ph 2)).blk.bus.transfer.map Transfer.phase = some ph
            ∧ (withBus State.reset (carrying .identify 1 [] ph 2)).blk.bus.attempts .registry = 2) := by
  refine ⟨?_, rfl, ?_⟩
  · intro e _ n _
    exact ⟨rfl, rfl, rfl, rfl⟩
  · intro ph _
    exact ⟨rfl, rfl⟩

/-- Slot 0 in a state with an order of the registry outstanding, and such an order. -/
def asked (st : SlotState) (code : OrderCode) (abandoned : Bool) : Blocks :=
  (standing st PowerRec.reset).blk.modSlot 0 (fun r => { r with order := some { code, abandoned } })
def orderOf (slot : SlotId) (code : OrderCode) (use : RegistryUse) : BusOrder :=
  { slot, code, first := 0, count := 1, send := [], purpose := .registry use }

/-- Identity records of an intact, a fresh and an unfit card under the working plan, each answered in IDENTIFYING and in
LIVE; an abandoned order, and a slot out of service. -/
theorem witness_IdentificationIsJudgedByFitAndTerm :
    let o := orderOf 0 .identify .identify
    let got (st : SlotState) (bytes : List Byte) := (Blocks.deliver 0 (asked st .identify false) o .done [bytes]).slot 0
    o.purpose = .registry .identify
      ∧ ((asked .live .identify true).slot 0).order.any RegistryOrder.abandoned = true
      ∧ ((asked .dark .identify false).slot 0).state.inService = false
      ∧ (∀ st ∈ [SlotState.identifying, .live],
          ((asked st .identify false).slot 0).order.any RegistryOrder.abandoned = false
          ∧ ((asked st .identify false).slot 0).state = st ∧ st.inService = true
          ∧ ((asked st .identify false).slot 0).plan = some workPlan
          ∧ ((asked st .identify false).slot 0).storedTerm = some 1
          ∧ (got st [20, 0, 8, 1, 0, 2]).state = .live ∧ (got st [20, 0, 8, 2, 0, 0]).state = .loading
          ∧ (got st [21, 0, 8, 1, 0, 0]).lostReason = some .mismatch)
      ∧ ([[(20 : Byte), 0, 8, 1, 0, 2]] : List (List Byte)).head?.bind readIdentity
          = some { cardType := 20, revision := 0, portCount := 8, term := 1, storedConfig := false, cause := .alarm } := by
  decide +kernel

/-- Slot 0 LOADING at a step, and the order it has placed. -/
def loadingAt (step : LoadStep) (writeSet : List (Fin 32)) : Blocks :=
  (standing .loading PowerRec.reset).blk.modSlot 0 (fun r => { r with
    loading := some { step, next := 0, write := [] }, writeSet })
def firstPlaced (b : Blocks) : Option (OrderCode × Nat × Nat) :=
  b.bus.registryQueue.head?.map (fun o => (o.code, o.first, o.count))

theorem witness_WantedOrdersArePlaced :
    ((asked .live .identify false).slot 0).order.isSome = true ∧ ((standing .dark PowerRec.reset).blk.slot 0).state = .dark
      ∧ ((standing .identifying PowerRec.reset).blk.slot 0).order = none
      ∧ ((standing .identifying PowerRec.reset).blk.slot 0).state = .identifying
      ∧ (∀ step ∈ [LoadStep.reads, .writes, .writeSet, .setTerm],
          ((loadingAt step []).slot 0).state = .loading ∧ ((loadingAt step []).slot 0).order = none
          ∧ ((loadingAt step []).slot 0).plan = some workPlan
          ∧ ((loadingAt step []).slot 0).loading = some { step, next := 0, write := [] })
      ∧ workPlan.portCount ≤ 32
      ∧ firstPlaced ((loadingAt .reads []).placeWanted 0) = some (.readPorts, 0, 8)
      ∧ firstPlaced ((loadingAt .writes []).placeWanted 0) = some (.writePorts, 0, 8)
      ∧ firstPlaced ((loadingAt .writeSet [2, 3, 5]).placeWanted 0) = some (.writePorts, 2, 2)
      ∧ firstPlaced ((loadingAt .writeSet []).placeWanted 0) = some (.setTerm, 0, 1)
      ∧ (liveState.blk.slot 0).attention = false ∧ (liveState.blk.slot 0).clearWanted = false := by
  decide +kernel

/-- Slot 0 LOADING, and LIVE holding slot 1, with each use outstanding. -/
def holdingOne (st : SlotState) : Blocks :=
  (asked st .writePorts false).modSlot 0 (fun r => { r with
    coveredSlot := some 1, coverLoad := some { runs := 0, done := false } })

theorem witness_LoadingRunsAndTermAreCounted :
    let loading := (loadingAt .writes []).modSlot 0 (fun r => { r with order := some { code := .writePorts, abandoned := false } })
    let got (b : Blocks) (use : RegistryUse) := (Blocks.deliver 0 b (orderOf 0 .writePorts use) .done []).slot 0
    (loading.slot 0).order.any RegistryOrder.abandoned = false ∧ (loading.slot 0).state = .loading
      ∧ (loading.slot 0).loading = some { step := .writes, next := 0, write := [] }
      ∧ (loading.slot 0).plan = some workPlan ∧ workPlan.portCount ≤ 8 * (0 + 1)
      ∧ (got loading .loadWrite).loading = some { step := .writeSet, next := 0, write := [] }
      ∧ (got loading (.setTerm 2)).state = .live ∧ (got loading (.setTerm 2)).storedTerm = some 2
      ∧ ((holdingOne .live).slot 0).coveredSlot = some 1
      ∧ ((holdingOne .live).slot 0).order.any RegistryOrder.abandoned = false
      ∧ (got (holdingOne .live) (.coverRun 1 0)).coverLoad = some { runs := 1, done := false }
      ∧ (got (holdingOne .live) (.coverRun 2 0)).coverLoad = some { runs := 0, done := false }
      ∧ ((holdingOne .live).slot 0).state = .live := by
  decide +kernel

/-- Under AGREE a differing group marks the port, and under CARD an unfit one is copied at its limit and written. -/
theorem witness_MergeFollowsTheFunction :
    let report : PortReport := { line := some (16, 1), level := none, signal := none, admin := none }
    let merged (fn : MergeFunction) := liveState.blk.merge { workPlan with mergeFunction := fn } 0 [report]
    (0 : Fin 32).val < workPlan.portCount
      ∧ ((merged .agree).port 0 0).disagreements = 1 ∧ ((merged .agree).port 0 0).lineKind = 0
      ∧ (merged .agree).raised.length = 1
      ∧ ((merged .card).port 0 0).lineKind = 15 ∧ ((merged .card).port 0 0).termination = 1 := by
  decide +kernel

/-- Slot 0 LIVE and reverting, held by the spare in slot 1, whose CLEAR is outstanding. -/
def clearing : Blocks :=
  (((heldState .live).blk.modSlot 0 (fun r => { r with revertMark := true, coverReason := some .late })).modSlot 1
    (fun r => { r with order := some { code := .clear, abandoned := false } }))

theorem witness_ClearEndsTheRevert :
    (clearing.slot 1).order.any RegistryOrder.abandoned = false ∧ (clearing.slot 1).state.inService = true
      ∧ (clearing.slot 1).coveredSlot = some 0 ∧ (0 : SlotId) ≠ 1 ∧ (clearing.slot 1).state = .live
      ∧ ((Blocks.deliver 0 clearing (orderOf 1 .clear (.clear true)) .done []).slot 0).revertMark = false
      ∧ ((Blocks.deliver 0 clearing (orderOf 1 .clear (.clear false)) .done []).slot 0).revertMark = true
      ∧ (liveState.blk.slot 0).coveredSlot = none
      ∧ (clearing.slot 0).state ≠ .lost ∧ (clearing.slot 0).revertMark = true ∧ (clearing.slot 0).coveredSlot = none
      ∧ clearing.holder 0 = some 1 ∧ ((clearing.lose 0 .late).slot 0).state = .covered := by
  decide +kernel

/-- A CARRIED link of slot 0 remapped to the spare comes home, PENDING and detached there. -/
def coveredLink : Link :=
  { aLink with epA := { slot := 1, port := 1, home := some 0 }, epB := { slot := 2, port := 1, home := none },
               state := .carried, attA := true, attB := true }

theorem witness_ClearEndsTheRevert_link :
    let b := { clearing with store := (linkedState coveredLink).blk.store }
    b.store.Law ∧ b.link 3 = some coveredLink
      ∧ (Blocks.deliver 0 b (orderOf 1 .clear (.clear true)) .done []).link 3
          = some { aLink with epA := { slot := 0, port := 1, home := none }, epB := { slot := 2, port := 1, home := none },
                              state := .pending, attA := false, attB := true } := by
  refine ⟨⟨by decide, by decide, ?_, by decide, by decide, by decide, ?_⟩, by decide +kernel, by decide +kernel⟩
  · intro c
    show c ∈ cellsOf .h01 511 3 ↔ ∃ l ∈ [coveredLink], c ∈ cellsOf l.hset l.index l.id
    simp [coveredLink, aLink]
  · intro n h; cases h; decide

/-- The link of `linkedState` in flight at a step with end B's outcome in, and an order of the engine for end A. -/
def flying (st : LinkState) (step : EngineStep) (outB : Option OrderOutcome) : Blocks :=
  let b := (linkedState { aLink with state := st }).blk
  { b with engine := { b.engine with inFlight := [{ InFlight.new 3 .queue step with
      outB, recB := some (some { active := true, hset := .h01, index := 511, role := .b, tag := 3 }) }] } }
def engineTag (lend : LinkEnd) : EngineTag := { link := 3, lend, current := true, opened := false }
def engineOrderOf (code : OrderCode) (lend : LinkEnd) : BusOrder :=
  { slot := 0, code, first := 1, count := 1, send := [], purpose := .engine (engineTag lend) }

theorem witness_EndsAndSurveysAreAccounted :
    let got (b : Blocks) (code : OrderCode) (lend : LinkEnd) (out : OrderOutcome) (given : List (List Byte)) :=
      ((Blocks.deliver 0 b (engineOrderOf code lend) out given).link 3).map (fun l => (l.state, l.attA, l.attB))
    let survey := flying .verifying .survey (some .done)
    (survey.link 3).map Link.removal = some false ∧ (survey.entry 3).map InFlight.step = some .survey
      ∧ (engineTag .a).current = true
      ∧ got survey .survey .a .done [[3, 4, 1, 0xFF, 0, 0, 3]] = some (.carried, true, true)
      ∧ got survey .survey .a .done [[3, 4, 1, 0xFE, 0, 0, 3]] = some (.pending, false, false)
      ∧ got survey .survey .a .refused [] = some (.pending, false, false)
      ∧ got (flying .verifying .survey none) .survey .a .done [[0, 0, 0, 0, 0, 0, 0]] = some (.verifying, false, false)
      ∧ got (flying .preparing .attach (some .done)) .attach .a .done [] = some (.ready, true, false)
      ∧ got (flying .preparing .attach (some .done)) .attach .a .refused [] = some (.preparing, false, false)
      ∧ got (flying .activating .activateA none) .activate .a .done [] = some (.activating, true, false)
      ∧ (liveState.blk.slot 0).state.inService = true := by
  decide +kernel

/-- A link carried in order in quiet and outside it, and one carried late. -/
theorem witness_EndsAndSurveysAreAccounted_carried :
    let b (origin : Origin) (b : Blocks) : Blocks :=
      { b with engine := { b.engine with inFlight := [InFlight.new 3 origin .activateB] } }
    let l := { aLink with state := .activating }
    let got (b : Blocks) := Blocks.deliver 9 b (engineOrderOf .activate .b) .done []
    (b .queue (linkedState l).blk).entry 3 = some (InFlight.new 3 .queue .activateB)
      ∧ (b .queue (linkedState l).blk).ep.isOpen = false
      ∧ (got (b .queue (linkedState l).blk)).raised = [.link .carried 3 .trunk none]
      ∧ (b .queue (inShelf .recovering (linkedState l).blk)).ep.isOpen = true
      ∧ (got (b .queue (inShelf .recovering (linkedState l).blk))).raised = []
      ∧ (got (b .queue (inShelf .recovering (linkedState l).blk))).ep.history.map (fun e => (e.inOrder, e.firstActivation))
          = [(1, some 9)]
      ∧ (got (b .deferred (inShelf .recovering (linkedState l).blk))).raised = [.link .late 3 .trunk none] := by
  decide +kernel

/-- A flagged link; a refused one with an end attached, with none, and already detaching; a RELEASING one to be deleted, and
one to be detached. -/
theorem witness_EndsAndSurveysAreAccounted_judged :
    let refused (l : Link) (step : EngineStep) : Blocks :=
      { (linkedState l).blk with engine := { Engine.reset with
          queue := [3], inFlight := [{ InFlight.new 3 .queue step with refused := true }] } }
    let preparing := { aLink with state := .preparing }
    let releasing := { aLink with state := .releasing }
    ((refused { preparing with removal := true } .attach).flagPass.link 3).map Link.state = some .releasing
      ∧ ((Blocks.refuse 9 (refused preparing .attach) 3).link 3).map Link.state = some .deferred
      ∧ (Blocks.refuse 9 (refused { preparing with attA := true } .attach) 3).engine.backlog.map BusOrder.code = [.detach]
      ∧ Blocks.refuse 9 (refused { preparing with attA := true } .detach) 3 = refused { preparing with attA := true } .detach
      ∧ (joined releasing [] []).link 3 = some releasing
      ∧ ((joined releasing [] []).releaseOne 3).store.links = []
      ∧ ((joined { releasing with attA := true } [] []).releaseOne 3).engine.backlog.map (fun o => (o.code, o.slot))
          = [(.detach, 0)] := by
  decide +kernel

/-- Of two waiting orders one is placed where one place of the 16 is free, and the other waits on. -/
theorem witness_EndsAndSurveysAreAccounted_placed :
    let order := engineOrderOf .survey .a
    let b (placed : Nat) : Blocks := { Blocks.reset with
      bus := { CardBus.reset with relinkQueue := List.replicate placed order }
      engine := { Engine.reset with backlog := [order, engineOrderOf .survey .b] } }
    (b 15).placeBacklog.bus.relinkQueue.length = 16 ∧ (b 15).placeBacklog.engine.backlog = [engineOrderOf .survey .b]
      ∧ (b 16).placeBacklog = b 16 := by
  decide +kernel

theorem witness_AttentionOfALiveSlotIsPending :
    liveState.Awake ∧ (State.reset.blk.slot 0).state ≠ .live ∧ (liveState.blk.slot 0).state = .live
      ∧ (liveState.blk.slot 0).attention = false ∧ liveState.blk.ep.shelf ≠ .settling
      ∧ (let b := { flying .preparing .attach none with ep := { EpisodeController.reset with shelf := .settling } }
         b.ep.shelf = .settling ∧ (b.entry 3).map InFlight.refused = some false
           ∧ (b.link 3).map (fun l => (l.removal, l.state)) = some (false, .preparing)) :=
  ⟨rfl, by decide +kernel, by decide +kernel, by decide +kernel, by decide +kernel, by decide +kernel⟩

/-- Slot 0 reverting, in IDENTIFYING, held by the spare in slot 1: LIVE, it makes a CLEAR wanted, unless one is outstanding. -/
theorem witness_IdentificationIsJudgedByFitAndTerm_reverts :
    let b (order : Option RegistryOrder) (queue : List BusOrder) : Blocks :=
      let b := (heldState .identifying).blk.modSlot 0 (fun r => { r with revertMark := true })
      let b := b.modSlot 1 (fun r => { r with order })
      { b with bus := { b.bus with registryQueue := queue } }
    let clear := orderOf 1 .clear (.clear true)
    let placed := b (some { code := .clear, abandoned := false }) [clear]
    let got (b : Blocks) := ((Blocks.deliver 0 b (orderOf 0 .identify .identify) .done [[20, 0, 8, 1, 0, 0]]).slot 1).clearWanted
    ((b none []).slot 0).coveredSlot = none ∧ ((b none []).slot 1).coveredSlot = some 0 ∧ ((b none []).slot 1).order = none
      ∧ (∀ u : SlotId, u < 1 → ((b none []).slot u).coveredSlot ≠ some 0)
      ∧ got (b none []) = true ∧ got placed = false ∧ clear ∈ placed.bus.registryQueue ∧ clear.slot = 1
      ∧ clear.purpose = .registry (.clear true) := by
  decide +kernel

/-- The same at the end of a loading. -/
theorem witness_LoadingRunsAndTermAreCounted_reverts :
    let b := ((heldState .loading).blk.modSlot 0 (fun r => { r with
      revertMark := true, order := some { code := .setTerm, abandoned := false } }))
    let c := Blocks.deliver 0 b (orderOf 0 .setTerm (.setTerm 2)) .done []
    (b.slot 0).revertMark = true ∧ (b.slot 0).coveredSlot = none ∧ (b.slot 0).state = .loading
      ∧ (c.slot 0).state = .live ∧ (c.slot 1).clearWanted = true ∧ (b.slot 1).clearWanted = false := by
  decide +kernel

/-- An order on the bus is abandoned, one that waits is withdrawn with its attempts, and a slot without one is as it was. -/
theorem witness_AttentionOfALiveSlotIsPending_abandoned :
    let s (phase : Phase) := withBus { liveState with blk := asked .live .identify false } (carrying .identify 1 [] phase 2)
    let waiting : Blocks := { (s .data).blk with bus := { (s .data).blk.bus with transfer := none } }
    ((s .data).blk.slot 0).order = some { code := .identify, abandoned := false }
      ∧ ((s .data).blk.abandonOrder 0).slot 0 = { (asked .live .identify false).slot 0 with
          order := some { code := .identify, abandoned := true } }
      ∧ ((s (.release .cut)).blk.abandonOrder 0).bus.registryQueue = []
      ∧ (waiting.abandonOrder 0).bus.registryQueue = [] ∧ (waiting.abandonOrder 0).bus.registryAttempts = 0
      ∧ ((waiting.abandonOrder 0).slot 0).order = none ∧ (liveState.blk.slot 0).order = none
      ∧ (waiting.slot 0).state ≠ .dark ∧ (waiting.changeState 0 .dark).raised = [.slotState 0 .live .dark none] := by
  decide +kernel

theorem witness_ReturnDeadlineLosesTheSlot :
    let s := { liveState with blk := liveState.blk.modSlot 0 (fun r => { r with state := .identifying, deadline := some 0 }) }
    s.Awake ∧ (s.blk.slot 0).deadline.isSome = true ∧ (s.blk.slot 0).state.timed = true
      ∧ (s.blk.powerRec 0).closed = true ∧ (liveState.blk.slot 0).deadline = none :=
  ⟨rfl, by decide +kernel, by decide +kernel, by decide +kernel, by decide +kernel⟩

/-- Slot 0 LIVE under a plan with cover, slot 1 the idle LIVE spare, and a link from slot 0 to slot 2. -/
def coverable : Blocks :=
  let b := liveState.blk.modSlot 0 (fun r => { r with plan := some { workPlan with coverEnabled := true } })
  let b := b.modSlot 1 (fun _ => { inState .live with plan := some { workPlan with role := .spare } })
  { b with store := (linkedState { aLink with
      epB := { slot := 2, port := 1, home := none }, state := .carried, attA := true, attB := true }).blk.store }

theorem coverable_by_the_spare : Coverable coverable 0 .late 1 := by
  refine ⟨{ workPlan with coverEnabled := true }, { workPlan with role := .spare }, by decide +kernel, rfl, rfl, by decide,
    by decide +kernel, rfl, rfl, ?_, by decide +kernel, by decide +kernel, by decide +kernel⟩
  intro u hu r hr
  have h0 : u = 0 := by clear hr; revert hu; revert u; decide
  subst h0
  have hp : (coverable.slot 0).plan = some { workPlan with coverEnabled := true } := by decide +kernel
  rw [hp] at hr; cases hr; rfl

/-- The covered link is PENDING on the spare; without the spare it is dropped; and the cover load of the last run is done. -/
theorem witness_ReturnDeadlineLosesTheSlot_cover :
    (coverable.slot 0).state ≠ .lost ∧ (coverable.slot 0).coveredSlot = none ∧ (coverable.slot 0).revertMark = false
      ∧ ((coverable.lose 0 .late).link 3).map (fun l => (l.state, l.epA.slot, l.epA.home, l.attA, l.attB))
          = some (.pending, 1, some 0, false, true)
      ∧ (∀ t, ¬Coverable coverable 0 .retired t)
      ∧ ((coverable.lose 0 .retired).link 3).map (fun l => (l.state, l.epA.slot)) = some (.releasing, 0)
      ∧ (let b := (coverable.lose 0 .late).modSlot 1 (fun r => { r with coverLoad := some { runs := 1, done := false } })
         (b.slot 1).state = .live ∧ (b.slot 1).coveredSlot = some 0 ∧ (b.slot 1).writeSet = [] ∧ (b.slot 1).order = none
           ∧ (b.slot 0).plan = some { workPlan with coverEnabled := true }
           ∧ ((b.finishCoverLoad 1).slot 1).coverLoad = some { runs := 1, done := true }) := by
  refine ⟨by decide +kernel, by decide +kernel, by decide +kernel, by decide +kernel, ?_, by decide +kernel, by decide +kernel⟩
  rintro t ⟨_, _, _, _, _, h, _⟩
  exact h rfl

theorem coverable_store : coverable.store.Law := by
  refine ⟨by decide +kernel, by decide +kernel, ?_, by decide +kernel, by decide +kernel, by decide +kernel, ?_⟩
  · intro c
    show c ∈ cellsOf .h01 511 3 ↔ ∃ l ∈ [{ aLink with
      epB := { slot := 2, port := 1, home := none }, state := .carried, attA := true, attB := true }],
      c ∈ cellsOf l.hset l.index l.id
    simp [aLink]
  · intro n h; cases h; decide +kernel

/-- The spare in slot 1 is lost: a COVERED slot is LOST with it, and one on its way back goes on. -/
theorem witness_ReturnDeadlineLosesTheSlot_spare :
    let b (mark : Bool) := (heldState (if mark then .dark else .covered)).blk.modSlot 0 (fun r => { r with
      coverReason := some .late, revertMark := mark })
    ((b false).slot 1).state ≠ .lost ∧ ((b false).slot 1).coveredSlot = some 0 ∧ ((b false).slot 0).revertMark = false
      ∧ ((b true).slot 0).revertMark = true
      ∧ ((b false).lose 1 .silent).raised
          = [.slotState 1 .live .lost (some .silent), .slotState 0 .covered .lost (some .silent)]
      ∧ (((b false).lose 1 .silent).slot 0).lostReason = some .silent
      ∧ ((b true).lose 1 .silent).raised = [.slotState 1 .live .lost (some .silent)]
      ∧ (((b true).lose 1 .silent).slot 0).state = .dark := by
  decide +kernel

/-- Slot 0 in a state with its ramp timer or its dark timer run out. -/
def rampingState : State :=
  standing .ramping { closed := true, charge := 60, ramp := some 0, dark := none, trips := 0 }
def darkState : State := standing .dark { closed := false, charge := 0, ramp := none, dark := some 0, trips := 0 }

theorem witness_RampAndDarkTimersMoveTheSlot :
    rampingState.Awake ∧ (rampingState.blk.powerRec 0).ramp.isSome = true ∧ (darkState.blk.powerRec 0).ramp = none
      ∧ darkState.Awake ∧ (darkState.blk.powerRec 0).dark.isSome = true ∧ (rampingState.blk.powerRec 0).dark = none :=
  ⟨rfl, by decide +kernel, by decide +kernel, rfl, by decide +kernel, by decide +kernel⟩

theorem witness_TripOpensTheSwitch :
    liveState.Awake ∧ (liveState.blk.powerRec 0).closed = true ∧ (darkState.blk.powerRec 0).closed = false :=
  ⟨rfl, by decide +kernel, by decide +kernel⟩

/-- Slot 0 QUEUED, the supply UP and a budget that just fits its inrush. -/
def queuedState : State :=
  let s := standing .queued PowerRec.reset
  { s with blk := { s.blk with power := { s.blk.power with queue := [0], supply := .up, budget := 60 } } }

theorem witness_AdmissionKeepsToTheBudget :
    queuedState.blk.admissible = some 0 ∧ liveState.blk.admissible = none ∧ queuedState.blk.power.queue = 0 :: []
      ∧ (queuedState.blk.slot 0).plan = some workPlan ∧ queuedState.blk.power.supply = .up
      ∧ queuedState.blk.ep.shelf ≠ .holdup ∧ queuedState.blk.power.load + 60 ≤ queuedState.blk.power.budget
      ∧ (queuedState.blk.slot 0).state = .queued := by decide +kernel

theorem witness_TripCountIsChangedByTripsAlone :
    exec (.switchTrip 0) darkState = .next darkState ∧ Instr.switchTrip 0 ≠ .deviceReset
      ∧ Instr.switchTrip 0 ≠ .resetRelease ∧ Instr.switchTrip 0 ≠ .frameSent
      ∧ (liveState.blk.slot 0).state ≠ .lost
      ∧ (Blocks.tripped 0 liveState.blk).raised = [.slotState 0 .live .lost (some .powerFault)] := by
  refine ⟨rfl, by decide, by decide, by decide, by decide +kernel, by decide +kernel⟩

theorem witness_FeedMonitorIsMovedByItsOwnAlone :
    exec .lineError State.reset = .next State.reset ∧ Instr.lineError.wellFormed = true
      ∧ isResetPin .lineError = false := ⟨rfl, rfl, rfl⟩

theorem witness_QueriesChangeNothing :
    State.reset.Quiet ∧ ∃ t, exec (.getShelf 0 []) State.reset = .next t := ⟨⟨rfl, rfl⟩, _, rfl⟩

theorem witness_CommandsTakeNoTime : isResetPin (.switchTrip 0) = false ∧ Instr.switchTrip 0 ≠ .frameSent := by decide

/-- Two LIVE slots, a CARRIED link between them, the feeds sampled, and a trip at the front of the queue. -/
def lawful : State :=
  let s := standing .live { closed := true, charge := 20, ramp := none, dark := none, trips := 0 }
  let b := (s.blk.modSlot 1 (fun _ => inState .live)).modPower 1 (fun w => { w with closed := true, charge := 600 - 20 })
  { s with
    pending := [.switchTrip 0]
    blk := { b with store := (linkedState { aLink with state := .carried }).blk.store }
    feed := { reading 8191 with supply := .up, armed := true } }

theorem lawful_steps : ∃ t, step lawful = .next t := ⟨_, rfl⟩

theorem witness_EveryStepKeepsTheFeedAndEpisodeLaws :
    lawful.feed.Law ∧ lawful.blk.ep.Law ∧ ∃ t, step lawful = .next t := by
  refine ⟨⟨?_, ?_, by decide⟩, ?_, lawful_steps⟩
  · intro r h; cases h; decide
  · intro r h; cases h
  · exact ⟨by decide, by decide, by decide, by decide⟩

theorem lawful_store : lawful.blk.store.Law := by
  refine ⟨by decide, by decide, ?_, by decide, by decide, by decide, ?_⟩
  · intro c
    show c ∈ cellsOf .h01 511 3 ↔ ∃ l ∈ [{ aLink with state := .carried }], c ∈ cellsOf l.hset l.index l.id
    simp [aLink]
  · intro n h; cases h; decide

theorem witness_EveryStepKeepsTheLinkStoreLaw : lawful.blk.store.Law ∧ ∃ t, step lawful = .next t :=
  ⟨lawful_store, lawful_steps⟩

theorem lawful_relink : lawful.blk.RelinkLaw := by
  refine ⟨by unfold Engine.Law; decide, by decide, by decide, by decide, ?_, ?_, by decide, List.Pairwise.nil⟩
  · intro id h
    rcases h with h | h | h <;> cases h
  · intro l h
    cases h with
    | head =>
      refine ⟨by decide, by decide, ?_, by decide⟩
      constructor
      · intro h; cases h
      · rintro (h | h | ⟨f, h, _⟩) <;> cases h
    | tail _ h => cases h

theorem witness_EveryStepKeepsTheRelinkLaw :
    (lawful.blk.store.Law ∧ lawful.blk.RelinkLaw) ∧ ∃ t, step lawful = .next t :=
  ⟨⟨lawful_store, lawful_relink⟩, lawful_steps⟩

theorem witness_EveryStepKeepsTheEndpointLaw : lawful.blk.EndpointLaw ∧ ∃ t, step lawful = .next t := by
  refine ⟨⟨by decide, ?_⟩, lawful_steps⟩
  have h : ∀ i, (lawful.blk.slot i).plan = none ∨ (lawful.blk.slot i).plan = some workPlan := by decide +kernel
  intro e _ p hp
  rcases h (e.home.getD e.slot) with h | h <;> rw [h] at hp <;> cases hp
  rfl

theorem lawful_slots : lawful.blk.SlotLaw := by
  refine ⟨?_, ?_, by decide +kernel, by decide +kernel, List.Pairwise.nil, ?_⟩
  · intro i
    have h : ∀ i, (lawful.blk.powerRec i).closed = (lawful.blk.slot i).state.powered
      ∧ (i ∈ lawful.blk.power.queue ↔ (lawful.blk.slot i).state = .queued)
      ∧ ((lawful.blk.powerRec i).dark.isSome = true ↔ (lawful.blk.slot i).state = .dark) := by decide +kernel
    have g : ∀ i, (lawful.blk.powerRec i).closed = false →
      (lawful.blk.powerRec i).charge = 0 ∧ (lawful.blk.powerRec i).ramp = none := by decide +kernel
    exact ⟨(h i).1, (h i).2.1, (h i).2.2, g i⟩
  · have h : ∀ i, (lawful.blk.slot i).coveredSlot = none := by decide +kernel
    intro i j hi
    rw [h i] at hi; cases hi
  · intro h; cases h

/-- Slot 0 in a state without power, held by the LIVE spare in slot 1, whose switch is CLOSED. -/
def heldLawful (st : SlotState) : State :=
  let s := heldState st
  { s with blk := s.blk.modPower 1 (fun w => { w with closed := true, charge := 20 }) }

theorem held_slots (st : SlotState) (h : st = .covered ∨ st = .lost) : (heldLawful st).blk.SlotLaw := by
  rcases h with rfl | rfl
  all_goals
    refine ⟨?_, ?_, by decide +kernel, by decide +kernel, List.Pairwise.nil, ?_⟩
    · unfold heldLawful heldState standing; decide +kernel
    · decide +kernel
    · intro h; cases h

theorem witness_SlotRetireLosesTheSlot_lawful :
    (lawful.blk.SlotLaw ∧ lawful.Ready ∧ (lawful.blk.slot 0).state ∉ [SlotState.vacant, .off, .covered, .lost])
      ∧ ((heldLawful .lost).blk.SlotLaw ∧ (heldLawful .lost).Ready ∧ ((heldLawful .lost).blk.slot 0).state = .lost
        ∧ (heldLawful .lost).blk.holder 0 = some 1 ∧ ((heldLawful .lost).blk.slot 0).coveredSlot = none)
      ∧ ((heldLawful .covered).blk.SlotLaw ∧ (heldLawful .covered).Ready
        ∧ ((heldLawful .covered).blk.slot 1).state = .live ∧ ((heldLawful .covered).blk.slot 1).coveredSlot = some 0
        ∧ ((heldLawful .covered).blk.slot 0).revertMark = false) := by
  exact ⟨⟨lawful_slots, ⟨rfl, ⟨rfl, rfl⟩, rfl⟩, by decide +kernel⟩,
    ⟨held_slots _ (.inr rfl), ⟨rfl, ⟨rfl, rfl⟩, rfl⟩, by decide +kernel, by decide +kernel, by decide +kernel⟩,
    held_slots _ (.inl rfl), ⟨rfl, ⟨rfl, rfl⟩, rfl⟩, by decide +kernel, by decide +kernel, by decide +kernel⟩

theorem witness_EveryStepKeepsTheSlotLaw : lawful.blk.SlotLaw ∧ ∃ t, step lawful = .next t := ⟨lawful_slots, lawful_steps⟩

theorem witness_EveryStepKeepsTheLoadLaw :
    (lawful.blk.SlotLaw ∧ lawful.LoadLaw) ∧ ∃ t, step lawful = .next t := by
  refine ⟨⟨lawful_slots, ?_, ?_, by decide +kernel, by decide +kernel, by decide +kernel, by decide +kernel⟩, lawful_steps⟩
  · have h : ∀ i, (lawful.blk.powerRec i).ramp.isSome = false := by decide +kernel
    intro i p hr
    rw [h i] at hr; cases hr
  · have h : ∀ i, (lawful.blk.slot i).plan = none ∨ (lawful.blk.slot i).plan = some workPlan := by decide +kernel
    intro i p hp
    rcases h i with h | h <;> rw [h] at hp <;> cases hp
    decide

theorem lawful_occupancy : lawful.blk.OccupancyLaw := by
  unfold Blocks.OccupancyLaw
  decide +kernel

theorem witness_EveryStepKeepsTheOccupancyLaw :
    (lawful.blk.store.Law ∧ lawful.blk.RelinkLaw ∧ lawful.blk.SlotLaw ∧ lawful.blk.OccupancyLaw)
      ∧ ∃ t, step lawful = .next t :=
  ⟨⟨lawful_store, lawful_relink, lawful_slots, lawful_occupancy⟩, lawful_steps⟩

theorem witness_EveryStepKeepsTheTermLaw : lawful.blk.TermLaw ∧ ∃ t, step lawful = .next t := by
  refine ⟨⟨by decide +kernel, ?_, ?_⟩, lawful_steps⟩
  · have h : ∀ i, (lawful.blk.slot i).storedTerm = none ∨ (lawful.blk.slot i).storedTerm = some 1 := by decide +kernel
    intro i t ht
    rcases h i with h | h <;> rw [h] at ht <;> cases ht
    exact ⟨by decide, by decide⟩
  · intro o h; cases h

/-- The framer in a frame, a request in hand, and the bus carrying an order. -/
theorem witness_EveryStepKeepsThePortLaw :
    let p := { SupervisionPort.reset with framer := .frame 252 [1], gap := some 5, buffer := [waiting] }
    p.Law ∧ (carrying .identify 1 [] .acknowledge 0).Law ∧ lawful.Quiet ∧ ∃ t, step lawful = .next t := by
  refine ⟨⟨by decide, by decide, by decide, by decide, ?_, ?_⟩, .inl rfl, ⟨rfl, rfl⟩, lawful_steps⟩
  · intro got h; cases h
  · intro len got h; cases h; decide

end Sys2Proof.Tests
end

section
/-! SUPPORT. How the blocks move the link table: under plans that stay as they are, every operation of the blocks does
nothing to it but mark records, delete one with its cells, move ends to a spare that carries none, or bring ends home. -/

namespace Sys2Proof.Machine

/-! ### The moves of the link table -/

/-- The plans of the sixteen slots. -/
def Blocks.plans (b : Blocks) : SlotId → Option Plan := fun i => (b.slot i).plan

/-- R2: two records agree in what the laws of the link table speak of: id, sequence, cells and endpoints. -/
def Link.SamePlace (l m : Link) : Prop :=
  m.id = l.id ∧ m.seq = l.seq ∧ m.hset = l.hset ∧ m.index = l.index ∧ m.epA = l.epA ∧ m.epB = l.epB

/-- R10, R11: what the blocks do to the link table while the plans stay as they are. Ends move only from a slot planned
WORKING to the planned spare, and only while no end stands on the spare (R110). -/
inductive LinkStore.Evolves (plans : SlotId → Option Plan) (st : LinkStore) : LinkStore → Prop
  | refl : Evolves plans st st
  | marks {mid : LinkStore} (f : Link → Link) (keeps : ∀ l : Link, l.SamePlace (f l)) (h : Evolves plans st mid) :
      Evolves plans st { mid with links := mid.links.map f }
  | delete {mid : LinkStore} (id : Nat) (h : Evolves plans st mid) : Evolves plans st (mid.delete id)
  | remap {mid : LinkStore} (i spare : SlotId) (working : ∀ p, plans i = some p → p.role = .working)
      (isSpare : ∃ p, plans spare = some p ∧ p.role = .spare) (free : ∀ l ∈ mid.links, l.endsOn spare = false)
      (h : Evolves plans st mid) :
      Evolves plans st { mid with links := mid.links.map (fun l =>
        { l with epA := l.epA.remap i spare, epB := l.epB.remap i spare }) }
  | restore {mid : LinkStore} (s : SlotId) (h : Evolves plans st mid) :
      Evolves plans st { mid with links := mid.links.map (fun l =>
        { l with epA := l.epA.restore s, epB := l.epB.restore s }) }

/-- The blocks went from one state to another with every plan as it was, and the link table moved by its moves. -/
def Blocks.Evolves (b c : Blocks) : Prop := c.plans = b.plans ∧ LinkStore.Evolves b.plans b.store c.store

namespace Blocks.Evolves

variable {a b : Blocks}

theorem refl (b : Blocks) : b.Evolves b := ⟨rfl, .refl⟩

/-- Neither the slot registry nor the link store moves. -/
theorem same {c : Blocks} (h : a.Evolves b) (hreg : c.reg = b.reg) (hstore : c.store = b.store) : a.Evolves c := by
  obtain ⟨hp, hs⟩ := h
  refine ⟨?_, hstore ▸ hs⟩
  rw [← hp]
  funext i
  simp only [Blocks.plans, Blocks.slot, hreg]

theorem ite {p : Prop} [Decidable p] {x y : Blocks} (hx : a.Evolves x) (hy : a.Evolves y) :
    a.Evolves (if p then x else y) := by
  split
  · exact hx
  · exact hy

theorem foldl {α : Type} {f : Blocks → α → Blocks} (hf : ∀ b x, a.Evolves b → a.Evolves (f b x)) (l : List α)
    (h : a.Evolves b) : a.Evolves (l.foldl f b) := by
  induction l generalizing b with
  | nil => exact h
  | cons x l ih => exact ih (hf b x h)

/-! ### The operations on one record -/

theorem modSlot (i : SlotId) {f : SlotRec → SlotRec} (h : a.Evolves b)
    (hf : ∀ r, (f r).plan = r.plan := by intro _; rfl) : a.Evolves (b.modSlot i f) := by
  refine ⟨?_, h.2⟩
  rw [← h.1]
  funext j
  by_cases hj : j = i
  · subst hj; simp [Blocks.plans, hf]
  · simp [Blocks.plans, hj]

theorem modPort (i : SlotId) (p : Fin 32) (f : PortRec → PortRec) (h : a.Evolves b) : a.Evolves (b.modPort i p f) := h

theorem modPower (i : SlotId) (f : PowerRec → PowerRec) (h : a.Evolves b) : a.Evolves (b.modPower i f) := h

theorem tally (f : Episode → Episode) (h : a.Evolves b) : a.Evolves (b.tally f) := h

theorem raise (e : Event) (h : a.Evolves b) : a.Evolves (b.raise e) := h

theorem mapLinks {f : Link → Link} (hf : ∀ l : Link, l.SamePlace (f l)) (h : a.Evolves b) : a.Evolves (b.mapLinks f) :=
  ⟨h.1, .marks f hf h.2⟩

theorem modLink (id : Nat) {f : Link → Link} (hf : ∀ l : Link, l.SamePlace (f l)) (h : a.Evolves b) :
    a.Evolves (b.modLink id f) := by
  refine h.mapLinks fun l => ?_
  split
  · exact hf l
  · exact ⟨rfl, rfl, rfl, rfl, rfl, rfl⟩

theorem setLinkState (id : Nat) (st : LinkState) (h : a.Evolves b) : a.Evolves (b.setLinkState id st) :=
  h.modLink id fun _ => ⟨rfl, rfl, rfl, rfl, rfl, rfl⟩

/-! ### The relink engine -/

theorem leaveInFlight (id : Nat) (h : a.Evolves b) : a.Evolves (b.leaveInFlight id) := h

theorem leaveQueue (id : Nat) (h : a.Evolves b) : a.Evolves (b.leaveQueue id) := h

theorem leaveDeferred (id : Nat) (h : a.Evolves b) : a.Evolves (b.leaveDeferred id) := h

theorem withdraw (id : Nat) (h : a.Evolves b) : a.Evolves (b.withdraw id) := h

theorem modEntry (id : Nat) (g : InFlight → InFlight) (h : a.Evolves b) : a.Evolves (b.modEntry id g) := h

theorem putBacklog (os : List BusOrder) (h : a.Evolves b) : a.Evolves (b.putBacklog os) := h

theorem setHold (t : Option HoldTimer) (h : a.Evolves b) : a.Evolves (b.setHold t) := h

theorem joinQueue (id : Nat) (h : a.Evolves b) : a.Evolves (b.joinQueue id) := h.same (by simp) (by simp)

theorem detachWhere (p : Endpoint → Bool) (h : a.Evolves b) : a.Evolves (b.detachWhere p) :=
  ⟨h.1, .marks _ (fun _ => ⟨rfl, rfl, rfl, rfl, rfl, rfl⟩) h.2⟩

theorem detachSlot (i : SlotId) (h : a.Evolves b) : a.Evolves (b.detachSlot i) := h.detachWhere _

theorem setAttached (id : Nat) (e : LinkEnd) (v : Bool) (h : a.Evolves b) :
    a.Evolves (b.modLink id (fun l => l.setAttached e v)) := by
  refine h.modLink id fun l => ?_
  cases e <;> exact ⟨rfl, rfl, rfl, rfl, rfl, rfl⟩

theorem detachEnd (id : Nat) (e : LinkEnd) (h : a.Evolves b) : a.Evolves (b.detachEnd id e) :=
  setAttached (b := b.filterBacklog _) id e false h

theorem markOpened (i : SlotId) (h : a.Evolves b) : a.Evolves (b.markOpened i) := h

theorem switchOpened (i : SlotId) (h : a.Evolves b) : a.Evolves (b.switchOpened i) :=
  ((h.detachSlot i).markOpened i).modSlot i

theorem release (id : Nat) (h : a.Evolves b) : a.Evolves (b.release id) :=
  (((h.leaveInFlight id).leaveQueue id).leaveDeferred id).modLink id fun _ => ⟨rfl, rfl, rfl, rfl, rfl, rfl⟩

theorem defer (t id : Nat) (reason : DeferReason) (h : a.Evolves b) : a.Evolves (b.defer t id reason) := by
  unfold Blocks.defer
  split
  · exact h
  · exact (((h.leaveInFlight id).leaveQueue id).modLink id
      (f := fun l => { l with state := .deferred, deferral := some { reason, since := t } })
      fun _ => ⟨rfl, rfl, rfl, rfl, rfl, rfl⟩).same rfl rfl

theorem returnLink (id : Nat) (h : a.Evolves b) : a.Evolves (b.returnLink id) := by
  have back : a.Evolves (((b.leaveInFlight id).setLinkState id .pending).joinQueue id) :=
    ((h.leaveInFlight id).setLinkState id .pending).joinQueue id
  unfold Blocks.returnLink
  split
  · exact h
  next l _ =>
    cases l.state
    case verifying | preparing | ready | activating =>
      dsimp only
      split
      · exact h.release id
      · exact back
    case suspect => exact h.setLinkState id _
    case carried => exact (h.setLinkState id _).joinQueue id
    case pending | deferred | releasing => exact h

theorem slotInPlace (i : SlotId) (h : a.Evolves b) : a.Evolves (b.slotInPlace i) :=
  foldl (fun _ id h => h.returnLink id) _ (h.detachSlot i)

theorem coverReport (s : SlotId) (h : a.Evolves b) : a.Evolves (b.coverReport s) :=
  foldl (fun _ id h => h.returnLink id) _ h

theorem dropLink (id : Nat) (h : a.Evolves b) : a.Evolves (b.dropLink id) := by
  unfold Blocks.dropLink
  split
  · exact h
  · exact ((h.release id).raise _).tally _

theorem dropLinks (p : Link → Bool) (h : a.Evolves b) : a.Evolves (b.dropLinks p) :=
  foldl (fun _ id h => h.dropLink id) _ h

theorem carry (t : Nat) (f : InFlight) (h : a.Evolves b) : a.Evolves (b.carry t f) := by
  unfold Blocks.carry
  split
  · exact h
  next l _ =>
    have h' := (((h.leaveInFlight l.id).leaveQueue l.id).setLinkState l.id .carried).tally (Episode.noteActivation t)
    cases f.origin
    case queue =>
      dsimp only
      split
      · exact h'.tally _
      · exact (h'.tally _).raise _
    case deferred => exact (h'.tally _).raise _

theorem verify (id : Nat) (h : a.Evolves b) : a.Evolves (b.verify id) :=
  (((h.leaveInFlight id).leaveQueue id).modLink id (f := fun l => { l with state := .carried, attA := true, attB := true })
    fun _ => ⟨rfl, rfl, rfl, rfl, rfl, rfl⟩).tally _

theorem start (c : Start) (h : a.Evolves b) : a.Evolves (b.start c) := by
  have late : a.Evolves ((b.leaveDeferred c.id).modLink c.id (fun l => { l with deferral := none, late := true })) :=
    (h.leaveDeferred c.id).modLink c.id fun _ => ⟨rfl, rfl, rfl, rfl, rfl, rfl⟩
  unfold Blocks.start
  split
  · exact h
  · dsimp only
    split
    · exact late.setLinkState c.id _
    · exact h.setLinkState c.id _

theorem startLoop (n : Nat) (h : a.Evolves b) : a.Evolves (Blocks.startLoop n b) := by
  induction n generalizing b with
  | zero => exact h
  | succ n ih =>
    unfold Blocks.startLoop
    split
    · split
      · exact ih (h.start _)
      · exact h
    · exact h

theorem startRule (h : a.Evolves b) : a.Evolves b.startRule := by
  unfold Blocks.startRule
  split
  · exact h.startLoop 8
  · exact h

theorem activate (id : Nat) (h : a.Evolves b) : a.Evolves (b.activate id) := by
  unfold Blocks.activate
  split
  · exact h
  · split
    · exact h.setLinkState id _
    · exact h

theorem activateReady (h : a.Evolves b) : a.Evolves b.activateReady := foldl (fun _ id h => h.activate id) _ h

theorem judgeHead (t n : Nat) (h : a.Evolves b) : a.Evolves (Blocks.judgeHead t n b) := by
  induction n generalizing b with
  | zero => exact h
  | succ n ih =>
    have h' := h.startRule.activateReady
    unfold Blocks.judgeHead
    dsimp only
    split
    · exact h'.setHold none
    · split
      · exact h'
      · split
        · exact ih ((h'.setHold none).defer t _ .hold)
        · exact h'.setHold _

theorem removeLink (id : Nat) (h : a.Evolves b) : a.Evolves (b.removeLink id) := by
  unfold Blocks.removeLink
  split
  · exact h
  next l _ =>
    cases l.state
    case verifying | preparing | ready | activating =>
      exact (h.withdraw id).modLink id fun _ => ⟨rfl, rfl, rfl, rfl, rfl, rfl⟩
    case pending | suspect | deferred | carried => exact h.release id
    case releasing => exact h

theorem flagPass (h : a.Evolves b) : a.Evolves b.flagPass := by
  refine foldl (fun b id h => ?_) _ h
  split
  · exact h.release id
  · exact h

theorem refuse (t id : Nat) (h : a.Evolves b) : a.Evolves (Blocks.refuse t b id) := by
  unfold Blocks.refuse
  split
  · split
    · split
      · exact h.defer t id .refused
      · split
        · exact h
        · exact h
    · exact h
  · exact h

theorem refusalPass (t : Nat) (h : a.Evolves b) : a.Evolves (b.refusalPass t) := foldl (fun _ id h => h.refuse t id) _ h

theorem decideDetach (l : Link) (e : LinkEnd) (h : a.Evolves b) : a.Evolves (b.decideDetach l e) :=
  h.same (by simp) (by simp)

theorem releaseOne (id : Nat) (h : a.Evolves b) : a.Evolves (b.releaseOne id) := by
  unfold Blocks.releaseOne
  split
  · exact h
  · split
    · split
      · exact ⟨h.1, .delete id h.2⟩
      · exact (h.decideDetach _ _).decideDetach _ _
    · exact h

theorem releasePass (h : a.Evolves b) : a.Evolves b.releasePass := foldl (fun _ id h => h.releaseOne id) _ h

theorem judgeEngine (t : Nat) (h : a.Evolves b) : a.Evolves (b.judgeEngine t) :=
  (h.flagPass.refusalPass t).releasePass.judgeHead t _

theorem standDown (h : a.Evolves b) : a.Evolves b.standDown := by
  unfold Blocks.standDown
  split
  · refine foldl (fun b id h => ?_) _ h
    split
    · exact (h.leaveInFlight id).setLinkState id _
    · exact h
  · exact h

theorem accountEnds (o : BusOrder) (e : EngineTag) (out : OrderOutcome) (h : a.Evolves b) :
    a.Evolves (b.accountEnds o e out) := by
  unfold Blocks.accountEnds
  split
  case h_1 | h_2 =>
    split
    · exact h
    · exact h.setAttached _ _ _
  case h_9 => exact h
  all_goals exact h.detachEnd _ _

theorem judgeSurvey (l : Link) (f : InFlight) (h : a.Evolves b) : a.Evolves (b.judgeSurvey l f) := by
  unfold Blocks.judgeSurvey
  split
  · split
    · exact h.verify l.id
    · exact (h.leaveInFlight l.id).setLinkState l.id _
  · exact h

theorem judgeAttach (l : Link) (f : InFlight) (h : a.Evolves b) : a.Evolves (b.judgeAttach l f) := by
  unfold Blocks.judgeAttach
  split
  · exact (h.setLinkState l.id _).modEntry l.id _
  · exact h

theorem judgeActivate (t : Nat) (l : Link) (f : InFlight) (h : a.Evolves b) : a.Evolves (b.judgeActivate t l f) := by
  unfold Blocks.judgeActivate
  split
  · exact h
  · split
    · exact (h.modEntry l.id _).putBacklog _
    · split
      · exact h.carry t f
      · exact h

theorem countOutcome (t : Nat) (o : BusOrder) (e : EngineTag) (out : OrderOutcome) (answer : Option Attachment)
    (h : a.Evolves b) : a.Evolves (b.countOutcome t o e out answer) := by
  have h1 := h.modEntry e.link (fun f => f.note e.lend out)
  have h2 := ite (p := o.code = .survey ∧ out = .done) (h1.modEntry e.link (fun f => f.noteRecord e.lend answer)) h1
  have h3 := ite (p := (o.code = .attach ∨ o.code = .activate) ∧ out = .refused)
    ((h2.modEntry e.link (fun f => { f with refused := true })).withdraw e.link) h2
  unfold Blocks.countOutcome
  dsimp only
  split
  next f l _ _ =>
    split
    · exact h3
    · cases f.step
      case survey => exact h3.judgeSurvey l f
      case attach => exact h3.judgeAttach l f
      case activateA | activateB => exact h3.judgeActivate t l f
      case detach | idle => exact h3
  · exact h3

theorem engineOutcome (t : Nat) (o : BusOrder) (e : EngineTag) (out : OrderOutcome) (records : List (List Byte))
    (h : a.Evolves b) : a.Evolves (b.engineOutcome t o e out records) := by
  unfold Blocks.engineOutcome
  dsimp only
  split
  · exact (h.accountEnds o e out).countOutcome t o e out _
  · exact h.accountEnds o e out

end Blocks.Evolves

end Sys2Proof.Machine
end

section
/-! SUPPORT. The moves of the link table under the operations of the power sequencer, the slot registry, the card bus, the
episode controller and the feed monitor, and under what the blocks judge at the end of an event. -/

namespace Sys2Proof.Machine

namespace Blocks.Evolves

variable {a b : Blocks}

/-! ### Switches, slot states and admission -/

theorem setPowerQueue (q : List SlotId) (h : a.Evolves b) : a.Evolves (b.setPowerQueue q) := h

theorem joinAdmission (i : SlotId) (h : a.Evolves b) : a.Evolves (b.joinAdmission i) := h.same (by simp) (by simp)

theorem leaveAdmission (i : SlotId) (h : a.Evolves b) : a.Evolves (b.leaveAdmission i) := h

theorem openSwitch (i : SlotId) (h : a.Evolves b) : a.Evolves (b.openSwitch i) := by
  unfold Blocks.openSwitch
  split
  · exact (h.modPower i _).switchOpened i
  · exact h

theorem powerShed (i : SlotId) (h : a.Evolves b) : a.Evolves (b.powerShed i) :=
  ((h.openSwitch i).leaveAdmission i).modPower i _

theorem powerOff (i : SlotId) (h : a.Evolves b) : a.Evolves (b.powerOff i) :=
  ((h.openSwitch i).leaveAdmission i).modPower i _

theorem abandonOrder (i : SlotId) (h : a.Evolves b) : a.Evolves (b.abandonOrder i) := by
  unfold Blocks.abandonOrder
  split
  · exact h
  · split
    · exact h.modSlot i
    · exact modSlot (b := { b with bus := b.bus.withdrawRegistry i }) i h

theorem changeState (i : SlotId) (st : SlotState) (h : a.Evolves b) : a.Evolves (b.changeState i st) := by
  unfold Blocks.changeState
  dsimp only
  split
  · exact h
  · exact ((h.abandonOrder i).modSlot i).raise _

theorem spareLeftLive (i : SlotId) (h : a.Evolves b) : a.Evolves (b.spareLeftLive i) := by
  unfold Blocks.spareLeftLive
  split
  · exact h
  · split
    · exact ((h.modSlot _).changeState _ _).tally _
    · exact h

theorem coverAgain (i : SlotId) (h : a.Evolves b) : a.Evolves (b.coverAgain i) := by
  unfold Blocks.coverAgain
  split
  · exact h
  · split
    · exact (h.changeState _ _).tally _
    · exact h

theorem wantClear (i : SlotId) (h : a.Evolves b) : a.Evolves (b.wantClear i) := by
  unfold Blocks.wantClear
  split
  · split
    · split
      · exact h
      · exact h.modSlot _
    · exact h
  · exact h

theorem enterState (i : SlotId) (st : SlotState) (h : a.Evolves b) : a.Evolves (b.enterState i st) := by
  have h' := h.changeState i st
  unfold Blocks.enterState
  dsimp only
  split
  · exact (h'.coverAgain i).wantClear i
  · split
    · exact h'.spareLeftLive i
    · exact h'

theorem startDeadline (i : SlotId) (h : a.Evolves b) : a.Evolves (b.startDeadline i) := h.modSlot i

theorem admitSlot (i : SlotId) (h : a.Evolves b) : a.Evolves (b.admitSlot i) := by
  unfold Blocks.admitSlot
  split
  · exact h
  · have h' := fun f => (h.leaveAdmission i).modPower i f
    dsimp only
    split
    · exact ((h' _).enterState i _).startDeadline i
    · exact h' _

theorem admitLoop (n : Nat) (h : a.Evolves b) : a.Evolves (Blocks.admitLoop n b) := by
  induction n generalizing b with
  | zero => exact h
  | succ n ih =>
    unfold Blocks.admitLoop
    split
    · exact ih (h.admitSlot _)
    · exact h

theorem judgeAdmission (h : a.Evolves b) : a.Evolves b.judgeAdmission := h.admitLoop 16

theorem powerQueue (i : SlotId) (h : a.Evolves b) : a.Evolves (b.powerQueue i) := by
  unfold Blocks.powerQueue
  split
  · exact h
  · exact ((h.modPower i _).joinAdmission i).judgeAdmission

theorem queueSlot (i : SlotId) (h : a.Evolves b) : a.Evolves (b.queueSlot i) := (h.enterState i _).powerQueue i

/-! ### Loss, cover and revert -/

theorem endHold (i : SlotId) (h : a.Evolves b) : a.Evolves (b.endHold i) := h.modSlot i

theorem endClearRevert (i : SlotId) (h : a.Evolves b) : a.Evolves (b.endClearRevert i) := h

/-- R110: the ends of a lost slot move to the spare that covers it. -/
theorem remapLinks (i spare : SlotId) (working : ∀ p, b.plans i = some p → p.role = .working)
    (isSpare : ∃ p, b.plans spare = some p ∧ p.role = .spare) (free : ∀ l ∈ b.store.links, l.endsOn spare = false)
    (h : a.Evolves b) : a.Evolves (b.remapLinks i spare) := by
  rw [h.1] at working isSpare
  exact ⟨h.1, .remap i spare working isSpare free h.2⟩

theorem restoreLinks (s : SlotId) (h : a.Evolves b) : a.Evolves (b.restoreLinks s) := ⟨h.1, .restore s h.2⟩

end Blocks.Evolves

/-- R109, R110: the slot planned SPARE is planned so. -/
theorem Blocks.plannedSpare_plan {b : Blocks} {t : SlotId} (h : b.plannedSpare = some t) :
    ∃ p, b.plans t = some p ∧ p.role = .spare := by
  have hp := List.find?_some h
  simp only [Option.any_eq_true, beq_iff_eq] at hp
  obtain ⟨p, hp, hr⟩ := hp
  exact ⟨p, hp, hr⟩

/-- R110: the spare covers a slot planned WORKING, and no end stands on it. -/
theorem Blocks.coverTarget_covers {b : Blocks} {i t : SlotId} {reason : LossReason} (h : b.coverTarget i reason = some t) :
    (∀ p, b.plans i = some p → p.role = .working) ∧ (∃ p, b.plans t = some p ∧ p.role = .spare)
      ∧ ∀ l ∈ b.store.links, l.endsOn t = false := by
  unfold Blocks.coverTarget at h
  split at h
  next p t' hp ht =>
    split at h
    next c =>
      obtain ⟨hr, _, _, _, _, _, hfree⟩ := c
      obtain rfl := Option.some.inj h
      refine ⟨fun q hq => ?_, plannedSpare_plan ht, by simpa using hfree⟩
      obtain rfl : p = q := Option.some.inj (hp.symm.trans hq)
      exact hr
    · cases h
  · cases h

namespace Blocks.Evolves

variable {a b : Blocks}

theorem takeCover (i t : SlotId) (reason : LossReason) (hc : b.coverTarget i reason = some t) (h : a.Evolves b) :
    a.Evolves (b.takeCover i t reason) := by
  obtain ⟨working, isSpare, free⟩ := Blocks.coverTarget_covers hc
  let b1 := ((b.modSlot i (fun r => { r with coverReason := some reason })).changeState i .covered).modSlot t
    (fun r => { r with coveredSlot := some i, coverLoad := some { runs := 0, done := false }, writeSet := [] })
  have moved : ∀ {x : Blocks}, x.Evolves b → x.Evolves b1 := fun h =>
    ((h.modSlot i).changeState i .covered).modSlot t
  have plans : b1.plans = b.plans := (moved (refl b)).1
  have store : b1.store = b.store := by simp [b1]
  rw [← plans] at working isSpare
  rw [← store] at free
  exact (((moved h).remapLinks i t working isSpare free).tally _).coverReport i

theorem spareLost (spare s : SlotId) (reason : LossReason) (h : a.Evolves b) : a.Evolves (b.spareLost spare s reason) := by
  have drop : ∀ {b : Blocks}, a.Evolves b →
      a.Evolves (((b.endHold spare).detachSlot spare).dropLinks (fun l => l.endsOn spare)) := fun h =>
    ((h.endHold spare).detachSlot spare).dropLinks _
  have settled := h.modSlot s (f := fun r => { r with lostReason := some reason, coverReason := none })
  unfold Blocks.spareLost
  dsimp only
  split
  · exact drop (h.modSlot s)
  · split
    · exact drop ((settled.changeState s .lost).tally _)
    · exact drop settled

theorem retireHeld (s : SlotId) (h : a.Evolves b) : a.Evolves (b.retireHeld s) := by
  have h' := h.modSlot s (f := fun r => { r with revertMark := false, coverReason := none })
  unfold Blocks.retireHeld
  dsimp only
  split
  · split
    · exact ((h'.abandonOrder _).endHold _).dropLinks _
    · exact (h'.endHold _).dropLinks _
  · exact h'.dropLinks _

theorem revertingLost (s : SlotId) (reason : LossReason) (h : a.Evolves b) : a.Evolves (b.revertingLost s reason) := by
  have h' := h.modSlot s (f := fun r => { r with coverReason := some reason, revertMark := false })
  unfold Blocks.revertingLost
  split
  · exact h.retireHeld s
  · dsimp only
    split
    next t _ =>
      have h'' := (h'.modSlot t (f := fun r => { r with clearWanted := false })).endClearRevert t
      split
      · exact (h''.changeState s .covered).tally _
      · exact h''
    · exact h'

theorem settleLoss (i : SlotId) (reason : LossReason) (h : a.Evolves b) : a.Evolves (b.settleLoss i reason) := by
  unfold Blocks.settleLoss
  split
  · exact h.spareLost i _ reason
  · split
    · exact h.revertingLost i reason
    · split
      next hc => exact h.takeCover i _ reason hc
      · exact (h.detachSlot i).dropLinks _

theorem lose (i : SlotId) (reason : LossReason) (h : a.Evolves b) : a.Evolves (b.lose i reason) :=
  ((((h.modSlot i).changeState i .lost).powerOff i).tally _).settleLoss i reason

theorem loseInService (i : SlotId) (reason : LossReason) (h : a.Evolves b) : a.Evolves (b.loseInService i reason) := by
  unfold Blocks.loseInService
  split
  · exact h.lose i reason
  · exact h

theorem cardRestart (i : SlotId) (h : a.Evolves b) : a.Evolves (b.cardRestart i) := by
  unfold Blocks.cardRestart
  split
  · exact ((((h.enterState i _).modSlot i).startDeadline i).slotInPlace i).tally _
  · exact h

theorem completeRevert (spare s : SlotId) (h : a.Evolves b) : a.Evolves (b.completeRevert spare s) :=
  foldl (fun _ id h => h.returnLink id) _
    ((((h.detachSlot spare).restoreLinks s).endHold spare).modSlot s)

/-! ### Loading, and the outcomes of the registry's orders -/

theorem merge (plan : Plan) (i : SlotId) (reports : List PortReport) (h : a.Evolves b) :
    a.Evolves (b.merge plan i reports) := by
  have one : ∀ (acc : Blocks × List GroupSet) (p : Fin 32), a.Evolves acc.1 →
      a.Evolves (Blocks.mergeOne plan i reports acc p).1 := by
    intro acc p h
    unfold Blocks.mergeOne
    dsimp only
    split
    · exact (h.modPort i p _).raise _
    · exact h.modPort i p _
  have all : ∀ (ports : List (Fin 32)) (acc : Blocks × List GroupSet), a.Evolves acc.1 →
      a.Evolves (ports.foldl (Blocks.mergeOne plan i reports) acc).1 := by
    intro ports
    induction ports with
    | nil => exact fun _ h => h
    | cons p ports ih => exact fun acc h => ih _ (one acc p h)
  exact (all _ (b, []) h).modSlot i

theorem beginLoading (i : SlotId) (h : a.Evolves b) : a.Evolves (b.beginLoading i) := by
  have h' := h.modSlot i (f := fun r => { r with writeSet := [], readBuffer := [] })
  unfold Blocks.beginLoading
  dsimp only
  split
  · exact h'.modSlot i
  · split
    · exact h'.modSlot i
    · exact h'.merge _ i []
  · exact h'

theorem identified (i : SlotId) (id : Identity) (h : a.Evolves b) : a.Evolves (b.identified i id) := by
  have h1 := h.modSlot i (f := fun r => { r with identity := some id })
  have alarm : ∀ {b : Blocks}, a.Evolves b →
      a.Evolves (if id.cause = .alarm then b.raise (.slotAlarm i id.cause) else b) := fun h => ite (h.raise _) h
  unfold Blocks.identified
  dsimp only
  split
  · exact h1
  · split
    · exact h1.loseInService i _
    · split
      · split
        · exact alarm (((h1.modSlot i).enterState i .live).tally _)
        · have h2 := (h1.modSlot i (f := fun r => { r with latestId := some .fresh })).enterState i .loading
          split
          · exact h2.beginLoading i
          · exact ((h2.slotInPlace i).tally _).beginLoading i
      · have h2 := h1.modSlot i (f := fun r => { r with attention := false })
        split
        · exact alarm h2
        · exact (((((h2.modSlot i).enterState i .loading).startDeadline i).slotInPlace i).tally _).beginLoading i
      · exact h1

theorem termGiven (i : SlotId) (term : Nat) (h : a.Evolves b) : a.Evolves (b.termGiven i term) := by
  unfold Blocks.termGiven
  split
  · exact (h.modSlot i).enterState i .live
  · exact h

theorem runRead (i : SlotId) (records : List (List Byte)) (h : a.Evolves b) : a.Evolves (b.runRead i records) := by
  unfold Blocks.runRead
  dsimp only
  split
  · split
    · exact h.merge _ i _
    · exact h.modSlot i
  · exact h

theorem runWritten (i : SlotId) (h : a.Evolves b) : a.Evolves (b.runWritten i) := h.modSlot i

theorem coverRunWritten (i held : SlotId) (run : Nat) (h : a.Evolves b) : a.Evolves (b.coverRunWritten i held run) := by
  unfold Blocks.coverRunWritten
  dsimp only
  split
  · exact h.modSlot i
  · exact h

theorem cleared (i : SlotId) (reverts : Bool) (out : OrderOutcome) (h : a.Evolves b) :
    a.Evolves (b.cleared i reverts out) := by
  cases out
  case refused => exact h.loseInService i _
  case noAnswer => exact h.loseInService i _
  case done =>
    unfold Blocks.cleared
    dsimp only
    split
    · exact h
    · split
      · exact h.completeRevert i _
      · exact (h.slotInPlace i).modSlot i
  case fresh =>
    unfold Blocks.cleared
    dsimp only
    split
    · exact h.cardRestart i
    · split
      · exact (h.completeRevert i _).cardRestart i
      · exact h.cardRestart i

theorem orderFailed (i : SlotId) (out : OrderOutcome) (h : a.Evolves b) : a.Evolves (b.orderFailed i out) := by
  cases out
  case done => exact h
  case noAnswer | refused => exact h.loseInService i _
  case fresh =>
    unfold Blocks.orderFailed
    dsimp only
    split
    · exact h.cardRestart i
    · exact h.loseInService i _

theorem registryOutcome (o : BusOrder) (use : RegistryUse) (out : OrderOutcome) (records : List (List Byte))
    (h : a.Evolves b) : a.Evolves (b.registryOutcome o use out records) := by
  have h' := h.modSlot o.slot (f := fun r => { r with order := none })
  have failed := h'.orderFailed o.slot out
  unfold Blocks.registryOutcome
  dsimp only
  split
  · exact h'
  · cases use
    case identify =>
      cases out
      case done =>
        dsimp only
        split
        · exact h'.identified _ _
        · exact h'
      case noAnswer | refused | fresh => exact h'.loseInService _ _
    case loadRead => exact ite (h'.runRead _ _) failed
    case loadWrite => exact ite (h'.runWritten _) failed
    case writeSet => exact failed
    case coverRun held run => exact ite (h'.coverRunWritten _ _ _) failed
    case setTerm term => exact ite (h'.termGiven _ _) failed
    case clear reverts => exact h'.cleared _ _ _

theorem busReport (i : SlotId) (out : OrderOutcome) (h : a.Evolves b) : a.Evolves (b.busReport i out) := by
  cases out
  case fresh => exact h.cardRestart i
  case noAnswer => exact h.loseInService i _
  case done | refused => exact h

/-! ### The orders wanted -/

theorem resetHeldTests (s : SlotId) (h : a.Evolves b) : a.Evolves (b.resetHeldTests s) :=
  foldl (fun _ p h => h.modPort s p _) _ h

theorem notePlacement (i : SlotId) (o : BusOrder) (h : a.Evolves b) : a.Evolves (b.notePlacement i o) := by
  have h' := h.modSlot i (f := fun r => { r with order := some { code := o.code, abandoned := false } })
  unfold Blocks.notePlacement
  dsimp only
  split
  · split
    · exact ite ((h'.modSlot i).resetHeldTests _) (h'.modSlot i)
    · exact h'.modSlot i
  · exact h'.modSlot i
  · exact h'.modSlot i
  · exact h'

theorem placeWanted (i : SlotId) (h : a.Evolves b) : a.Evolves (b.placeWanted i) := by
  unfold Blocks.placeWanted
  split
  · exact h
  next o _ => exact notePlacement (b := { b with bus := { b.bus with registryQueue := b.bus.registryQueue ++ [o] } }) i o h

theorem placeRegistry (h : a.Evolves b) : a.Evolves b.placeRegistry := foldl (fun _ i h => h.placeWanted i) _ h

theorem finishCoverLoads (h : a.Evolves b) : a.Evolves b.finishCoverLoads := by
  refine foldl (fun b i h => ?_) _ h
  unfold Blocks.finishCoverLoad
  split
  · exact h.modSlot i
  · exact h

/-! ### The card bus -/

theorem placeBacklog (h : a.Evolves b) : a.Evolves b.placeBacklog := h

theorem grant (h : a.Evolves b) : a.Evolves b.grant := h

theorem onBus (bus : CardBus) (h : a.Evolves b) : a.Evolves { b with bus } := h

theorem deliver (t : Nat) (o : BusOrder) (out : OrderOutcome) (given : List (List Byte)) (h : a.Evolves b) :
    a.Evolves (Blocks.deliver t b o out given) := by
  unfold Blocks.deliver
  dsimp only
  split
  · exact h.registryOutcome o _ out _
  · exact (h.engineOutcome t o _ out _).busReport _ _
  · exact busReport (b := { b with passOutcome := some (.outcome out (if out = .done then given else [])) }) _ _ h

theorem finishOrder (t : Nat) (tr : Transfer) (out : OrderOutcome) (h : a.Evolves b) :
    a.Evolves (Blocks.finishOrder t b tr out) := by
  unfold Blocks.finishOrder
  split
  · exact h
  · exact (h.onBus _).deliver t _ out _

theorem endAttempt (t : Nat) (tr : Transfer) (ending : Ending) (h : a.Evolves b) :
    a.Evolves (Blocks.endAttempt t b tr ending) := by
  have h' := h.onBus (b.bus.setTransfer none)
  unfold Blocks.endAttempt
  dsimp only
  split
  · exact h'
  · exact h'.finishOrder t tr _
  · split
    · exact h'
    · exact h'.finishOrder t tr _

theorem releaseEnded (t : Nat) (h : a.Evolves b) : a.Evolves (Blocks.releaseEnded t b) := by
  unfold Blocks.releaseEnded
  split
  · split
    · exact h.endAttempt t _ _
    · exact h
  · exact h

theorem completionGiven (t : Nat) (code : Byte) (h : a.Evolves b) : a.Evolves (Blocks.completionGiven t b code) := by
  unfold Blocks.completionGiven
  split
  next tr _ =>
    cases tr.phase
    case acknowledge =>
      dsimp only
      split
      · exact h.endAttempt t _ _
      · exact h
    case header | data => exact h
    case complete =>
      dsimp only
      split
      · exact h
      · exact h
    case release => exact h
  · exact h

theorem phaseTimedOut (t : Nat) (h : a.Evolves b) : a.Evolves (Blocks.phaseTimedOut t b) := by
  unfold Blocks.phaseTimedOut
  split
  next tr _ =>
    cases tr.phase
    case acknowledge => exact h.endAttempt t _ _
    case header | data | complete => exact h
    case release ending => exact h.endAttempt t _ _
  · exact h

/-! ### The episode controller -/

theorem setShelf (st : ShelfState) (h : a.Evolves b) : a.Evolves (b.setShelf st) := h

theorem openEpisode (t : Nat) (cause : EpisodeCause) (fmin : Option Nat) (h : a.Evolves b) :
    a.Evolves (Blocks.openEpisode t cause fmin b) := h

theorem freezeLinks (h : a.Evolves b) : a.Evolves b.freezeLinks := by
  have frozen : ∀ l : Link, l.SamePlace (b.frozenLink l) := by
    intro l
    unfold Blocks.frozenLink
    split
    case h_2 | h_3 | h_4 | h_5 => split <;> exact ⟨rfl, rfl, rfl, rfl, rfl, rfl⟩
    all_goals exact ⟨rfl, rfl, rfl, rfl, rfl, rfl⟩
  exact foldl (fun _ id h => h.joinQueue id) _ ((h.mapLinks frozen).same rfl rfl)

theorem freezeSlot (i : SlotId) (h : a.Evolves b) : a.Evolves (b.freezeSlot i) := by
  unfold Blocks.freezeSlot
  split
  · exact h
  · split
    · split
      · exact (h.powerShed i).enterState i _
      · exact h
    · split
      · exact h.enterState i _
      · exact h

theorem recover (h : a.Evolves b) : a.Evolves b.recover := by
  refine foldl (fun b i h => ?_) _ (setShelf .recovering (h.onBus { b.bus with paused := false }))
  unfold Blocks.recoverSlot
  split
  · exact (h.enterState i _).startDeadline i
  · exact h.startDeadline i
  · exact h

theorem freeze (h : a.Evolves b) : a.Evolves b.freeze := by
  have cut : a.Evolves b.cutBus := h.same (by simp) (by simp)
  have orders : a.Evolves b.cutBus.endRegistryOrders := foldl (fun _ i h => h.modSlot i) _ cut
  have frozen : a.Evolves (allSlots.foldl Blocks.freezeSlot b.cutBus.endRegistryOrders.freezeLinks) :=
    foldl (fun _ i h => h.freezeSlot i) _ orders.freezeLinks
  have stopped : a.Evolves (allSlots.foldl Blocks.freezeSlot b.cutBus.endRegistryOrders.freezeLinks).stopDeadlines :=
    foldl (fun _ i h => h.modSlot i) _ frozen
  unfold Blocks.freeze
  dsimp only
  split
  · exact ((stopped.tally _).setShelf _).recover
  · exact (stopped.tally _).setShelf _

theorem onEpisode (ep : EpisodeController) (h : a.Evolves b) : a.Evolves { b with ep } := h

theorem supplyReport (t : Nat) (status : Supply) (fmin : Option Nat) (h : a.Evolves b) :
    a.Evolves (Blocks.supplyReport t status fmin b) := by
  have h' := h.onEpisode { b.ep with supply := status }
  unfold Blocks.supplyReport
  cases status
  case down =>
    dsimp only
    split
    · exact (h'.openEpisode t _ _).freeze
    · exact (h'.tally _).freeze
    · exact (h'.tally _).freeze
    · exact h'
    · exact h'
  case up =>
    dsimp only
    split
    · exact h'.recover
    all_goals exact h'

theorem handFmin (fmin : Option Nat) (h : a.Evolves b) : a.Evolves (b.handFmin fmin) := h.same (by simp) (by simp)

theorem judgeClose (t : Nat) (h : a.Evolves b) : a.Evolves (b.judgeClose t) := h.same (by simp) (by simp)

theorem judgeSettled (t : Nat) (h : a.Evolves b) : a.Evolves (b.judgeSettled t) := by
  unfold Blocks.judgeSettled
  split
  · exact h.freeze.judgeEngine t
  · exact h

/-- What the blocks judge at the end of an event moves the link table by its moves alone. -/
theorem settle (t : Nat) (h : a.Evolves b) : a.Evolves (b.settle t) :=
  ((((h.finishCoverLoads.judgeEngine t).standDown.judgeSettled t).judgeAdmission).judgeClose t).placeRegistry.placeBacklog.grant

/-! ### The events of the feeds, the timers and the switches -/

theorem tell (t : Nat) (m : FeedMonitor) (e : Option SupplyEvent) (h : a.Evolves b) : a.Evolves (m.tell t e b) := by
  cases e
  case none =>
    unfold FeedMonitor.tell
    dsimp only
    split
    · exact h
    · exact h
  case some e =>
    exact supplyReport (b := { b with power := { b.power with supply := e.status, budget := m.budget } }.raise (m.notice e))
      t _ _ h

theorem holdExpired (t : Nat) (h : a.Evolves b) : a.Evolves (b.holdExpired t) := by
  unfold Blocks.holdExpired
  split
  · exact (h.setHold none).defer t _ _
  · exact h.setHold none

theorem rampExpired (i : SlotId) (h : a.Evolves b) : a.Evolves (Blocks.rampExpired i b) := by
  have h' := fun f => h.modPower i f
  unfold Blocks.rampExpired Blocks.rampEnd
  dsimp only
  split
  · split
    · exact (h' _).enterState i _
    · exact (h' _).enterState i _
  · exact h' _

theorem darkExpired (i : SlotId) (h : a.Evolves b) : a.Evolves (Blocks.darkExpired i b) := by
  have h' := (h.modPower i (fun r => { r with dark := none })).joinAdmission i
  unfold Blocks.darkExpired
  dsimp only
  split
  · exact h'.enterState i _
  · exact h'

theorem tripped (i : SlotId) (h : a.Evolves b) : a.Evolves (Blocks.tripped i b) :=
  ((h.modPower i _).openSwitch i).lose i _

/-! ### The requests -/

theorem startShelf (h : a.Evolves b) : a.Evolves b.startShelf := by
  refine foldl (fun b i h => ?_) _ (h.setShelf .standby)
  unfold Blocks.startSlot
  split
  · exact h.queueSlot i
  · exact h

theorem relinkSet (c : RelinkSettings) (mask : CompareMask) (h : a.Evolves b) : a.Evolves (b.relinkSet c mask) := h

theorem placePass (o : BusOrder) (h : a.Evolves b) : a.Evolves (b.placePass o) := h

theorem told (h : a.Evolves b) : a.Evolves b.told := h

/-- R77: what follows a plan once it stands in the slot's record. -/
theorem loadPlan (i : SlotId) (plan : Option Plan) (h : a.Evolves (b.modSlot i (fun r => { r with plan }))) :
    a.Evolves (Blocks.loadPlan i plan b) := by
  cases plan
  case none => exact h.enterState i _
  case some =>
    unfold Blocks.loadPlan
    dsimp only
    split
    · exact h.enterState i _
    · exact h.queueSlot i

theorem joinWriteSet (i : SlotId) (p : Fin 32) (h : a.Evolves b) : a.Evolves (b.joinWriteSet i p) :=
  h.modSlot i

theorem portJoins (i : SlotId) (p : Fin 32) (f : PortFields) (h : a.Evolves b) : a.Evolves (b.portJoins i p f) := by
  unfold Blocks.portJoins
  split
  · split
    · split
      · exact (h.joinWriteSet _ p).joinWriteSet i p
      · exact h.joinWriteSet _ p
    · split
      · exact h
      · exact h.joinWriteSet i p
  · exact h

theorem setPort (i : SlotId) (p : Fin 32) (f : PortFields) (h : a.Evolves b) : a.Evolves (Blocks.setPort i p f b) := by
  refine mapLinks (fun l => ?_) ((h.modPort i p _).portJoins i p f)
  split <;> exact ⟨rfl, rfl, rfl, rfl, rfl, rfl⟩

theorem beginRevert (i : SlotId) (h : a.Evolves b) : a.Evolves (Blocks.beginRevert i b) :=
  ((h.modSlot i).enterState i _).powerShed i

theorem restartSlot (i : SlotId) {c : Blocks} (hc : b.restartSlot i = some c) (h : a.Evolves b) : a.Evolves c := by
  have off := (h.enterState i .dark).powerShed i
  unfold Blocks.restartSlot at hc
  dsimp only at hc
  split at hc
  · cases hc
  · split at hc
    · cases hc
    · split at hc
      · cases hc; exact h.beginRevert i
      · split at hc
        · cases hc; exact off.slotInPlace i
        · split at hc
          · cases hc; exact off
          · cases hc

theorem retireSlot (i : SlotId) {c : Blocks} (hc : b.retireSlot i = some c) (h : a.Evolves b) : a.Evolves c := by
  have reason := h.modSlot i (f := fun r => { r with lostReason := some .retired })
  unfold Blocks.retireSlot at hc
  cases hst : (b.slot i).state <;> simp only [hst] at hc
  case vacant | off | covered => cases hc
  case lost =>
    cases hc
    unfold Blocks.retireLost
    dsimp only
    split
    · exact reason.retireHeld i
    · exact reason
  all_goals
    cases hc
    exact h.lose i .retired

theorem revertSlot (i : SlotId) {c : Blocks} (hc : b.revertSlot i = some c) (h : a.Evolves b) : a.Evolves c := by
  unfold Blocks.revertSlot at hc
  split at hc
  · cases hc; exact h.beginRevert i
  · cases hc

end Blocks.Evolves

end Sys2Proof.Machine
end

section
/-! SUPPORT. What one step does to the link table and to the plans: the moves of the link table alone, unless it is a reset,
an accepted CREATE LINK or an accepted LOAD SLOT. -/

namespace Sys2Proof.Machine

/-- What a step does to the link table and to the plans. -/
inductive Blocks.LinkStep (b c : Blocks) : Prop
  | moved (h : b.Evolves c)
  | reset (h : Blocks.reset.Evolves c)
  | created (r : LinkRequest) (l : Link) (inRange : ∀ p, r.place = some p → p.2 < Config.cellsPerHighway)
      (checked : b.checkLink r = .ok l) (h : (Blocks.createLink l b).Evolves c)
  | planned (i : SlotId) (plan : Option Plan) (free : b.replannable i = true) (keeps : b.planStrands i plan = false)
      (h : (b.modSlot i (fun r => { r with plan })).Evolves c)

namespace Blocks.LinkStep

variable {b c d : Blocks}

theorem refl (b : Blocks) : b.LinkStep b := .moved (.refl b)

/-- What follows with neither the slot registry nor the link store moving belongs to the step. -/
theorem same (h : b.LinkStep c) (hreg : d.reg = c.reg) (hstore : d.store = c.store) : b.LinkStep d := by
  cases h with
  | moved h => exact .moved (h.same hreg hstore)
  | reset h => exact .reset (h.same hreg hstore)
  | created r l hr hl h => exact .created r l hr hl (h.same hreg hstore)
  | planned i plan hf hk h => exact .planned i plan hf hk (h.same hreg hstore)

theorem told (h : b.LinkStep c) : b.LinkStep c.told := h.same rfl rfl

theorem of_eq (h : c = b) : b.LinkStep c := h ▸ .refl b

end Blocks.LinkStep

/-! ### The owners of the requests -/

theorem State.settled_linkStep {b : Blocks} (s : State) {f : Blocks → Blocks} (h : b.Evolves (f s.blk)) :
    b.LinkStep (s.settled f).blk := .moved (h.settle s.time)

theorem State.accept_fst (s : State) (clamped : Bool) (fields : List Byte) : (s.accept clamped fields).1 = s := rfl

/-- R167: an accepted request that settles the blocks. -/
theorem State.accepted_linkStep {b : Blocks} (s : State) {f : Blocks → Blocks} (clamped : Bool) (fields : List Byte)
    (h : b.Evolves (f s.blk)) : b.LinkStep ((s.settled f).accept clamped fields).1.blk := by
  rw [State.accept_fst]
  exact s.settled_linkStep h

theorem State.slotRequest_linkStep (s : State) (body : List Byte) {f : Blocks → SlotId → Option Blocks}
    (hf : ∀ i c, f s.blk i = some c → s.blk.Evolves c) : s.blk.LinkStep (s.slotRequest body f).1.blk := by
  unfold State.slotRequest
  split
  · split
    · exact .refl _
    · split
      · exact .refl _
      next c hc => exact s.accepted_linkStep (f := fun _ => c) _ _ (hf _ _ hc)
  · exact .refl _

theorem readLinkRequest_inRange {body : List Byte} {r : LinkRequest} (h : readLinkRequest body = some r)
    (p : HighwaySet × Nat) (hp : r.place = some p) : p.2 < Config.cellsPerHighway := by
  unfold readLinkRequest at h
  split at h
  · split at h
    · split at h
      · cases h; cases hp
      · split at h
        · split at h
          next c => cases h; cases hp; exact Nat.lt_succ_of_le c.1
          · cases h
        · cases h
    · cases h
  · cases h

theorem ownCreateLink_linkStep (body : List Byte) (s : State) : s.blk.LinkStep (ownCreateLink body s).1.blk := by
  unfold ownCreateLink
  split
  · exact .refl _
  next r hr =>
    split
    · exact .refl _
    next l hl => exact .created r l (readLinkRequest_inRange hr) hl ((Blocks.Evolves.refl _).settle s.time)

theorem ownLoadSlot_linkStep (body : List Byte) (s : State) : s.blk.LinkStep (ownLoadSlot body s).1.blk := by
  have loaded : ∀ (i : SlotId) (plan : Option Plan), ¬ s.blk.replannable i = false → s.blk.planStrands i plan = false →
      s.blk.LinkStep (s.settled (Blocks.loadPlan i plan)).blk := fun i plan hf hk =>
    .planned i plan (by simpa using hf) hk (((Blocks.Evolves.refl _).loadPlan i plan).settle s.time)
  unfold ownLoadSlot
  split
  · exact .refl _
  next i plan _ =>
    split
    · exact .refl _
    next hf =>
      cases plan with
      | none =>
        dsimp only
        split
        · exact .refl _
        next hk => exact loaded i none hf (by simpa using hk)
      | some p =>
        dsimp only
        split
        · exact .refl _
        next hk =>
          have agrees : s.blk.planStrands i (some p) = false := by
            simp only [Blocks.planAgrees, Bool.and_eq_false_iff, not_or, Bool.not_eq_false, Bool.not_eq_true'] at hk
            exact hk.2
          exact loaded i (some p.clamped) hf agrees

theorem ownSetFeeds_linkStep (body : List Byte) (s : State) : s.blk.LinkStep (ownSetFeeds body s).1.blk := by
  unfold ownSetFeeds
  split
  · exact .refl _
  · exact State.accepted_linkStep _ _ _ ((Blocks.Evolves.refl _).tell _ _ _)

theorem ownSetBudget_linkStep (body : List Byte) (s : State) : s.blk.LinkStep (ownSetBudget body s).1.blk := by
  unfold ownSetBudget
  split
  · dsimp only
    split
    · split
      · split
        · exact .refl _
        · exact State.accepted_linkStep _ _ _ ((Blocks.Evolves.refl _).tell _ _ _)
      · exact .refl _
    · exact .refl _
  · exact .refl _

theorem ownSetRelink_linkStep (body : List Byte) (s : State) : s.blk.LinkStep (ownSetRelink body s).1.blk := by
  unfold ownSetRelink
  split
  · split
    · exact .refl _
    · refine s.accepted_linkStep _ _ ?_
      exact (Blocks.Evolves.refl _).relinkSet _ _
  · exact .refl _

theorem ownSetNotices_linkStep (body : List Byte) (s : State) : s.blk.LinkStep (ownSetNotices body s).1.blk := by
  unfold ownSetNotices
  split
  · split
    · exact .refl _
    · exact .refl _
  · exact .refl _

theorem ownStartShelf_linkStep (body : List Byte) (s : State) : s.blk.LinkStep (ownStartShelf body s).1.blk := by
  unfold ownStartShelf
  split
  · exact s.accepted_linkStep _ _ (Blocks.Evolves.refl _).startShelf
  · exact .refl _

theorem ownDrill_linkStep (body : List Byte) (s : State) : s.blk.LinkStep (ownDrill body s).1.blk := by
  unfold ownDrill
  split
  · split
    · exact .refl _
    · split
      · exact .refl _
      · split
        · exact .refl _
        · split
          · exact s.accepted_linkStep _ _ ((Blocks.Evolves.refl _).openEpisode _ _ _).freeze
          · exact s.accepted_linkStep _ _ (((Blocks.Evolves.refl _).openEpisode _ _ _).setShelf _)
  · exact .refl _

theorem ownRemoveLink_linkStep (body : List Byte) (s : State) : s.blk.LinkStep (ownRemoveLink body s).1.blk := by
  unfold ownRemoveLink
  split
  · exact .refl _
  · split
    · exact .refl _
    · split
      · exact .refl _
      · refine s.accepted_linkStep _ _ ?_
        exact (Blocks.Evolves.refl _).removeLink _

theorem ownRetryLink_linkStep (body : List Byte) (s : State) : s.blk.LinkStep (ownRetryLink body s).1.blk := by
  unfold ownRetryLink
  split
  · exact .refl _
  · split
    · exact .refl _
    · split
      · split
        · exact .refl _
        · split
          · exact .refl _
          · refine s.accepted_linkStep _ _ ?_
            exact (Blocks.Evolves.refl _).modLink _ fun _ => ⟨rfl, rfl, rfl, rfl, rfl, rfl⟩
      · exact .refl _

theorem ownSetPort_linkStep (body : List Byte) (s : State) : s.blk.LinkStep (ownSetPort body s).1.blk := by
  unfold ownSetPort
  split
  · split
    · refine s.accepted_linkStep _ _ ?_
      exact (Blocks.Evolves.refl _).setPort _ _ _
    · exact .refl _
  · exact .refl _

theorem ownCardPorts_linkStep (body : List Byte) (s : State) : s.blk.LinkStep (ownCardPorts body s).1.blk := by
  unfold ownCardPorts
  split
  · split
    · split
      · split
        · exact .refl _
        · split
          · exact .moved ((Blocks.Evolves.refl _).placePass _)
          · exact .refl _
      · exact .refl _
    · exact .refl _
  · exact .refl _

theorem ownGetSlot_blk (body : List Byte) (s : State) : (ownGetSlot body s).1.blk = s.blk := by
  unfold ownGetSlot
  repeat' split
  all_goals rfl

theorem ownGetEpisode_blk (body : List Byte) (s : State) : (ownGetEpisode body s).1.blk = s.blk := by
  unfold ownGetEpisode
  repeat' split
  all_goals rfl

theorem ownGetLink_blk (body : List Byte) (s : State) : (ownGetLink body s).1.blk = s.blk := by
  unfold ownGetLink
  repeat' split
  all_goals rfl

theorem ownFindLinks_blk (body : List Byte) (s : State) : (ownFindLinks body s).1.blk = s.blk := by
  unfold ownFindLinks
  split <;> rfl

theorem ownGetPort_blk (body : List Byte) (s : State) : (ownGetPort body s).1.blk = s.blk := by
  unfold ownGetPort
  repeat' split
  all_goals rfl

theorem ownRequest_linkStep (kind : Nat) (body : List Byte) (s : State) :
    s.blk.LinkStep (ownRequest kind body s).1.blk := by
  unfold ownRequest
  split
  · exact ownSetFeeds_linkStep body s
  · exact ownSetBudget_linkStep body s
  · exact ownSetRelink_linkStep body s
  · exact ownSetNotices_linkStep body s
  · exact ownLoadSlot_linkStep body s
  · exact ownStartShelf_linkStep body s
  · exact ownDrill_linkStep body s
  · exact .refl _
  · exact .refl _
  · exact .of_eq (ownGetSlot_blk body s)
  · exact .of_eq (ownGetEpisode_blk body s)
  · exact ownCreateLink_linkStep body s
  · exact ownRemoveLink_linkStep body s
  · exact ownRetryLink_linkStep body s
  · exact .of_eq (ownGetLink_blk body s)
  · exact .of_eq (ownFindLinks_blk body s)
  · exact ownSetPort_linkStep body s
  · exact .of_eq (ownGetPort_blk body s)
  · exact ownCardPorts_linkStep body s
  · exact s.slotRequest_linkStep body fun i _ hc => (Blocks.Evolves.refl _).restartSlot i hc
  · exact s.slotRequest_linkStep body fun i _ hc => (Blocks.Evolves.refl _).retireSlot i hc
  · exact s.slotRequest_linkStep body fun i _ hc => (Blocks.Evolves.refl _).revertSlot i hc
  · exact .refl _

/-! ### The commands -/

theorem judgeRequest_linkStep (f : Frame) (s : State) : s.blk.LinkStep (judgeRequest f s).1.blk := by
  unfold judgeRequest
  split
  · exact .refl _
  · split
    · exact ownRequest_linkStep _ _ s
    · exact .refl _

theorem State.answered_blk (a : Answered) : (State.answered a).blk = a.1.blk := by
  unfold State.answered
  split <;> rfl

theorem State.takeInHand_linkStep {b : Blocks} (s : State) (hb : s.blk = b) : b.LinkStep s.takeInHand.blk := by
  subst hb
  unfold State.takeInHand
  split
  · exact .refl _
  next f _ _ =>
    rw [State.deliver_blk, State.answered_blk]
    exact (judgeRequest_linkStep f s).told

theorem State.receive_linkStep {b : Blocks} (s : State) (f : Frame) (hb : s.blk = b) :
    b.LinkStep (s.receive f).blk := by
  subst hb
  unfold State.receive
  split
  · dsimp only
    split
    · exact State.takeInHand_linkStep _ rfl
    · exact .refl _
  · exact .refl _

theorem State.event_linkStep {b : Blocks} (s : State) {f : Blocks → Blocks} (h : b.Evolves (f s.blk)) :
    b.LinkStep (s.event f).blk := by
  rw [State.event, State.deliver_blk]
  exact .moved (h.settle s.time).told

theorem State.onBus_linkStep (s : State) (f : CardBus → CardBus) : s.blk.LinkStep (s.onBus f).blk :=
  (Blocks.LinkStep.refl _).same rfl rfl

theorem State.resetAll_linkStep (s : State) : s.blk.LinkStep s.resetAll.blk := .reset (.refl _)

theorem State.character_linkStep (s : State) (c : Byte) : s.blk.LinkStep (s.character c).blk := by
  unfold State.character
  dsimp only
  split
  · exact State.receive_linkStep _ _ rfl
  · exact .refl _

theorem State.frameSent_linkStep (s : State) : s.blk.LinkStep s.frameSent.blk := by
  have replySent : s.blk.LinkStep s.replySent.blk := by
    unfold State.replySent
    split
    · exact .refl _
    · split
      · exact s.resetAll_linkStep
      · split
        · exact State.takeInHand_linkStep _ rfl
        · exact .refl _
  unfold State.frameSent
  split
  · exact .refl _
  · exact replySent.same rfl rfl
  · exact .refl _

theorem State.sample_linkStep (s : State) (feed : FeedId) (v : Nat) : s.blk.LinkStep (s.sample feed v).blk := by
  unfold State.sample
  split
  · exact State.event_linkStep _ (((Blocks.Evolves.refl _).tell _ _ _).handFmin _)
  · exact .refl _

/-- A command that is taken only while the pin is not held. -/
theorem State.running_linkStep {s t : State} {f : State → State} (hf : s.blk.LinkStep (f s).blk)
    (h : s.running f = .next t) : s.blk.LinkStep t.blk := by
  cases h
  split
  · exact .refl _
  · exact hf

/-- An event taken under a condition. -/
theorem State.eventIf_linkStep {s : State} {p : Prop} [Decidable p] {f : Blocks → Blocks}
    (h : s.blk.Evolves (f s.blk)) : s.blk.LinkStep (if p then s.event f else s).blk := by
  split
  · exact s.event_linkStep h
  · exact .refl _

/-- R165: a request command offers its frame to the request buffer, unless the pin is held. -/
theorem exec_request {c : Instr} {f : Frame} (hf : requestFrame c = some f) (s : State) :
    exec c s = s.running (fun s => s.receive f) := by
  cases c <;> cases hf <;> rfl

theorem exec_linkStep {c : Instr} {s t : State} (h : exec c s = .next t) : s.blk.LinkStep t.blk := by
  have same : s.blk.Evolves s.blk := .refl _
  cases c
  case deviceReset => cases h; exact s.resetAll_linkStep
  case resetRelease =>
    cases h
    split
    · exact s.resetAll_linkStep
    · exact .refl _
  case characterReceived c =>
    simp only [exec, execCharacterReceived] at h
    exact State.running_linkStep (s.character_linkStep c) h
  case lineError =>
    simp only [exec, execLineError] at h
    refine State.running_linkStep (.of_eq ?_) h
    split <;> rfl
  case gapTimerExpiry =>
    simp only [exec, execGapTimerExpiry] at h
    refine State.running_linkStep (.of_eq ?_) h
    split <;> rfl
  case frameSent =>
    simp only [exec, execFrameSent] at h
    exact State.running_linkStep s.frameSent_linkStep h
  case feedSample feed v =>
    simp only [exec, execFeedSample] at h
    exact State.running_linkStep (f := fun s => s.sample feed v.toNat) (s.sample_linkStep feed v.toNat) h
  case armTimerExpiry =>
    simp only [exec, execArmTimerExpiry] at h
    refine State.running_linkStep ?_ h
    split
    · exact State.event_linkStep _ (same.tell _ _ _)
    · exact .refl _
  case cardAcknowledge =>
    simp only [exec, execCardAcknowledge] at h
    refine State.running_linkStep ?_ h
    exact s.onBus_linkStep _
  case cardHeaderAnswer =>
    simp only [exec, execCardHeaderAnswer] at h
    refine State.running_linkStep ?_ h
    exact s.onBus_linkStep _
  case cardDataRecord =>
    simp only [exec, execCardDataRecord] at h
    refine State.running_linkStep ?_ h
    exact s.onBus_linkStep _
  case acknowledgeWithdrawn =>
    simp only [exec, execAcknowledgeWithdrawn] at h
    refine State.running_linkStep ?_ h
    exact s.onBus_linkStep _
  case cardCompletion code =>
    simp only [exec, execCardCompletion] at h
    have done := same.completionGiven s.time code
    refine State.running_linkStep ?_ h
    split
    · exact s.event_linkStep done
    · exact .moved done
  case holdTimerExpiry =>
    simp only [exec, execHoldTimerExpiry] at h
    refine State.running_linkStep ?_ h
    exact State.eventIf_linkStep (same.holdExpired _)
  case releaseEnd =>
    simp only [exec, execReleaseEnd] at h
    refine State.running_linkStep ?_ h
    exact State.eventIf_linkStep (same.releaseEnded _)
  case phaseTimeoutExpiry =>
    simp only [exec, execPhaseTimeoutExpiry] at h
    refine State.running_linkStep ?_ h
    exact State.eventIf_linkStep (same.phaseTimedOut _)
  case attentionRise i =>
    simp only [exec, execAttentionRise] at h
    refine State.running_linkStep ?_ h
    exact State.eventIf_linkStep (same.modSlot i)
  case returnDeadlineExpiry i =>
    simp only [exec, execReturnDeadlineExpiry] at h
    refine State.running_linkStep ?_ h
    exact State.eventIf_linkStep (same.lose i _)
  case rampTimerExpiry i =>
    simp only [exec, execRampTimerExpiry] at h
    refine State.running_linkStep ?_ h
    exact State.eventIf_linkStep (same.rampExpired i)
  case darkTimerExpiry i =>
    simp only [exec, execDarkTimerExpiry] at h
    refine State.running_linkStep ?_ h
    exact State.eventIf_linkStep (same.darkExpired i)
  case switchTrip i =>
    simp only [exec, execSwitchTrip] at h
    refine State.running_linkStep ?_ h
    exact State.eventIf_linkStep (same.tripped i)
  all_goals
    rw [exec_request rfl] at h
    exact State.running_linkStep (s.receive_linkStep _ rfl) h

theorem State.tick_linkStep (s : State) : s.blk.LinkStep s.tick.blk := by
  unfold State.tick
  split
  · exact .refl _
  · refine .moved ⟨?_, .refl⟩
    funext i
    simp [Blocks.plans, Blocks.slot, Blocks.tick, SlotRec.tick]

/-- What one step can do to the link table and to the plans. -/
theorem step_linkStep {s t : State} (h : step s = .next t) : s.blk.LinkStep t.blk := by
  unfold step at h
  split at h
  · cases h; exact s.tick_linkStep
  next c rest _ => exact exec_linkStep (s := { s with pending := rest }) h

end Sys2Proof.Machine
end

section
/-! CERTIFICATE. The link store law (R1, R5 to R10): the moves of the link table keep it, and so do CREATE LINK and a
reset. -/

namespace Sys2Proof.Machine

/-! ### The table's own operations -/

theorem insertLink_perm (l : Link) (links : List Link) : (insertLink l links).Perm (l :: links) := by
  induction links with
  | nil => exact .refl _
  | cons m links ih =>
    unfold insertLink
    split
    · exact .refl _
    · exact (ih.cons m).trans (.swap l m links)

@[simp] theorem mem_insertLink {l m : Link} {links : List Link} : m ∈ insertLink l links ↔ m = l ∨ m ∈ links := by
  rw [(insertLink_perm l links).mem_iff, List.mem_cons]

theorem insertLink_sorted {l : Link} {links : List Link} (fresh : ∀ m ∈ links, m.id ≠ l.id)
    (h : links.Pairwise (fun l m => l.id < m.id)) : (insertLink l links).Pairwise (fun l m => l.id < m.id) := by
  induction links with
  | nil => exact List.pairwise_singleton _ _
  | cons m links ih =>
    obtain ⟨hm, hrest⟩ := List.pairwise_cons.mp h
    unfold insertLink
    split
    next hlt =>
      refine List.pairwise_cons.mpr ⟨fun k hk => ?_, h⟩
      rcases List.mem_cons.mp hk with rfl | hk
      · exact hlt
      · exact hlt.trans (hm k hk)
    next hge =>
      refine List.pairwise_cons.mpr ⟨fun k hk => ?_, ih (fun k hk => fresh k (by simp [hk])) hrest⟩
      rcases mem_insertLink.mp hk with rfl | hk
      · exact lt_of_le_of_ne (not_lt.mp hge) (fresh m (by simp))
      · exact hm k hk

/-- R6: the number of records of lower sequence. -/
def seqRank (links : List Link) (l : Link) : Nat := (links.filter (fun m => decide (m.seq < l.seq))).length

theorem renumber_eq (links : List Link) : renumber links = links.map (fun l => { l with seq := seqRank links l }) := rfl

theorem seqRank_lt_length {links : List Link} {l : Link} (h : l ∈ links) : seqRank links l < links.length :=
  List.length_filter_lt_length_iff_exists.mpr ⟨l, h, by simp⟩

/-- R6: renumbering keeps the order of any two records. -/
theorem seqRank_lt_iff {links : List Link} {l m : Link} (h : l ∈ links) :
    seqRank links l < seqRank links m ↔ l.seq < m.seq := by
  constructor
  · intro hlt
    by_contra hge
    have sub := List.monotone_filter_right links (p := fun k : Link => decide (k.seq < m.seq))
      (q := fun k => decide (k.seq < l.seq)) (by intro k hk; simp only [decide_eq_true_eq] at hk ⊢; omega)
    exact absurd hlt (not_lt.mpr sub.length_le)
  · intro hlt
    have below : links.filter (fun k => decide (k.seq < l.seq))
        = (links.filter (fun k => decide (k.seq < m.seq))).filter (fun k => decide (k.seq < l.seq)) := by
      rw [List.filter_filter]
      exact List.filter_congr fun k _ => by by_cases hk : k.seq < l.seq <;> simp [hk]; omega
    unfold seqRank
    rw [below]
    exact List.length_filter_lt_length_iff_exists.mpr ⟨l, by simp [h, hlt], by simp⟩

theorem mem_cellsOf {c : HeldCell} {h : HighwaySet} {index id : Nat} :
    c ∈ cellsOf h index id ↔ c.highway ∈ h.highways ∧ c.index = index ∧ c.link = id := by
  obtain ⟨hw, i, l⟩ := c
  simp only [cellsOf, List.mem_map, HeldCell.mk.injEq]
  constructor
  · rintro ⟨a, ha, rfl, rfl, rfl⟩; exact ⟨ha, rfl, rfl⟩
  · rintro ⟨ha, rfl, rfl⟩; exact ⟨hw, ha, rfl, rfl, rfl⟩

theorem HighwaySet.highways_nodup (h : HighwaySet) : h.highways.Nodup := by cases h <;> decide

/-- R8: every cell of the set at the index is FREE. -/
theorem cellsFree_iff {cells : List HeldCell} {h : HighwaySet} {index : Nat} :
    cellsFree cells h index = true ↔ ∀ hw ∈ h.highways, ∀ c ∈ cells, ¬(c.highway = hw ∧ c.index = index) := by
  simp [cellsFree]

/-! ### What a CREATE LINK finds -/

theorem lowestFree_some {links : List Link} {fuel lo id : Nat} (h : lowestFree links fuel lo = some id) :
    lo ≤ id ∧ id < lo + fuel ∧ (∀ l ∈ links, l.id ≠ id) ∧ ∀ k, lo ≤ k → k < id → ∃ l ∈ links, l.id = k := by
  induction fuel generalizing lo with
  | zero => cases h
  | succ n ih =>
    unfold lowestFree at h
    split at h
    next taken =>
      obtain ⟨hlo, hhi, hfree, hlow⟩ := ih h
      refine ⟨by omega, by omega, hfree, fun k hk hlt => ?_⟩
      rcases Nat.eq_or_lt_of_le hk with rfl | hk
      · simpa using taken
      · exact hlow k hk hlt
    next free =>
      obtain rfl := Option.some.inj h
      exact ⟨le_rfl, by omega, by simpa using free, fun k hk hlt => by omega⟩

theorem lowestFree_none {links : List Link} {fuel lo : Nat} :
    lowestFree links fuel lo = none ↔ ∀ k, lo ≤ k → k < lo + fuel → ∃ l ∈ links, l.id = k := by
  induction fuel generalizing lo with
  | zero => simp only [lowestFree, true_iff]; omega
  | succ n ih =>
    unfold lowestFree
    split
    next taken =>
      rw [ih]
      constructor
      · intro h k hk hlt
        rcases Nat.eq_or_lt_of_le hk with rfl | hk
        · simpa using taken
        · exact h k hk (by omega)
      · exact fun h k hk hlt => h k (by omega) (by omega)
    next free =>
      refine ⟨fun h => (Option.some_ne_none _ h).elim, fun h => absurd ?_ free⟩
      simpa using h lo le_rfl (by omega)

theorem searchCells_some {cells : List HeldCell} {width fuel lo : Nat} {h : HighwaySet} {index : Nat}
    (hs : searchCells cells width fuel lo = some (h, index)) :
    lo ≤ index ∧ index < lo + fuel ∧ (candidates width).find? (fun h => cellsFree cells h index) = some h
      ∧ ∀ k, lo ≤ k → k < index → ∀ g ∈ candidates width, ¬cellsFree cells g k = true := by
  induction fuel generalizing lo with
  | zero => cases hs
  | succ n ih =>
    unfold searchCells at hs
    split at hs
    next g hg =>
      cases hs
      exact ⟨le_rfl, by omega, hg, fun k hk hlt => by omega⟩
    next hnone =>
      obtain ⟨hlo, hhi, hfind, hlow⟩ := ih hs
      refine ⟨by omega, by omega, hfind, fun k hk hlt => ?_⟩
      rcases Nat.eq_or_lt_of_le hk with rfl | hk
      · exact List.find?_eq_none.mp hnone
      · exact hlow k hk hlt

theorem searchCells_none {cells : List HeldCell} {width fuel lo : Nat} :
    searchCells cells width fuel lo = none ↔
      ∀ k, lo ≤ k → k < lo + fuel → ∀ g ∈ candidates width, ¬cellsFree cells g k = true := by
  induction fuel generalizing lo with
  | zero => simp only [searchCells, true_iff]; omega
  | succ n ih =>
    unfold searchCells
    split
    next g hg =>
      refine ⟨fun h => (Option.some_ne_none _ h).elim, fun h => absurd (List.find?_some hg) ?_⟩
      exact h lo le_rfl (by omega) g (List.mem_of_find?_eq_some hg)
    next hnone =>
      rw [ih]
      constructor
      · intro h k hk hlt
        rcases Nat.eq_or_lt_of_le hk with rfl | hk
        · exact List.find?_eq_none.mp hnone
        · exact h k hk (by omega)
      · exact fun h k hk hlt => h k (by omega) (by omega)

/-- R8, R9: the cells found are FREE, at an index of the map. -/
theorem Blocks.findCells_ok {b : Blocks} {r : LinkRequest} {place : HighwaySet × Nat}
    (inRange : ∀ p, r.place = some p → p.2 < Config.cellsPerHighway) (h : b.findCells r = .ok place) :
    place.2 < Config.cellsPerHighway ∧ cellsFree b.store.cells place.1 place.2 = true := by
  unfold Blocks.findCells at h
  split at h
  next hw index hp =>
    split at h
    next free => cases h; exact ⟨inRange _ hp, free⟩
    · cases h
  next =>
    split at h
    next p hs =>
      cases h
      obtain ⟨_, hi, hf, _⟩ := searchCells_some hs
      exact ⟨by omega, List.find?_some (p := fun h => cellsFree b.store.cells h place.2) hf⟩
    · cases h

/-- R13: what an accepted CREATE LINK has passed, and the record it builds. -/
theorem Blocks.checkLink_ok {b : Blocks} {r : LinkRequest} {l : Link} (h : b.checkLink r = .ok l) :
    ∃ ends id place, b.usableEnds r = some ends ∧ b.portInUse ends.1 = false ∧ b.portInUse ends.2 = false
      ∧ lowestFree b.store.links Config.linkCapacity 0 = some id ∧ b.findCells r = .ok place
      ∧ l = r.record id b.store.nextSequence.2 ends place := by
  unfold Blocks.checkLink at h
  split at h
  · cases h
  next ends hends =>
    split at h
    · cases h
    next used =>
      rw [not_or, Bool.not_eq_true, Bool.not_eq_true] at used
      split at h
      · cases h
      next id hid =>
        split at h
        · cases h
        next place hplace =>
          cases h
          exact ⟨ends, id, place, hends, used.1, used.2, hid, hplace, rfl⟩

/-! ### The law -/

namespace LinkStore.Law

variable {st : LinkStore}

theorem reset : LinkStore.reset.Law := by simp [LinkStore.Law, LinkStore.reset]

/-- R2: a change of every record that leaves its id, its sequence and its cells. -/
theorem mapLinks {f : Link → Link} (hid : ∀ l, (f l).id = l.id) (hseq : ∀ l, (f l).seq = l.seq)
    (hset : ∀ l, (f l).hset = l.hset) (hidx : ∀ l, (f l).index = l.index) (h : st.Law) :
    LinkStore.Law { st with links := st.links.map f } := by
  simpa [LinkStore.Law, List.pairwise_map, hid, hseq, hset, hidx] using h

theorem delete (id : Nat) (h : st.Law) : (st.delete id).Law := by
  obtain ⟨hids, hrange, hcells, hfree, hseqs, hle, hlt⟩ := h
  have kept : ∀ l ∈ (st.delete id).links, l ∈ st.links := fun l hl => List.mem_of_mem_filter hl
  refine ⟨hids.filter _, fun l hl => hrange l (kept l hl), fun c => ?_, hfree.filter _, hseqs.filter _,
    fun l hl => hle l (kept l hl), fun n hn => ⟨(hlt n hn).1, fun l hl => (hlt n hn).2 l (kept l hl)⟩⟩
  simp only [LinkStore.delete, List.mem_filter, hcells, mem_cellsOf, bne_iff_ne]
  constructor
  · rintro ⟨⟨l, hl, hw, hi, hc⟩, hne⟩; exact ⟨l, ⟨hl, hc ▸ hne⟩, hw, hi, hc⟩
  · rintro ⟨l, ⟨hl, hne⟩, hw, hi, hc⟩; exact ⟨⟨l, hl, hw, hi, hc⟩, hc ▸ hne⟩

theorem evolves {plans : SlotId → Option Plan} {st' : LinkStore} (h : st.Law) (he : LinkStore.Evolves plans st st') :
    st'.Law := by
  induction he with
  | refl => exact h
  | marks f keeps _ ih =>
    exact ih.mapLinks (fun l => (keeps l).1) (fun l => (keeps l).2.1) (fun l => (keeps l).2.2.1)
      (fun l => (keeps l).2.2.2.1)
  | delete id _ ih => exact ih.delete id
  | remap | restore =>
    next ih => exact ih.mapLinks (fun _ => rfl) (fun _ => rfl) (fun _ => rfl) (fun _ => rfl)

/-- R1: the table holds at most 1024 records. -/
theorem length_le (h : st.Law) : st.links.length ≤ Config.linkCapacity := by
  obtain ⟨hids, hrange, _⟩ := h
  have nodup : (st.links.map Link.id).Nodup := by
    rw [List.nodup_iff_pairwise_ne, List.pairwise_map]
    exact hids.imp fun h => h.ne
  have sub : st.links.map Link.id ⊆ List.range Config.linkCapacity := by
    intro id hid
    obtain ⟨l, hl, rfl⟩ := List.mem_map.mp hid
    exact List.mem_range.mpr (hrange l hl).1
  simpa using (nodup.subperm sub).length_le

/-- R6: renumbering keeps the law, with every sequence below the number of records. -/
theorem renumbered (h : st.Law) (spent : st.seq = none) : LinkStore.Law { st with links := renumber st.links } := by
  have len := h.length_le
  obtain ⟨hids, hrange, hcells, hfree, hseqs, _, _⟩ := h
  have below : ∀ l ∈ st.links, seqRank st.links l ≤ Config.lastSequence := fun l hl =>
    ((seqRank_lt_length hl).le.trans len).trans (by decide)
  have distinct : st.links.Pairwise (fun l m => seqRank st.links l ≠ seqRank st.links m) := by
    refine hseqs.imp_of_mem fun {l m} hl hm hne heq => hne ?_
    have hlm := seqRank_lt_iff (m := m) hl
    have hml := seqRank_lt_iff (m := l) hm
    omega
  refine ⟨?_, ?_, ?_, hfree, ?_, ?_, fun n hn => ?_⟩
  · simpa [renumber_eq, List.pairwise_map] using hids
  · simpa [renumber_eq] using hrange
  · simpa [renumber_eq] using hcells
  · simpa [renumber_eq, List.pairwise_map] using distinct
  · simpa [renumber_eq] using below
  · rw [spent] at hn; cases hn

/-- R5, R6: the store as it stands when a sequence is given: the law, and the sequence above every other one. -/
theorem nextSequence (h : st.Law) : st.nextSequence.1.Law ∧ (∀ l ∈ st.nextSequence.1.links, l.seq < st.nextSequence.2)
    ∧ st.nextSequence.2 ≤ Config.lastSequence := by
  have given := h.2.2.2.2.2.2
  unfold LinkStore.nextSequence
  cases hn : st.seq with
  | some n => exact ⟨h, (given n hn).2, (given n hn).1⟩
  | none =>
    have law := h.renumbered hn
    rw [hn] at law
    refine ⟨law, fun l hl => ?_, h.length_le.trans (by decide)⟩
    obtain ⟨m, hm, rfl⟩ := List.mem_map.mp hl
    exact seqRank_lt_length hm

/-- R15: a record joins with its cells and its sequence. -/
theorem add {l : Link} (h : st.Law) (hid : l.id < Config.linkCapacity) (hidx : l.index < Config.cellsPerHighway)
    (fresh : ∀ m ∈ st.links, m.id ≠ l.id) (free : cellsFree st.cells l.hset l.index = true)
    (above : ∀ m ∈ st.links, m.seq < l.seq) (hle : l.seq ≤ Config.lastSequence) : (st.add l).Law := by
  obtain ⟨hids, hrange, hcells, hfree, hseqs, hles, _⟩ := h
  rw [cellsFree_iff] at free
  refine ⟨insertLink_sorted fresh hids, fun m hm => ?_, fun c => ?_, ?_, ?_, fun m hm => ?_, fun n hn => ?_⟩
  · rcases mem_insertLink.mp hm with rfl | hm
    · exact ⟨hid, hidx⟩
    · exact hrange m hm
  · simp only [LinkStore.add, List.mem_append, mem_insertLink, hcells]
    constructor
    · rintro (⟨m, hm, hc⟩ | hc)
      · exact ⟨m, .inr hm, hc⟩
      · exact ⟨l, .inl rfl, hc⟩
    · rintro ⟨m, rfl | hm, hc⟩
      · exact .inr hc
      · exact .inl ⟨m, hm, hc⟩
  · refine List.pairwise_append.mpr ⟨hfree, ?_, fun c hc d hd => ?_⟩
    · exact List.pairwise_map.mpr (l.hset.highways_nodup.imp fun hne heq => hne heq.1)
    · obtain ⟨hd, hi, _⟩ := mem_cellsOf.mp hd
      rw [← hi] at free
      exact free _ hd c hc
  · refine ((insertLink_perm l st.links).pairwise_iff fun h => h.symm).mpr ?_
    exact List.pairwise_cons.mpr ⟨fun m hm => (above m hm).ne', hseqs⟩
  · rcases mem_insertLink.mp hm with rfl | hm
    · exact hle
    · exact hles m hm
  · simp only [LinkStore.add, sequenceAfter] at hn
    split at hn
    · cases hn
    next hlast =>
      cases hn
      refine ⟨by omega, fun m hm => ?_⟩
      rcases mem_insertLink.mp hm with rfl | hm
      · exact Nat.lt_succ_self _
      · exact (above m hm).trans (Nat.lt_succ_self _)

end LinkStore.Law

theorem Blocks.createLink_store (l : Link) (b : Blocks) :
    (Blocks.createLink l b).store = b.store.nextSequence.1.add l := by
  simp [Blocks.createLink]

theorem LinkStore.nextSequence_cells (st : LinkStore) : st.nextSequence.1.cells = st.cells := by
  unfold LinkStore.nextSequence
  split <;> rfl

/-- R6: renumbering leaves the ids. -/
theorem LinkStore.nextSequence_ids (st : LinkStore) : st.nextSequence.1.links.map Link.id = st.links.map Link.id := by
  unfold LinkStore.nextSequence
  split
  · rfl
  · simp [renumber_eq]

/-- R6: renumbering takes no free id. -/
theorem LinkStore.nextSequence_fresh {st : LinkStore} {id : Nat} (h : ∀ l ∈ st.links, l.id ≠ id) :
    ∀ m ∈ st.nextSequence.1.links, m.id ≠ id := by
  intro m hm
  have hm : m.id ∈ st.links.map Link.id := st.nextSequence_ids ▸ List.mem_map_of_mem hm
  obtain ⟨k, hk, hkm⟩ := List.mem_map.mp hm
  exact hkm ▸ h k hk

/-- R15: an accepted CREATE LINK keeps the link store law. -/
theorem LinkStore.Law.created {b : Blocks} {r : LinkRequest} {l : Link} (h : b.store.Law)
    (inRange : ∀ p, r.place = some p → p.2 < Config.cellsPerHighway) (hl : b.checkLink r = .ok l) :
    (Blocks.createLink l b).store.Law := by
  obtain ⟨ends, id, place, _, _, _, hid, hplace, rfl⟩ := Blocks.checkLink_ok hl
  obtain ⟨_, hlt, fresh, _⟩ := lowestFree_some hid
  obtain ⟨hidx, free⟩ := Blocks.findCells_ok inRange hplace
  obtain ⟨next, above, hle⟩ := h.nextSequence
  rw [Blocks.createLink_store]
  refine next.add (by simpa [LinkRequest.record] using hlt) hidx
    (LinkStore.nextSequence_fresh fresh) ?_ above hle
  rw [LinkStore.nextSequence_cells]
  exact free

/-- What a step does to the link table keeps the link store law. -/
theorem LinkStore.Law.linkStep {b c : Blocks} (h : b.store.Law) (hs : b.LinkStep c) : c.store.Law := by
  cases hs with
  | moved he => exact h.evolves he.2
  | reset he => exact LinkStore.Law.reset.evolves he.2
  | created r l inRange hl he => exact (h.created inRange hl).evolves he.2
  | planned i plan _ _ he => exact h.evolves (st := b.store) he.2

/-- Settles O53: the link table moves by the moves of `LinkStore.Evolves`, by an accepted CREATE LINK or by a reset, and each
keeps the law. -/
theorem everyStepKeepsTheLinkStoreLaw : Obligations.EveryStepKeepsTheLinkStoreLaw :=
  fun _ _ h hs => h.linkStep (step_linkStep hs)

end Sys2Proof.Machine
end

section
/-! CERTIFICATE. The endpoint law (R12, R14, R111): the moves of the link table keep it, and so do CREATE LINK, LOAD SLOT
and a reset. -/

namespace Sys2Proof.Machine

/-! ### Endpoints -/

@[simp] theorem Endpoint.names_iff {e : Endpoint} {s : SlotId} : e.names s = true ↔ e.slot = s ∨ e.home = some s := by
  simp [Endpoint.names]

/-- R12: two endpoints collide where they name one slot at one port. -/
theorem Endpoint.collides_iff {e f : Endpoint} :
    e.collides f = true ↔ e.port = f.port ∧ ∃ s, e.names s = true ∧ f.names s = true := by
  obtain ⟨slot, port, home⟩ := e
  cases home <;> simp [Endpoint.collides]

theorem Endpoint.collides_comm (e f : Endpoint) : e.collides f = f.collides e := by
  rw [Bool.eq_iff_iff, Endpoint.collides_iff, Endpoint.collides_iff]
  exact ⟨fun ⟨hp, s, he, hf⟩ => ⟨hp.symm, s, hf, he⟩, fun ⟨hp, s, he, hf⟩ => ⟨hp.symm, s, hf, he⟩⟩

theorem Endpoint.collides_false_symm {e f : Endpoint} (h : e.collides f = false) : f.collides e = false :=
  Endpoint.collides_comm e f ▸ h

/-- A change of two endpoints that gives neither a slot's name they do not share with the other brings no collision. -/
theorem Endpoint.collides_of_names {e f e' f' : Endpoint} (he : e'.port = e.port) (hf : f'.port = f.port)
    (names : ∀ s, e'.names s = true → f'.names s = true → ∃ s, e.names s = true ∧ f.names s = true)
    (h : e'.collides f' = true) : e.collides f = true := by
  obtain ⟨hp, s, hes, hfs⟩ := Endpoint.collides_iff.mp h
  exact Endpoint.collides_iff.mpr ⟨he ▸ hf ▸ hp, names s hes hfs⟩

@[simp] theorem Endpoint.remap_port (i spare : SlotId) (e : Endpoint) : (e.remap i spare).port = e.port := by
  unfold Endpoint.remap; split <;> rfl

@[simp] theorem Endpoint.restore_port (s : SlotId) (e : Endpoint) : (e.restore s).port = e.port := by
  unfold Endpoint.restore; split <;> rfl

/-- R11: an end that came to the spare names it and the slot it left, and any other what it named. -/
theorem Endpoint.remap_names {i spare s : SlotId} {e : Endpoint} (h : (e.remap i spare).names s = true) :
    e.names s = true ∨ s = spare ∧ e.slot = i := by
  unfold Endpoint.remap at h
  split at h
  next hi =>
    simp only [Endpoint.names_iff, Option.some.injEq] at h ⊢
    rcases h with rfl | rfl
    · exact .inr ⟨rfl, hi⟩
    · exact .inl (.inl hi)
  · exact .inl h

/-- R11: an end that came home names nothing new. -/
theorem Endpoint.restore_names {s x : SlotId} {e : Endpoint} (h : (e.restore s).names x = true) : e.names x = true := by
  unfold Endpoint.restore at h
  split at h
  next hs =>
    simp only [Endpoint.names_iff, reduceCtorEq, or_false] at h ⊢
    exact .inr (h ▸ hs)
  · exact h

theorem Endpoint.names_home (e : Endpoint) : e.names (e.home.getD e.slot) = true := by
  cases h : e.home <;> simp [h]

/-! ### The endpoints of the table -/

theorem LinkStore.mem_endpoints {st : LinkStore} {e : Endpoint} :
    e ∈ st.endpoints ↔ ∃ l ∈ st.links, e = l.epA ∨ e = l.epB := by
  simp [LinkStore.endpoints]

theorem LinkStore.endpoints_map {links : List Link} {cells : List HeldCell} {seq : Option Nat} (g : Endpoint → Endpoint)
    {f : Link → Link} (hA : ∀ l, (f l).epA = g l.epA) (hB : ∀ l, (f l).epB = g l.epB) :
    LinkStore.endpoints ⟨links.map f, cells, seq⟩ = (LinkStore.endpoints ⟨links, cells, seq⟩).map g := by
  simp [LinkStore.endpoints, List.flatMap_map, List.map_flatMap, hA, hB]

theorem LinkStore.nextSequence_endpoints (st : LinkStore) : st.nextSequence.1.endpoints = st.endpoints := by
  unfold LinkStore.nextSequence
  split
  · rfl
  · simp [LinkStore.endpoints, renumber_eq, List.flatMap_map]

theorem LinkStore.add_endpoints (st : LinkStore) (l : Link) :
    (st.add l).endpoints.Perm (l.epA :: l.epB :: st.endpoints) :=
  (insertLink_perm l st.links).flatMap_right _

/-! ### The law -/

/-- The endpoint law over a link table, under the plans of the slots. -/
def LinkStore.EndpointLaw (plans : SlotId → Option Plan) (st : LinkStore) : Prop :=
  st.endpoints.Pairwise (fun e f => e.collides f = false)
    ∧ ∀ e ∈ st.endpoints, ∀ p, plans (e.home.getD e.slot) = some p → p.role = .working

theorem Blocks.endpointLaw_iff (b : Blocks) : b.EndpointLaw ↔ b.store.EndpointLaw b.plans := Iff.rfl

namespace LinkStore.EndpointLaw

variable {plans : SlotId → Option Plan} {st : LinkStore}

theorem reset (plans : SlotId → Option Plan) : LinkStore.reset.EndpointLaw plans := by
  simp [LinkStore.EndpointLaw, LinkStore.reset, LinkStore.endpoints]

/-- A change of every endpoint that brings no collision, and leaves each on a slot planned WORKING. -/
theorem mapEnds (g : Endpoint → Endpoint) {f : Link → Link} (hA : ∀ l, (f l).epA = g l.epA) (hB : ∀ l, (f l).epB = g l.epB)
    (collides : ∀ e ∈ st.endpoints, ∀ d ∈ st.endpoints, (g e).collides (g d) = true → e.collides d = true)
    (working : ∀ e ∈ st.endpoints, ∀ p, plans ((g e).home.getD (g e).slot) = some p → p.role = .working)
    (h : st.EndpointLaw plans) : LinkStore.EndpointLaw plans { st with links := st.links.map f } := by
  unfold LinkStore.EndpointLaw
  rw [LinkStore.endpoints_map g hA hB]
  refine ⟨List.pairwise_map.mpr (h.1.imp_of_mem fun {e d} he hd hed => ?_), fun e he p hp => ?_⟩
  · by_contra hc
    exact absurd (collides e he d hd (by simpa using hc)) (by simp [hed])
  · obtain ⟨d, hd, rfl⟩ := List.mem_map.mp he
    exact working d hd p hp

theorem delete (id : Nat) (h : st.EndpointLaw plans) : (st.delete id).EndpointLaw plans := by
  refine ⟨h.1.sublist (List.filter_sublist.flatMap _), fun e he => h.2 e ?_⟩
  obtain ⟨l, hl, he⟩ := LinkStore.mem_endpoints.mp he
  exact LinkStore.mem_endpoints.mpr ⟨l, List.mem_of_mem_filter hl, he⟩

/-- R110, R111: ends move to a spare on which none stands. -/
theorem remap {i spare : SlotId} (working : ∀ p, plans i = some p → p.role = .working)
    (isSpare : ∃ p, plans spare = some p ∧ p.role = .spare) (free : ∀ l ∈ st.links, l.endsOn spare = false)
    (h : st.EndpointLaw plans) :
    LinkStore.EndpointLaw plans { st with links := st.links.map (fun l =>
      { l with epA := l.epA.remap i spare, epB := l.epB.remap i spare }) } := by
  have unnamed : ∀ e ∈ st.endpoints, ¬ e.names spare = true := by
    intro e he hn
    rcases Endpoint.names_iff.mp hn with hs | hs
    · obtain ⟨l, hl, rfl | rfl⟩ := LinkStore.mem_endpoints.mp he <;> simpa [Link.endsOn, hs] using free l hl
    · obtain ⟨p, hp, hr⟩ := isSpare
      have := h.2 e he p (by rw [hs]; exact hp)
      rw [hr] at this
      cases this
  refine h.mapEnds (Endpoint.remap i spare) (fun _ => rfl) (fun _ => rfl) (fun e he d hd => ?_) fun e he p hp => ?_
  · refine Endpoint.collides_of_names (by simp) (by simp) fun s hes hds => ?_
    rcases Endpoint.remap_names hes with hes | ⟨rfl, hei⟩ <;> rcases Endpoint.remap_names hds with hds | ⟨hs, hdi⟩
    · exact ⟨s, hes, hds⟩
    · exact absurd (hs ▸ hes) (unnamed e he)
    · exact absurd hds (unnamed d hd)
    · exact ⟨i, by simp [hei], by simp [hdi]⟩
  · unfold Endpoint.remap at hp
    split at hp
    · exact working p hp
    · exact h.2 e he p hp

/-- R111: ends come home. -/
theorem restore (s : SlotId) (h : st.EndpointLaw plans) :
    LinkStore.EndpointLaw plans { st with links := st.links.map (fun l =>
      { l with epA := l.epA.restore s, epB := l.epB.restore s }) } := by
  refine h.mapEnds (Endpoint.restore s) (fun _ => rfl) (fun _ => rfl) (fun e _ d _ => ?_) fun e he p hp => h.2 e he p ?_
  · exact Endpoint.collides_of_names (by simp) (by simp) fun x hex hdx =>
      ⟨x, Endpoint.restore_names hex, Endpoint.restore_names hdx⟩
  · unfold Endpoint.restore at hp
    split at hp
    next hs => simpa [hs] using hp
    · exact hp

theorem evolves {st' : LinkStore} (h : st.EndpointLaw plans) (he : LinkStore.Evolves plans st st') :
    st'.EndpointLaw plans := by
  induction he with
  | refl => exact h
  | marks f keeps _ ih =>
    exact ih.mapEnds id (fun l => (keeps l).2.2.2.2.1) (fun l => (keeps l).2.2.2.2.2) (fun _ _ _ _ hc => hc) ih.2
  | delete id _ ih => exact ih.delete id
  | remap i spare working isSpare free _ ih => exact ih.remap working isSpare free
  | restore s _ ih => exact ih.restore s

/-- R12, R15: a record joins whose ends collide neither with each other nor with one of the table. -/
theorem add {l : Link} (apart : l.epA.collides l.epB = false)
    (free : ∀ e ∈ st.endpoints, e.collides l.epA = false ∧ e.collides l.epB = false)
    (working : ∀ e, e = l.epA ∨ e = l.epB → ∀ p, plans (e.home.getD e.slot) = some p → p.role = .working)
    (h : st.EndpointLaw plans) : (st.add l).EndpointLaw plans := by
  have perm := st.add_endpoints l
  refine ⟨(perm.pairwise_iff Endpoint.collides_false_symm).mpr ?_, fun e he => ?_⟩
  · refine List.pairwise_cons.mpr ⟨fun e he => ?_, List.pairwise_cons.mpr ⟨fun e he => ?_, h.1⟩⟩
    · rcases List.mem_cons.mp he with rfl | he
      · exact apart
      · exact Endpoint.collides_false_symm (free e he).1
    · exact Endpoint.collides_false_symm (free e he).2
  · rcases List.mem_cons.mp (perm.mem_iff.mp he) with hA | he
    · exact working e (.inl hA)
    · rcases List.mem_cons.mp he with hB | he
      · exact working e (.inr hB)
      · exact h.2 e he

end LinkStore.EndpointLaw

/-! ### CREATE LINK and LOAD SLOT -/

/-- R109: the slot that holds another is the first whose covered slot it is. -/
theorem Blocks.holder_eq_some {b : Blocks} {s t : SlotId} :
    b.holder s = some t ↔ (b.slot t).coveredSlot = some s ∧ ∀ u, u < t → (b.slot u).coveredSlot ≠ some s := by
  unfold Blocks.holder
  rw [allSlots, List.find?_eq_some_iff_getElem]
  constructor
  · rintro ⟨ht, i, hi, rfl, hlow⟩
    refine ⟨by simpa using ht, fun u hu => ?_⟩
    have := hlow u.val (by simpa [Fin.lt_def] using hu)
    simpa using this
  · rintro ⟨ht, hlow⟩
    refine ⟨by simpa using ht, t.val, by simp, by simp, fun j hj => ?_⟩
    simpa using hlow ⟨j, by omega⟩ hj

/-- R14: an endpoint passes the check exactly as the rule says. -/
theorem Blocks.usableEndpoint_iff {b : Blocks} {slot : SlotId} {port : Fin 32} {e : Endpoint} :
    b.usableEndpoint slot port = some e ↔ EndpointPasses b slot port e := by
  unfold Blocks.usableEndpoint EndpointPasses
  dsimp only
  cases hp : (b.slot slot).plan with
  | none => simp
  | some p =>
    have role : p.role = .working ↔ ¬ p.role = .spare := by cases p.role <;> simp
    dsimp only
    split
    next refused =>
      refine ⟨fun h => (Option.some_ne_none _ h.symm).elim, ?_⟩
      rintro ⟨q, hq, hr, hport, hv, hl, hm, _⟩
      obtain rfl := Option.some.inj hq
      rcases refused with h | h | h | h | h
      · exact absurd h (role.mp hr)
      · omega
      · exact absurd h hv
      · exact absurd h hl
      · rw [hm] at h; cases h
    next passes =>
      push Not at passes
      obtain ⟨hr, hport, hv, hl, hm⟩ := passes
      by_cases hc : (b.slot slot).state = .covered
      · rw [if_pos hc, Option.map_eq_some_iff]
        constructor
        · rintro ⟨t, ht, rfl⟩
          obtain ⟨holds, first⟩ := Blocks.holder_eq_some.mp ht
          exact ⟨p, rfl, role.mpr hr, hport, hv, hl, by simpa using hm, absurd hc, fun _ => ⟨t, holds, first, rfl⟩⟩
        · rintro ⟨_, _, _, _, _, _, _, _, covered⟩
          obtain ⟨t, holds, first, rfl⟩ := covered hc
          exact ⟨t, Blocks.holder_eq_some.mpr ⟨holds, first⟩, rfl⟩
      · rw [if_neg hc]
        constructor
        · intro h
          exact ⟨p, rfl, role.mpr hr, hport, hv, hl, by simpa using hm, fun _ => (Option.some.inj h).symm, fun h => absurd h hc⟩
        · rintro ⟨_, _, _, _, _, _, _, own, _⟩
          rw [own hc]

theorem Blocks.usableEnds_iff {b : Blocks} {r : LinkRequest} {ea eb : Endpoint} :
    b.usableEnds r = some (ea, eb) ↔ EndpointPasses b r.slotA r.portA ea ∧ EndpointPasses b r.slotB r.portB eb
      ∧ ea.collides eb = false := by
  unfold Blocks.usableEnds
  rw [← Blocks.usableEndpoint_iff, ← Blocks.usableEndpoint_iff]
  split
  next a' b' ha hb =>
    rw [ha, hb]
    constructor
    · intro h
      split at h
      · cases h
      next hc => cases h; exact ⟨rfl, rfl, by simpa using hc⟩
    · rintro ⟨hA, hB, hc⟩
      cases hA; cases hB
      simp [hc]
  next hnone =>
    exact ⟨fun h => (Option.some_ne_none _ h.symm).elim, fun ⟨hA, hB, _⟩ => (hnone ea eb hA hB).elim⟩

theorem Blocks.portInUse_false {b : Blocks} {e : Endpoint} (h : b.portInUse e = false) :
    ∀ f ∈ b.store.endpoints, f.collides e = false := by
  intro f hf
  simp only [Blocks.portInUse, List.any_eq_false, Bool.or_eq_true, not_or, Bool.not_eq_true] at h
  obtain ⟨l, hl, rfl | rfl⟩ := LinkStore.mem_endpoints.mp hf
  · exact (h l hl).1
  · exact (h l hl).2

/-- R14: an endpoint that passes has its home slot, or its slot where it has none, planned WORKING. -/
theorem endpointPasses_working {b : Blocks} {slot : SlotId} {port : Fin 32} {e : Endpoint}
    (h : EndpointPasses b slot port e) (q : Plan) (hq : b.plans (e.home.getD e.slot) = some q) : q.role = .working := by
  obtain ⟨p, hp, hr, _, _, _, _, own, covered⟩ := h
  have home : e.home.getD e.slot = slot := by
    by_cases hc : (b.slot slot).state = .covered
    · obtain ⟨t, _, _, rfl⟩ := covered hc; rfl
    · rw [own hc]; rfl
  rw [home] at hq
  obtain rfl := Option.some.inj (hp.symm.trans hq)
  exact hr

/-- R15: an accepted CREATE LINK keeps the endpoint law. -/
theorem Blocks.EndpointLaw.created {b : Blocks} {r : LinkRequest} {l : Link} (h : b.EndpointLaw)
    (hl : b.checkLink r = .ok l) : (Blocks.createLink l b).EndpointLaw := by
  obtain ⟨⟨ea, eb⟩, id, place, hends, hA, hB, _, _, rfl⟩ := Blocks.checkLink_ok hl
  obtain ⟨passA, passB, apart⟩ := Blocks.usableEnds_iff.mp hends
  have plans : (Blocks.createLink (r.record id b.store.nextSequence.2 (ea, eb) place) b).plans = b.plans := by
    funext i
    simp [Blocks.plans, Blocks.slot, Blocks.createLink]
  rw [Blocks.endpointLaw_iff, plans, Blocks.createLink_store]
  refine LinkStore.EndpointLaw.add apart (fun e he => ?_) ?_ ?_
  · rw [LinkStore.nextSequence_endpoints] at he
    exact ⟨Blocks.portInUse_false hA e he, Blocks.portInUse_false hB e he⟩
  · rintro e (rfl | rfl)
    · exact endpointPasses_working passA
    · exact endpointPasses_working passB
  · unfold LinkStore.EndpointLaw
    rw [LinkStore.nextSequence_endpoints]
    exact h

/-- R76: an accepted LOAD SLOT keeps the endpoint law. -/
theorem Blocks.EndpointLaw.planned {b : Blocks} {i : SlotId} {plan : Option Plan} (h : b.EndpointLaw)
    (free : b.replannable i = true) (keeps : b.planStrands i plan = false) :
    (b.modSlot i (fun r => { r with plan })).EndpointLaw := by
  refine ⟨h.1, fun e he p hp => ?_⟩
  by_cases hi : e.home.getD e.slot = i
  · have named : e.names i = true := hi ▸ e.names_home
    obtain ⟨l, hl, hle⟩ := LinkStore.mem_endpoints.mp he
    rw [hi, Blocks.slot_modSlot_same] at hp
    dsimp only at hp
    by_cases cold : b.ep.shelf = .cold
    · simp only [Blocks.planStrands, cold, hp, beq_self_eq_true, Bool.true_and, List.any_eq_false, Bool.or_eq_true,
        not_or, Bool.not_eq_true, Option.all_some, Bool.and_eq_false_iff] at keeps
      have stands : e.names i = false ∨ (p.role == .spare || decide (p.portCount ≤ e.port.val)) = false := by
        rcases hle with rfl | rfl
        · exact (keeps l hl).1
        · exact (keeps l hl).2
      cases hr : p.role
      · rfl
      · simp [named, hr] at stands
    · have unreferenced : l.references i = false := by
        simp only [Blocks.replannable, Bool.or_eq_true, beq_iff_eq, cold, false_or, Bool.and_eq_true, Bool.not_eq_true',
          List.any_eq_false, Bool.not_eq_true] at free
        exact free.2 l hl
      rcases hle with rfl | rfl <;> simp [Link.references, named] at unreferenced
  · rw [Blocks.slot_modSlot_other _ _ _ _ hi] at hp
    exact h.2 e he p hp

/-- What a step does to the link table and to the plans keeps the endpoint law. -/
theorem Blocks.EndpointLaw.linkStep {b c : Blocks} (h : b.EndpointLaw) (hs : b.LinkStep c) : c.EndpointLaw := by
  have evolved : ∀ {b : Blocks}, b.EndpointLaw → b.Evolves c → c.EndpointLaw := by
    intro b h he
    rw [Blocks.endpointLaw_iff, he.1]
    exact LinkStore.EndpointLaw.evolves h he.2
  cases hs with
  | moved he => exact evolved h he
  | reset he => exact evolved ((Blocks.endpointLaw_iff _).mpr (LinkStore.EndpointLaw.reset _)) he
  | created r l _ hl he => exact evolved (h.created hl) he
  | planned i plan free keeps he => exact evolved (h.planned free keeps) he

/-- Settles O55: the link table moves by the moves of `LinkStore.Evolves`, by an accepted CREATE LINK, or under an accepted
LOAD SLOT or a reset, and each keeps the law. -/
theorem everyStepKeepsTheEndpointLaw : Obligations.EveryStepKeepsTheEndpointLaw :=
  fun _ _ h hs => h.linkStep (step_linkStep hs)

end Sys2Proof.Machine
end

section
/-! CERTIFICATE. The cells a CREATE LINK finds (R7 to R9). -/

namespace Sys2Proof.Machine

/-- What stands before the first member that passes does not pass. -/
theorem not_of_mem_takeWhile_of_find? {α : Type} [DecidableEq α] {p : α → Bool} {l : List α} {x y : α}
    (h : l.find? p = some x) (hy : y ∈ l.takeWhile (fun z => z != x)) : ¬p y = true := by
  induction l with
  | nil => cases h
  | cons z l ih =>
    by_cases hz : p z = true
    · rw [List.find?_cons_of_pos hz] at h
      obtain rfl := Option.some.inj h
      simp at hy
    · rw [List.find?_cons_of_neg hz] at h
      have hzx : (z != x) = true := by
        rw [bne_iff_ne]
        rintro rfl
        exact hz (List.find?_some h)
      rw [List.takeWhile_cons_of_pos (p := fun z => z != x) hzx] at hy
      rcases List.mem_cons.mp hy with rfl | hy
      · exact hz
      · exact ih h hy

/-- Settles O20, by what the search of R9 answers at each index. -/
theorem cellsFoundAreFree : Obligations.CellsFoundAreFree := by
  intro b r free
  have free_iff : ∀ h index, free h index ↔ cellsFree b.store.cells h index = true := fun h index => cellsFree_iff.symm
  refine ⟨fun place hp => ?_, fun hp => ⟨fun h index hok => ?_, ?_⟩⟩
  · simp only [free_iff, Blocks.findCells, hp]
    exact ⟨fun hf => if_pos hf, fun hf => if_neg hf⟩
  · have hs : searchCells b.store.cells r.width Config.cellsPerHighway 0 = some (h, index) := by
      simp only [Blocks.findCells, hp] at hok
      split at hok
      next hs => cases hok; exact hs
      · cases hok
    obtain ⟨_, hlt, hfind, hlow⟩ := searchCells_some hs
    simp only [free_iff]
    refine ⟨List.mem_of_find?_eq_some hfind, by simpa [Config.cellsPerHighway] using hlt,
      List.find?_some (p := fun h => cellsFree b.store.cells h index) hfind, fun k hk => hlow k (Nat.zero_le k) hk,
      fun g hg => not_of_mem_takeWhile_of_find? (p := fun h => cellsFree b.store.cells h index) hfind hg⟩
  · have hs := searchCells_none (cells := b.store.cells) (width := r.width) (fuel := 512) (lo := 0)
    have none_iff : b.findCells r = .error .noCells ↔ searchCells b.store.cells r.width 512 0 = none := by
      simp only [Blocks.findCells, hp, Config.cellsPerHighway]
      split <;> simp_all
    simp only [none_iff, hs, free_iff, Nat.zero_le, true_implies, Nat.zero_add]

end Sys2Proof.Machine
end

section
/-! SUPPORT. A request that comes into hand at once (R165, R166): what its command does, from what its owner answers. -/

namespace Sys2Proof.Machine

/-- R165, R166: in a ready state a request comes into hand, is judged, answered and told. -/
theorem exec_ready {s : State} {c : Instr} {f : Frame} (ready : s.Ready) (hf : requestFrame c = some f) :
    exec c s = .next (State.answered (judgeRequest f (s.holding f))).deliver := by
  obtain ⟨awake, _, empty⟩ := ready
  have hand : s.receive f = (s.holding f).takeInHand := by
    simp [State.receive, State.holding, empty, Config.bufferPlaces]
  rw [exec_request hf, State.running, awake]
  simp [hand, State.takeInHand]

/-- R166: the reply to the frame in hand. -/
theorem State.answered_some {s : State} {f : Frame} (hand : s.port.buffer = [f]) (st : Status) (fields : List Byte) :
    State.answered (s, some (st, fields)) = s.replied f st fields := by
  simp [State.answered, State.replied, SupervisionPort.answer, hand]

/-- Blocks with nothing to tell leave the state as it is. -/
theorem State.deliver_quiet {s : State} (quiet : s.Quiet) : s.deliver = s := by
  obtain ⟨raised, pass⟩ := quiet
  have told : s.blk.told = s.blk := by rw [Blocks.told, ← raised, ← pass]
  simp [State.deliver, told, raised, pass, SupervisionPort.hear]

/-- R167: a request whose owner answers at once and moves no block. -/
theorem exec_answers {s : State} {c : Instr} {f : Frame} {st : Status} {fields : List Byte} (ready : s.Ready)
    (hf : requestFrame c = some f) (h : judgeRequest f (s.holding f) = (s.holding f, some (st, fields))) :
    exec c s = s.answers f st fields := by
  have quiet : ((s.holding f).replied f st fields).Quiet := ready.2.1
  rw [exec_ready ready hf, h, State.answered_some rfl, State.deliver_quiet quiet]
  rfl

/-- A request whose owner moves the blocks. -/
theorem exec_carriedOut {s : State} {c : Instr} {f : Frame} {effect : Blocks → Blocks} {st : Status} {fields : List Byte}
    (ready : s.Ready) (hf : requestFrame c = some f)
    (h : judgeRequest f (s.holding f) = ((s.holding f).settled effect, some (st, fields))) :
    exec c s = .next (s.carriedOut f effect st fields) := by
  rw [exec_ready ready hf, h, State.answered_some (by rw [State.settled_port]; rfl)]
  rfl

/-- The settled state rests on what the effect gives for these blocks alone. -/
theorem State.settled_congr {s : State} {f g : Blocks → Blocks} (h : f s.blk = g s.blk) : s.settled f = s.settled g := by
  simp only [State.settled, h]

/-- The whole taking of a request rests on what its effect gives for these blocks alone. -/
theorem State.carriedOut_congr {s : State} {f : Frame} {e g : Blocks → Blocks} (st : Status) (fields : List Byte)
    (h : e s.blk = g s.blk) : s.carriedOut f e st fields = s.carriedOut f g st fields := by
  unfold State.carriedOut
  rw [State.settled_congr (s := s.holding f) h]

/-! ### Bytes and codes -/

theorem ofU16_eq (hi lo : Byte) : ofU16 hi lo = 256 * hi.toNat + lo.toNat := by simp [ofU16, Nat.mul_comm]

@[simp] theorem byte_toNat (v : Byte) : byte v.toNat = v := by simp [byte]

/-- R174: two bytes that spell a number are its two bytes. -/
@[simp] theorem u16_ofBytes (hi lo : Byte) : u16 (256 * hi.toNat + lo.toNat) = [hi, lo] := by
  have h : (256 * hi.toNat + lo.toNat) / 256 = hi.toNat := by omega
  have l : byte (256 * hi.toNat + lo.toNat) = lo := by
    apply BitVec.eq_of_toNat_eq
    simp only [byte, BitVec.toNat_ofNat]
    omega
  rw [u16, h, l, byte_toNat]

/-- R17, R18, R37: a link id of two bytes. -/
theorem readLinkId_pair (hi lo : Byte) : readLinkId [hi, lo] =
    if 256 * hi.toNat + lo.toNat < 1024 then some (256 * hi.toNat + lo.toNat) else none := by
  simp only [readLinkId, ofU16_eq, Config.linkCapacity]

theorem readSlot_eq_some {v : Byte} {i : SlotId} : readSlot v = some i ↔ v.toNat = i.val := by
  unfold readSlot
  split <;> simp [Fin.ext_iff]
  omega

theorem readPort_eq_some {v : Byte} {p : Fin 32} : readPort v = some p ↔ v.toNat = p.val := by
  unfold readPort
  split <;> simp [Fin.ext_iff]
  omega

theorem readWidth_eq_some {v : Byte} {w : Nat} : readWidth v = some w ↔ w = v.toNat ∧ w ∈ [1, 2, 4] := by
  unfold readWidth
  split
  next h => simp only [Option.some.injEq, List.mem_cons, List.not_mem_nil, or_false]; omega
  next h => simp only [reduceCtorEq, List.mem_cons, List.not_mem_nil, or_false, false_iff]; omega

theorem LinkClass.ofCode_eq_some {n : Nat} {v : LinkClass} :
    LinkClass.ofCode n = some v ↔ (n, v) ∈ [(0, LinkClass.urgent), (1, .control), (2, .trunk), (3, .line)] := by
  unfold LinkClass.ofCode
  split <;> cases v <;> simp_all

theorem LinkState.ofCode_eq_some {n : Nat} {v : LinkState} :
    LinkState.ofCode n = some v ↔ (n, v) ∈ [(0, LinkState.pending), (1, .suspect), (2, .verifying), (3, .preparing),
      (4, .ready), (5, .activating), (6, .carried), (7, .deferred), (8, .releasing)] := by
  unfold LinkState.ofCode
  split <;> cases v <;> simp_all

theorem HighwaySet.ofCode_eq_some {n : Nat} {v : HighwaySet} :
    HighwaySet.ofCode n = some v ↔ (n, v) ∈ [(0, HighwaySet.h0), (1, .h1), (2, .h2), (3, .h3), (4, .h01), (5, .h23),
      (6, .h0123)] := by
  unfold HighwaySet.ofCode
  split <;> cases v <;> simp_all

/-- R176: a field read where its presence bit is set. -/
theorem whenPresent_eq_some {α : Type} {present : Bool} {value field : Option α} :
    whenPresent present value = some field ↔ FieldSpelled present field (fun v => value = some v) := by
  cases present
  · simp [whenPresent, FieldSpelled, eq_comm]
  · simp only [whenPresent, FieldSpelled, if_true, Option.map_eq_some_iff, reduceCtorEq, false_implies, true_and,
      true_implies]
    exact ⟨fun ⟨v, hv, hf⟩ => ⟨v, hf.symm, hv⟩, fun ⟨v, hf, hv⟩ => ⟨v, hv, hf.symm⟩⟩

end Sys2Proof.Machine
end

section
/-! CERTIFICATE. GET LINK, FIND LINKS and GET PORT (R18, R19, R107). -/

namespace Sys2Proof.Machine

/-- R19: a highway set and a width that are both present agree. -/
theorem Pattern.agrees_iff {p : Pattern} :
    p.agrees = true ↔ ∀ h w, p.hset = some h → p.width = some w → h.highways.length = w := by
  obtain ⟨cls, slot, state, width, hset⟩ := p
  cases hset <;> cases width <;> simp [Pattern.agrees, HighwaySet.width]

/-- R19: what a FIND LINKS is read as, field by field. -/
theorem readPattern_eq_some {presence cls slot state width hset s1 s0 : Byte} {p : Pattern} {start : Nat} :
    readPattern [presence, cls, slot, state, width, hset, s1, s0] = some (p, start) ↔
      (presence.toNat < 32 ∧ ofU16 s1 s0 < 1024)
        ∧ whenPresent (presence.getLsbD 0) (LinkClass.ofCode cls.toNat) = some p.cls
        ∧ whenPresent (presence.getLsbD 1) (readSlot slot) = some p.slot
        ∧ whenPresent (presence.getLsbD 2) (LinkState.ofCode state.toNat) = some p.state
        ∧ whenPresent (presence.getLsbD 3) (readWidth width) = some p.width
        ∧ whenPresent (presence.getLsbD 4) (HighwaySet.ofCode hset.toNat) = some p.hset
        ∧ p.agrees = true ∧ start = ofU16 s1 s0 := by
  unfold readPattern
  dsimp only
  constructor
  · intro h
    split at h
    next hr =>
      split at h
      next hc hs ht hw hh =>
        split at h
        next ha => cases h; exact ⟨hr, hc, hs, ht, hw, hh, ha, rfl⟩
        · cases h
      · cases h
    · cases h
  · rintro ⟨hr, hc, hs, ht, hw, hh, ha, rfl⟩
    rw [if_pos hr, hc, hs, ht, hw, hh]
    exact if_pos ha

/-- R19, 11.4: a FIND LINKS is read exactly as it is spelled. -/
theorem readPattern_iff {body : List Byte} (len : body.length = 8) {p : Pattern} {start : Nat} :
    readPattern body = some (p, start) ↔ PatternSpelled body p start := by
  match body, len with
  | [presence, cls, slot, state, width, hset, s1, s0], _ =>
    rw [readPattern_eq_some, Pattern.agrees_iff]
    simp only [whenPresent_eq_some, LinkClass.ofCode_eq_some, LinkState.ofCode_eq_some, HighwaySet.ofCode_eq_some,
      readWidth_eq_some, readSlot_eq_some, PatternSpelled, numberAt, wordAt, List.getD_cons_zero, List.getD_cons_succ,
      ofU16_eq, eq_comm (a := slot.toNat)]
    constructor
    · rintro ⟨⟨h, hr⟩, hc, hs, ht, hw, hh, ha, rfl⟩
      exact ⟨h, hc, hs, ht, hw, hh, ha, rfl, hr⟩
    · rintro ⟨h, hc, hs, ht, hw, hh, ha, rfl, hr⟩
      exact ⟨⟨h, hr⟩, hc, hs, ht, hw, hh, ha, rfl⟩

/-- R107: a slot and a port are read where each is in its range. -/
theorem readPlace_eq_some {slot port : Byte} {i : SlotId} {p : Fin 32} :
    readPlace slot port = some (i, p) ↔ slot.toNat = i.val ∧ port.toNat = p.val := by
  rw [← readSlot_eq_some, ← readPort_eq_some]
  unfold readPlace
  cases readSlot slot <;> cases readPort port <;> simp

theorem readPlace_eq_none {slot port : Byte} (h : 16 ≤ slot.toNat ∨ 32 ≤ port.toNat) : readPlace slot port = none := by
  rw [Option.eq_none_iff_forall_ne_some]
  rintro ⟨i, p⟩ hp
  obtain ⟨hi, hq⟩ := readPlace_eq_some.mp hp
  omega

/-- R18, 11.4: where each field stands in a GET LINK reply. -/
theorem Link.fields_laidOut (l : Link) : LaidOut l.fields 26
    [(0, u16 l.id), (2, [byte l.cls.code]), (3, u24 l.seq), (6, [byte l.epA.slot.val, byte l.epA.port.val]),
     (8, [byte l.epB.slot.val, byte l.epB.port.val]),
     (10, [byte (bitsOf [l.epA.home.isSome, l.epB.home.isSome, l.deferral.isSome, l.deferral.isSome])]),
     (11, [byte ((l.epA.home.map Fin.val).getD 0)]), (12, [byte ((l.epB.home.map Fin.val).getD 0)]),
     (13, [byte l.hset.width]), (14, [byte l.hset.code]), (15, u16 l.index), (17, [byte l.state.code]),
     (18, [byte ((l.deferral.map (fun d => d.reason.code)).getD 0)]), (19, u32 ((l.deferral.map Deferral.since).getD 0)),
     (23, [if l.late then 1 else 0]), (24, [if l.removal then 1 else 0]), (25, [byte (bitsOf [l.attA, l.attB])])] := by
  simp [LaidOut, Link.fields, u16, u24, u32, yesNo]

theorem judgeRequest_getLink (tag hi lo : Byte) (s : State) :
    judgeRequest { kind := 0x0F, tag, body := [hi, lo] } s = ownGetLink [hi, lo] s := rfl

theorem judgeRequest_getPort (tag slot port : Byte) (s : State) :
    judgeRequest { kind := 0x12, tag, body := [slot, port] } s = ownGetPort [slot, port] s := rfl

theorem judgeRequest_findLinks {body : List Byte} (len : body.length = 8) (tag : Byte) (s : State) :
    judgeRequest { kind := 0x10, tag, body } s = ownFindLinks body s :=
  if_pos (c := body.length ∈ [8]) (by simp [len])

/-- R19: a record is found as the pattern says, a slot by either endpoint or its home. -/
theorem Pattern.matches_eq (p : Pattern) (l : Link) : p.matches l =
    (p.cls.all (fun v => v == l.cls)
      && p.slot.all (fun i => l.epA.slot == i || l.epA.home == some i || l.epB.slot == i || l.epB.home == some i)
      && p.state.all (fun v => v == l.state) && p.width.all (fun v => v == l.hset.highways.length)
      && p.hset.all (fun v => v == l.hset)) := by
  have on : l.references = fun i => l.epA.slot == i || l.epA.home == some i || l.epB.slot == i || l.epB.home == some i := by
    funext i
    simp [Link.references, Endpoint.names, Bool.or_assoc]
  rw [Pattern.matches, on]
  rfl

/-- Settles O18, from what each owner answers. -/
theorem linksAndPortsAreRead : Obligations.LinksAndPortsAreRead := by
  refine ⟨Link.fields_laidOut, fun s tag ready => ⟨fun hi lo => ?_, fun body len => ?_, fun slot port => ?_⟩⟩
  · refine exec_answers ready rfl ?_
    rw [judgeRequest_getLink, ownGetLink, readLinkId_pair]
    by_cases hid : 256 * hi.toNat + lo.toNat < 1024
    · simp only [if_pos hid, if_neg (Nat.not_le.mpr hid), State.holding_blk]
      cases s.blk.link (256 * hi.toNat + lo.toNat) <;> rfl
    · simp only [if_neg hid, if_pos (Nat.not_lt.mp hid)]
      rfl
  · refine ⟨fun unspelled => exec_answers ready rfl ?_, fun p start spelled => exec_answers ready rfl ?_⟩
    · have unread : readPattern body = none := by
        rw [Option.eq_none_iff_forall_ne_some]
        rintro ⟨p, start⟩ h
        exact unspelled p start ((readPattern_iff len).mp h)
      rw [judgeRequest_findLinks len, ownFindLinks, unread]
      rfl
    · rw [judgeRequest_findLinks len, ownFindLinks, (readPattern_iff len).mpr spelled]
      simp only [LinkStore.search, funext p.matches_eq, List.length_map, State.accept, State.holding_blk,
        Status.accepted, Bool.false_eq_true, if_false]
  · refine ⟨fun outside => exec_answers ready rfl ?_, fun i p hi hp => exec_answers ready rfl ?_⟩
    · rw [judgeRequest_getPort, ownGetPort]
      simp only [readPlace_eq_none outside]
      rfl
    · rw [judgeRequest_getPort, ownGetPort]
      simp only [readPlace_eq_some.mpr ⟨hi, hp⟩]
      simp only [State.accept, Status.accepted, Blocks.portFields, Blocks.inWriteSet, ← hi, ← hp, byte_toNat,
        State.holding_blk, Bool.false_eq_true, if_false]

end Sys2Proof.Machine
end

section
/-! CERTIFICATE. REMOVE LINK and RETRY LINK (R17, R28, R29, R37, R41). -/

namespace Sys2Proof.Machine

/-! ### A record read after a change -/

theorem Blocks.link_id {b : Blocks} {k : Nat} {l : Link} (h : b.link k = some l) : l.id = k := by
  simpa using List.find?_some h

theorem Blocks.link_mapLinks {b : Blocks} {f : Link → Link} (hf : ∀ l, (f l).id = l.id) (k : Nat) :
    (b.mapLinks f).link k = (b.link k).map f := by
  simp only [Blocks.link, LinkStore.find, Blocks.mapLinks, List.find?_map, Function.comp_def, hf]

theorem Blocks.link_modLink_same {b : Blocks} {id : Nat} {l : Link} {f : Link → Link} (hf : ∀ l, (f l).id = l.id)
    (h : b.link id = some l) : (b.modLink id f).link id = some (f l) := by
  rw [Blocks.modLink, Blocks.link_mapLinks (by intro l; split <;> simp [hf]), h, Option.map_some,
    if_pos (Blocks.link_id h)]

theorem Blocks.link_modLink_other {b : Blocks} {id k : Nat} {f : Link → Link} (hf : ∀ l, (f l).id = l.id) (hk : k ≠ id) :
    (b.modLink id f).link k = b.link k := by
  rw [Blocks.modLink, Blocks.link_mapLinks (by intro l; split <;> simp [hf])]
  cases h : b.link k with
  | none => rfl
  | some l => rw [Option.map_some, if_neg (Blocks.link_id h ▸ hk)]

/-- What keeps the link store keeps each record. -/
theorem Blocks.link_congr {b c : Blocks} (h : c.store = b.store) (k : Nat) : c.link k = b.link k := by
  simp only [Blocks.link, h]

/-- R41, R42, R46: a released link is RELEASING, its deferral absent. -/
theorem Blocks.link_release_same {b : Blocks} {id : Nat} {l : Link} (h : b.link id = some l) :
    (b.release id).link id = some { l with state := .releasing, deferral := none } :=
  Blocks.link_modLink_same (b := ((b.leaveInFlight id).leaveQueue id).leaveDeferred id)
    (f := fun l => { l with state := .releasing, deferral := none }) (fun _ => rfl) h

theorem Blocks.link_release_other {b : Blocks} {id k : Nat} (hk : k ≠ id) : (b.release id).link k = b.link k :=
  Blocks.link_modLink_other (b := ((b.leaveInFlight id).leaveQueue id).leaveDeferred id)
    (f := fun l => { l with state := .releasing, deferral := none }) (fun _ => rfl) hk

/-- R29: a placed order of the link made stale, every other as it was. -/
theorem BusOrder.stale_eq (o : BusOrder) (id : Nat) :
    (if o.forLink id then o.modTag (fun e => { e with current := false }) else o) = match o.purpose with
      | .engine e => if e.link = id then { o with purpose := .engine { e with current := false } } else o
      | _ => o := by
  unfold BusOrder.forLink BusOrder.etag BusOrder.modTag
  cases o.purpose <;> simp

/-- R28, R29, R41: what a release moves, and nothing else. -/
theorem Blocks.release_eq (b : Blocks) (id : Nat) : b.release id = { b with
    store := { b.store with links := (b.release id).store.links }
    engine := { b.engine with
      queue := b.engine.queue.filter (fun k => k != id), deferred := b.engine.deferred.filter (fun k => k != id)
      inFlight := b.engine.inFlight.filter (fun f => f.link != id)
      backlog := b.engine.backlog.filter (fun o => !o.forLink id) }
    bus := { b.bus with relinkQueue := b.bus.relinkQueue.map (fun o => match o.purpose with
      | .engine e => if e.link = id then { o with purpose := .engine { e with current := false } } else o
      | _ => o) } } := by
  simp only [← BusOrder.stale_eq]
  rfl

/-- R41: what REMOVE LINK does to a link that is not RELEASING. -/
theorem Blocks.removeLink_eq {b : Blocks} {id : Nat} {l : Link} (h : b.link id = some l) (hs : l.state ≠ .releasing) :
    b.removeLink id = if l.state.flying then (b.withdraw id).modLink id (fun l => { l with removal := true })
      else b.release id := by
  unfold Blocks.removeLink
  rw [h]
  cases hl : l.state <;> simp_all [LinkState.flying]

/-! ### The requests -/

theorem judgeRequest_removeLink (tag hi lo : Byte) (s : State) :
    judgeRequest { kind := 0x0D, tag, body := [hi, lo] } s = ownRemoveLink [hi, lo] s := rfl

theorem judgeRequest_retryLink (tag hi lo : Byte) (s : State) :
    judgeRequest { kind := 0x0E, tag, body := [hi, lo] } s = ownRetryLink [hi, lo] s := rfl

/-- R17, R37: an id outside 0..1023 is refused. -/
theorem readLinkId_none {hi lo : Byte} (h : 1024 ≤ 256 * hi.toNat + lo.toNat) : readLinkId [hi, lo] = none := by
  rw [readLinkId_pair, if_neg (Nat.not_lt.mpr h)]

theorem readLinkId_some {hi lo : Byte} (h : 256 * hi.toNat + lo.toNat < 1024) :
    readLinkId [hi, lo] = some (256 * hi.toNat + lo.toNat) := by
  rw [readLinkId_pair, if_pos h]

/-- Settles O21, from what each owner answers and from what a release moves. -/
theorem removeReleasesAndRetryFreesTheLink : Obligations.RemoveReleasesAndRetryFreesTheLink := by
  refine ⟨fun s tag hi lo ready => ⟨fun outside => ?_, fun inside absent => ?_, fun l inside found => ⟨fun refused => ?_,
      fun hs hr => ?_⟩⟩,
    fun b id l found => ⟨rfl, Blocks.release_eq b id, Blocks.link_release_same found,
      fun k hk => Blocks.link_release_other hk⟩,
    fun s tag hi lo ready => ⟨fun outside => ?_, fun inside absent => ?_, fun l inside found => ⟨fun hs => ?_,
      fun d hs hd => ⟨fun hold => ?_, fun refused => ?_⟩⟩⟩⟩
  · refine exec_answers ready rfl ?_
    rw [judgeRequest_removeLink, ownRemoveLink, readLinkId_none outside]
    rfl
  · refine exec_answers ready rfl ?_
    simp only [judgeRequest_removeLink, ownRemoveLink, readLinkId_some inside, State.holding_blk, absent]
    rfl
  · refine exec_answers ready rfl ?_
    simp only [judgeRequest_removeLink, ownRemoveLink, readLinkId_some inside, State.holding_blk, found, if_pos refused]
    rfl
  · rw [← State.carriedOut_congr (e := fun b => b.removeLink (256 * hi.toNat + lo.toNat)) _ _ (Blocks.removeLink_eq found hs)]
    refine exec_carriedOut ready rfl ?_
    simp only [judgeRequest_removeLink, ownRemoveLink, readLinkId_some inside, State.holding_blk, found, hs, hr, false_or,
      Bool.false_eq_true, if_false, u16_ofBytes]
    rfl
  · refine exec_answers ready rfl ?_
    rw [judgeRequest_retryLink, ownRetryLink, readLinkId_none outside]
    rfl
  · refine exec_answers ready rfl ?_
    simp only [judgeRequest_retryLink, ownRetryLink, readLinkId_some inside, State.holding_blk, absent]
    rfl
  · refine exec_answers ready rfl ?_
    simp only [judgeRequest_retryLink, ownRetryLink, readLinkId_some inside, State.holding_blk, found]
    cases l.deferral with
    | none => rfl
    | some d => exact if_pos hs
  · refine exec_answers ready rfl ?_
    simp only [judgeRequest_retryLink, ownRetryLink, readLinkId_some inside, State.holding_blk, found, hd, hs, hold,
      ne_eq, not_true_eq_false, if_false, if_true, u16_ofBytes]
    rfl
  · refine exec_carriedOut ready rfl ?_
    simp only [judgeRequest_retryLink, ownRetryLink, readLinkId_some inside, State.holding_blk, found, hd, hs, refused,
      ne_eq, not_true_eq_false, if_false, reduceCtorEq, u16_ofBytes]
    rfl

end Sys2Proof.Machine
end

section
/-! CERTIFICATE. CREATE LINK (R6, R11 to R15). -/

namespace Sys2Proof.Machine

/-! ### What a CREATE LINK spells (R13 step 1) -/

/-- R13: what a CREATE LINK is read as, field by field. -/
theorem readLinkRequest_eq_some {cls sa pa sb pb width hset i1 i0 : Byte} {r : LinkRequest} :
    readLinkRequest [cls, sa, pa, sb, pb, width, hset, i1, i0] = some r ↔
      LinkClass.ofCode cls.toNat = some r.cls ∧ readSlot sa = some r.slotA ∧ readPort pa = some r.portA
        ∧ readSlot sb = some r.slotB ∧ readPort pb = some r.portB ∧ readWidth width = some r.width
        ∧ ((hset.toNat = 0xFF ∧ ofU16 i1 i0 = 0xFFFF ∧ r.place = none)
          ∨ ∃ h, HighwaySet.ofCode hset.toNat = some h ∧ h.width = r.width ∧ ofU16 i1 i0 ≤ 511
              ∧ r.place = some (h, ofU16 i1 i0)) := by
  unfold readLinkRequest
  dsimp only
  constructor
  · intro h
    split at h
    next hc hsa hpa hsb hpb hw =>
      split at h
      next absent => cases h; exact ⟨hc, hsa, hpa, hsb, hpb, hw, .inl ⟨absent.1, absent.2, rfl⟩⟩
      · split at h
        next g hg =>
          split at h
          next inRange => cases h; exact ⟨hc, hsa, hpa, hsb, hpb, hw, .inr ⟨g, hg, inRange.2, inRange.1, rfl⟩⟩
          · cases h
        · cases h
    · cases h
  · rintro ⟨hc, hsa, hpa, hsb, hpb, hw, place⟩
    rw [hc, hsa, hpa, hsb, hpb, hw]
    dsimp only
    rcases place with ⟨hff, hffff, hp⟩ | ⟨g, hg, hgw, hi, hp⟩
    · rw [if_pos ⟨hff, hffff⟩, ← hp]
    · rw [if_neg (by omega), hg]
      dsimp only
      rw [if_pos ⟨hi, hgw⟩, ← hp]

/-- The highway sets with their codes and widths (00_scope.md, 11.5). -/
theorem HighwaySet.ofCode_width {n w : Nat} {h : HighwaySet} :
    HighwaySet.ofCode n = some h ∧ h.width = w ↔ (n, h, w) ∈ [(0, HighwaySet.h0, 1), (1, .h1, 1), (2, .h2, 1), (3, .h3, 1),
      (4, .h01, 2), (5, .h23, 2), (6, .h0123, 4)] := by
  rw [HighwaySet.ofCode_eq_some]
  cases h <;> simp [HighwaySet.width, HighwaySet.highways, eq_comm]

/-- R13, 11.4: a CREATE LINK is read exactly as it is spelled. -/
theorem readLinkRequest_iff {body : List Byte} (len : body.length = 9) {r : LinkRequest} :
    readLinkRequest body = some r ↔ LinkRequestSpelled body r := by
  match body, len with
  | [cls, sa, pa, sb, pb, width, hset, i1, i0], _ =>
    rw [readLinkRequest_eq_some]
    simp only [LinkClass.ofCode_eq_some, readWidth_eq_some, readSlot_eq_some, readPort_eq_some, ← and_assoc,
      HighwaySet.ofCode_width, LinkRequestSpelled, numberAt, wordAt, List.getD_cons_zero, List.getD_cons_succ, ofU16_eq,
      eq_comm (a := sa.toNat), eq_comm (a := pa.toNat), eq_comm (a := sb.toNat), eq_comm (a := pb.toNat),
      Nat.lt_succ_iff]

/-! ### The checks (R13 steps 2 to 4) -/

/-- R12: an endpoint whose port is in use. -/
theorem Blocks.portInUse_iff {b : Blocks} {e : Endpoint} :
    b.portInUse e = true ↔ ∃ l ∈ b.store.links, l.epA.collides e = true ∨ l.epB.collides e = true := by
  simp [Blocks.portInUse]

theorem Blocks.link_isSome {b : Blocks} {id : Nat} : (b.link id).isSome = true ↔ ∃ l ∈ b.store.links, l.id = id := by
  simp [Blocks.link, LinkStore.find]

theorem Blocks.link_eq_none {b : Blocks} {id : Nat} : b.link id = none ↔ ∀ l ∈ b.store.links, l.id ≠ id := by
  simp [Blocks.link, LinkStore.find]

/-- R1: the table is full where every position holds a record. -/
theorem Blocks.lowestFree_full {b : Blocks} (h : ∀ id, id < 1024 → (b.link id).isSome = true) :
    lowestFree b.store.links Config.linkCapacity 0 = none := by
  rw [lowestFree_none]
  exact fun k _ hk => Blocks.link_isSome.mp (h k (by simpa [Config.linkCapacity] using hk))

/-- R1: the lowest free position. -/
theorem Blocks.lowestFree_lowest {b : Blocks} {id : Nat} (inside : id < 1024) (free : b.link id = none)
    (low : ∀ k, k < id → (b.link k).isSome = true) : lowestFree b.store.links Config.linkCapacity 0 = some id := by
  rw [Blocks.link_eq_none] at free
  cases h : lowestFree b.store.links Config.linkCapacity 0 with
  | none =>
    obtain ⟨l, hl, hid⟩ := lowestFree_none.mp h id (Nat.zero_le id) (by simpa [Config.linkCapacity] using inside)
    exact absurd hid (free l hl)
  | some k =>
    obtain ⟨_, _, unheld, below⟩ := lowestFree_some h
    rcases Nat.lt_trichotomy k id with hk | rfl | hk
    · obtain ⟨l, hl, hid⟩ := Blocks.link_isSome.mp (low k hk)
      exact absurd hid (unheld l hl)
    · rfl
    · obtain ⟨l, hl, hid⟩ := below id (Nat.zero_le id) hk
      exact absurd hid (free l hl)

/-- R5, R6: the sequence a new record receives. -/
theorem LinkStore.nextSequence_given (st : LinkStore) : st.nextSequence.2 = st.seq.getD st.links.length := by
  unfold LinkStore.nextSequence
  cases st.seq <;> rfl

theorem judgeRequest_createLink {body : List Byte} (len : body.length = 9) (tag : Byte) (s : State) :
    judgeRequest { kind := 0x0C, tag, body } s = ownCreateLink body s :=
  if_pos (c := body.length ∈ [9]) (by simp [len])

/-- R13: the checks of a CREATE LINK in their order, and what an accepted one does. -/
theorem exec_createLink (s : State) (tag : Byte) (body : List Byte) (ready : s.Ready) (len : body.length = 9) :
    let f : Frame := { kind := 0x0C, tag, body }
    (readLinkRequest body = none → exec (.createLink tag body) s = s.answers f .badArg [])
    ∧ ∀ r, readLinkRequest body = some r →
        (∀ st, s.blk.checkLink r = .error st → exec (.createLink tag body) s = s.answers f st [])
        ∧ ∀ l, s.blk.checkLink r = .ok l →
            exec (.createLink tag body) s = .next (s.carriedOut f (Blocks.createLink l) .ok l.createdFields) := by
  refine ⟨fun unread => exec_answers ready rfl ?_, fun r hr => ⟨fun st hst => exec_answers ready rfl ?_,
    fun l hl => exec_carriedOut ready rfl ?_⟩⟩
  · rw [judgeRequest_createLink len, ownCreateLink, unread]
    rfl
  · simp only [judgeRequest_createLink len, ownCreateLink, hr, State.holding_blk, hst, State.refuse]
  · simp only [judgeRequest_createLink len, ownCreateLink, hr, State.holding_blk, hl, State.accept, Status.accepted,
      Bool.false_eq_true, if_false]

/-! ### The record joins (R15) -/

theorem find?_insertLink_other {l : Link} {k : Nat} (hk : l.id ≠ k) (links : List Link) :
    (insertLink l links).find? (fun m => m.id == k) = links.find? (fun m => m.id == k) := by
  induction links with
  | nil => simp [insertLink, hk]
  | cons m links ih =>
    unfold insertLink
    split
    · simp [hk]
    · rw [List.find?_cons, List.find?_cons, ih]

theorem find?_insertLink_same {l : Link} {links : List Link} (fresh : ∀ m ∈ links, m.id ≠ l.id) :
    (insertLink l links).find? (fun m => m.id == l.id) = some l := by
  induction links with
  | nil => simp [insertLink]
  | cons m links ih =>
    unfold insertLink
    split
    · simp
    · rw [List.find?_cons_of_neg (by simp [fresh m (by simp)])]
      exact ih fun k hk => fresh k (by simp [hk])

/-- R6: the record of an id after the renumbering. -/
theorem find?_renumber (links : List Link) (k : Nat) : (renumber links).find? (fun m => m.id == k) =
    (links.find? (fun m => m.id == k)).map (fun m => { m with seq := seqRank links m }) := by
  simp only [renumber_eq, List.find?_map, Function.comp_def]

theorem rankInsert_split (st : LinkStore) (l : Link) (queue : List Nat) :
    ∃ above below, queue = above ++ below ∧ rankInsert st l queue = above ++ l.id :: below
      ∧ (∀ k ∈ above, ∀ m, st.find k = some m → l.above m = false)
      ∧ ∀ k rest, below = k :: rest → ∃ m, st.find k = some m ∧ l.above m = true := by
  induction queue with
  | nil => exact ⟨[], [], rfl, rfl, by simp, by simp⟩
  | cons q queue ih =>
    obtain ⟨above, below, hq, hins, habove, hbelow⟩ := ih
    have goOn : (∀ m, st.find q = some m → l.above m = false) → rankInsert st l (q :: queue) = q :: rankInsert st l queue →
        ∃ above below, q :: queue = above ++ below ∧ rankInsert st l (q :: queue) = above ++ l.id :: below
          ∧ (∀ k ∈ above, ∀ m, st.find k = some m → l.above m = false)
          ∧ ∀ k rest, below = k :: rest → ∃ m, st.find k = some m ∧ l.above m = true := fun hlow hcons => by
      refine ⟨q :: above, below, by rw [hq, List.cons_append], by rw [hcons, hins, List.cons_append], ?_, hbelow⟩
      intro k hk
      rcases List.mem_cons.mp hk with rfl | hk
      · exact hlow
      · exact habove k hk
    cases hf : st.find q with
    | none => exact goOn (fun m hm => by rw [hf] at hm; cases hm) (by simp [rankInsert, hf])
    | some m =>
      cases hlm : l.above m with
      | false => exact goOn (fun m' hm => by rw [hf] at hm; cases hm; exact hlm) (by simp [rankInsert, hf, hlm])
      | true =>
        refine ⟨[], q :: queue, rfl, by simp [rankInsert, hf, hlm], by simp, ?_⟩
        rintro k rest h
        cases h
        exact ⟨m, hf, hlm⟩

/-- R15: the blocks after a CREATE LINK of a record at a free position. -/
theorem Blocks.createLink_eq {b : Blocks} {l : Link} (free : b.link l.id = none) (out : l.id ∉ b.engine.queue) :
    Blocks.createLink l b = { b with
      store := b.store.nextSequence.1.add l
      engine := { b.engine with queue := rankInsert (b.store.nextSequence.1.add l) l b.engine.queue } } := by
  have found : LinkStore.find (b.store.nextSequence.1.add l) l.id = some l :=
    find?_insertLink_same (LinkStore.nextSequence_fresh (Blocks.link_eq_none.mp free))
  unfold Blocks.createLink Blocks.joinQueue Blocks.link
  rw [if_neg out, found]

/-- R15, R6: what CREATE LINK builds. -/
theorem Blocks.createLink_builds (b : Blocks) (l : Link) (free : b.link l.id = none) :
    let c := Blocks.createLink l b
    c.link l.id = some l
    ∧ c.store.links.length = b.store.links.length + 1
    ∧ c.store.cells = b.store.cells ++ l.hset.highways.map (fun hw => { highway := hw, index := l.index, link := l.id })
    ∧ c.store.seq = (if l.seq = 16777215 then none else some (l.seq + 1))
    ∧ (b.store.seq.isSome = true → ∀ k, k ≠ l.id → c.link k = b.link k)
    ∧ (b.store.seq = none → ∀ k, k ≠ l.id →
        c.link k = (b.link k).map (fun m => { m with seq := seqRank b.store.links m })) := by
  intro c
  have store : c.store = b.store.nextSequence.1.add l := Blocks.createLink_store l b
  have other : ∀ k, k ≠ l.id → c.link k = LinkStore.find b.store.nextSequence.1 k := fun k hk => by
    rw [Blocks.link, store]
    exact find?_insertLink_other hk.symm _
  refine ⟨?_, ?_, ?_, by rw [store]; rfl, fun given k hk => ?_, fun spent k hk => ?_⟩
  · rw [Blocks.link, store]
    exact find?_insertLink_same (LinkStore.nextSequence_fresh (Blocks.link_eq_none.mp free))
  · have ids := congrArg List.length b.store.nextSequence_ids
    rw [List.length_map, List.length_map] at ids
    rw [store, ← ids]
    exact (insertLink_perm l _).length_eq
  · rw [store, ← b.store.nextSequence_cells]
    rfl
  · obtain ⟨n, hn⟩ := Option.isSome_iff_exists.mp given
    rw [other k hk]
    simp only [LinkStore.nextSequence, hn]
    rfl
  · rw [other k hk]
    simp only [LinkStore.nextSequence, spent]
    exact find?_renumber _ _

/-- Settles O19, from the checks of R13 in their order, what a request spells, and what CREATE LINK builds. -/
theorem createLinkBuildsTheRecord : Obligations.CreateLinkBuildsTheRecord := by
  refine ⟨fun s tag body ready len => ?_, fun e f => ?_, fun b l free out => ?_⟩
  · obtain ⟨unread, read⟩ := exec_createLink s tag body ready len
    intro f refusal
    refine ⟨fun unspelled => unread ?_, fun r spelled => ?_⟩
    · rw [Option.eq_none_iff_forall_ne_some]
      exact fun r hr => unspelled r ((readLinkRequest_iff len).mp hr)
    · obtain ⟨refused, accepted⟩ := read r ((readLinkRequest_iff len).mpr spelled)
      refine ⟨fun noEnds => refused _ ?_, fun ea eb ends => ?_⟩
      · cases h : s.blk.usableEnds r with
        | none => simp only [Blocks.checkLink, h]
        | some e => exact absurd (Blocks.usableEnds_iff.mp h) (noEnds e.1 e.2)
      · have hends := Blocks.usableEnds_iff.mpr ends
        have used_iff : (∃ l ∈ s.blk.store.links, ∃ e ∈ [ea, eb], l.epA.collides e = true ∨ l.epB.collides e = true)
            ↔ s.blk.portInUse ea = true ∨ s.blk.portInUse eb = true := by
          simp only [Blocks.portInUse_iff, List.mem_cons, List.not_mem_nil, or_false, exists_eq_or_imp, exists_eq_left,
            ← exists_or, ← and_or_left]
        intro used
        have used_iff : used ↔ _ := used_iff
        refine ⟨fun inUse => refused _ ?_, fun unused full => refused _ ?_, fun id unused inside idFree low =>
          ⟨fun st hst => refused _ ?_, fun h index hok l hl => ?_⟩⟩
        · simp only [Blocks.checkLink, hends, if_pos (used_iff.mp inUse)]
        · simp only [Blocks.checkLink, hends, if_neg (mt used_iff.mpr unused), Blocks.lowestFree_full full]
        · simp only [Blocks.checkLink, hends, if_neg (mt used_iff.mpr unused), Blocks.lowestFree_lowest inside idFree low, hst]
        · subst hl
          refine accepted _ ?_
          simp only [Blocks.checkLink, hends, if_neg (mt used_iff.mpr unused), Blocks.lowestFree_lowest inside idFree low,
            hok, LinkRequest.record, LinkStore.nextSequence_given]
  · simp only [Endpoint.collides_iff, Endpoint.names_iff]
  · obtain ⟨same, length, cells, seq, given, spent⟩ := Blocks.createLink_builds b l free
    obtain ⟨above, below, hq, hins, habove, hbelow⟩ :=
      rankInsert_split (b.store.nextSequence.1.add l) l b.engine.queue
    have eq := Blocks.createLink_eq free out
    refine ⟨same, length, cells, seq, given, fun none => ⟨spent none, fun m hm => ⟨seqRank_lt_length hm, fun n _ =>
      seqRank_lt_iff hm⟩⟩, ?_, ?_, ?_, ?_, ?_, ?_, ?_⟩
    · rw [eq]; exact ⟨above, below, hq, hins, habove, hbelow⟩
    all_goals rw [eq]

end Sys2Proof.Machine
end

section
/-! SUPPORT. What the slot registry's operations leave of each slot record: rules over any reading of a record that the
changes of the operation do not touch, and what a slot that was lost holds. -/

namespace Sys2Proof.Machine

/-! ### Readings of a slot record -/

theorem Blocks.slot_congr {b c : Blocks} (h : c.reg = b.reg) (j : SlotId) : c.slot j = b.slot j := by
  simp only [Blocks.slot, h]

/-- R109: who holds a slot rests on the covered slots alone. -/
theorem Blocks.holder_congr {b c : Blocks} (h : ∀ j, (c.slot j).coveredSlot = (b.slot j).coveredSlot) (s : SlotId) :
    c.holder s = b.holder s := by
  simp only [Blocks.holder, h]

@[simp] theorem Blocks.slot_raise (b : Blocks) (e : Event) (j : SlotId) : (b.raise e).slot j = b.slot j := rfl
@[simp] theorem Blocks.slot_tally (b : Blocks) (f : Episode → Episode) (j : SlotId) : (b.tally f).slot j = b.slot j := rfl
@[simp] theorem Blocks.slot_endClearRevert (b : Blocks) (i j : SlotId) : (b.endClearRevert i).slot j = b.slot j := rfl
@[simp] theorem Blocks.slot_detachSlot (b : Blocks) (i j : SlotId) : (b.detachSlot i).slot j = b.slot j := rfl
@[simp] theorem Blocks.slot_dropLinks (b : Blocks) (p : Link → Bool) (j : SlotId) : (b.dropLinks p).slot j = b.slot j :=
  Blocks.slot_congr (by simp) j

/-- A change of a record that a reading of it does not see. -/
theorem Blocks.modSlot_keeps {α : Type} (g : SlotRec → α) (b : Blocks) (i j : SlotId) {f : SlotRec → SlotRec}
    (hf : ∀ r, g (f r) = g r := by intro _; rfl) : g ((b.modSlot i f).slot j) = g (b.slot j) := by
  by_cases h : j = i
  · subst h; rw [Blocks.slot_modSlot_same, hf]
  · rw [Blocks.slot_modSlot_other _ _ _ _ h]

/-- R83: abandoning an order touches the order field alone. -/
theorem Blocks.abandonOrder_keeps {α : Type} (g : SlotRec → α) (hg : ∀ r o, g { r with order := o } = g r) (b : Blocks)
    (i j : SlotId) : g ((b.abandonOrder i).slot j) = g (b.slot j) := by
  unfold Blocks.abandonOrder
  split
  · rfl
  · split
    · exact Blocks.modSlot_keeps g b i j fun r => hg r _
    · exact Blocks.modSlot_keeps g { b with bus := _ } i j fun r => hg r _

theorem Blocks.abandonOrder_other (b : Blocks) {i j : SlotId} (h : j ≠ i) : (b.abandonOrder i).slot j = b.slot j := by
  unfold Blocks.abandonOrder
  split
  · rfl
  · split
    · exact Blocks.slot_modSlot_other _ _ _ _ h
    · exact Blocks.slot_modSlot_other { b with bus := _ } _ _ _ h

/-- R83, R96: a change of state touches the order and what the state says of presence. -/
theorem Blocks.changeState_keeps {α : Type} (g : SlotRec → α) (hg : ∀ r o, g { r with order := o } = g r)
    (henter : ∀ r st, g (r.enter st) = g r) (b : Blocks) (i j : SlotId) (st : SlotState) :
    g ((b.changeState i st).slot j) = g (b.slot j) := by
  unfold Blocks.changeState
  dsimp only
  split
  · rfl
  · rw [Blocks.slot_raise]
    exact (Blocks.modSlot_keeps g _ i j fun r => henter r st).trans (Blocks.abandonOrder_keeps g hg b i j)

theorem Blocks.changeState_other (b : Blocks) {i j : SlotId} (st : SlotState) (h : j ≠ i) :
    (b.changeState i st).slot j = b.slot j := by
  unfold Blocks.changeState
  dsimp only
  split
  · rfl
  · rw [Blocks.slot_raise, Blocks.slot_modSlot_other _ _ _ _ h, b.abandonOrder_other h]

@[simp] theorem Blocks.changeState_state (b : Blocks) (i : SlotId) (st : SlotState) :
    ((b.changeState i st).slot i).state = st := by
  unfold Blocks.changeState
  dsimp only
  split
  next h => exact h
  · rw [Blocks.slot_raise, Blocks.slot_modSlot_same]
    rfl

/-- R78: the lost reason stands in LOST. -/
theorem Blocks.changeState_lostReason (b : Blocks) (i : SlotId) :
    ((b.changeState i .lost).slot i).lostReason = (b.slot i).lostReason := by
  unfold Blocks.changeState
  dsimp only
  split
  · rfl
  · rw [Blocks.slot_raise, Blocks.slot_modSlot_same]
    exact Blocks.abandonOrder_keeps SlotRec.lostReason (fun _ _ => rfl) b i i

/-- R83: a change of state places no order. -/
theorem Blocks.changeState_registryQueue {b : Blocks} {i : SlotId} {st : SlotState} {o : BusOrder}
    (h : o ∈ (b.changeState i st).bus.registryQueue) : o ∈ b.bus.registryQueue := by
  unfold Blocks.changeState at h
  dsimp only at h
  split at h
  · exact h
  · change o ∈ (b.abandonOrder i).bus.registryQueue at h
    unfold Blocks.abandonOrder at h
    split at h
    · exact h
    · split at h
      · exact h
      · exact List.mem_of_mem_filter h

theorem Blocks.powerOff_keeps {α : Type} (g : SlotRec → α) (hg : ∀ r w, g { r with writeSet := w } = g r) (b : Blocks)
    (i j : SlotId) : g ((b.powerOff i).slot j) = g (b.slot j) := by
  have opened : g ((b.openSwitch i).slot j) = g (b.slot j) := by
    unfold Blocks.openSwitch
    split
    · exact Blocks.modSlot_keeps g (((b.modPower i _).detachSlot i).markOpened i) i j fun r => hg r []
    · rfl
  exact opened

theorem Blocks.powerOff_other (b : Blocks) {i j : SlotId} (h : j ≠ i) : (b.powerOff i).slot j = b.slot j := by
  have opened : (b.openSwitch i).slot j = b.slot j := by
    unfold Blocks.openSwitch
    split
    · exact Blocks.slot_modSlot_other (((b.modPower i _).detachSlot i).markOpened i) _ _ _ h
    · rfl
  exact opened

/-! ### The loss of a slot (R90) -/

/-- R90: a slot's entry to LOST, before its links are settled. -/
def Blocks.enterLost (b : Blocks) (i : SlotId) (reason : LossReason) : Blocks :=
  (((b.modSlot i (fun r => { r with lostReason := some reason, attention := false })).changeState i .lost).powerOff i).tally
    Episode.countSlotLost

theorem Blocks.lose_eq (b : Blocks) (i : SlotId) (reason : LossReason) :
    b.lose i reason = (b.enterLost i reason).settleLoss i reason := rfl

theorem Blocks.enterLost_other (b : Blocks) {i j : SlotId} (reason : LossReason) (h : j ≠ i) :
    (b.enterLost i reason).slot j = b.slot j :=
  ((Blocks.powerOff_other _ h).trans (Blocks.changeState_other _ _ h)).trans (Blocks.slot_modSlot_other _ _ _ _ h)

/-- A reading of the record that the entry to LOST does not touch. -/
theorem Blocks.enterLost_keeps {α : Type} (g : SlotRec → α) (horder : ∀ r o, g { r with order := o } = g r)
    (henter : ∀ r st, g (r.enter st) = g r) (hset : ∀ r w, g { r with writeSet := w } = g r)
    (hlost : ∀ r l a, g { r with lostReason := l, attention := a } = g r) (b : Blocks) (i j : SlotId) (reason : LossReason) :
    g ((b.enterLost i reason).slot j) = g (b.slot j) :=
  ((Blocks.powerOff_keeps g hset _ i j).trans (Blocks.changeState_keeps g horder henter _ i j .lost)).trans
    (Blocks.modSlot_keeps g b i j fun r => hlost r _ _)

@[simp] theorem Blocks.enterLost_state (b : Blocks) (i : SlotId) (reason : LossReason) :
    ((b.enterLost i reason).slot i).state = .lost :=
  (Blocks.powerOff_keeps SlotRec.state (fun _ _ => rfl) _ i i).trans (Blocks.changeState_state _ i .lost)

@[simp] theorem Blocks.enterLost_lostReason (b : Blocks) (i : SlotId) (reason : LossReason) :
    ((b.enterLost i reason).slot i).lostReason = some reason :=
  ((Blocks.powerOff_keeps SlotRec.lostReason (fun _ _ => rfl) _ i i).trans (Blocks.changeState_lostReason _ i)).trans
    (congrArg SlotRec.lostReason (Blocks.slot_modSlot_same _ i _))

@[simp] theorem Blocks.enterLost_coveredSlot (b : Blocks) (i j : SlotId) (reason : LossReason) :
    ((b.enterLost i reason).slot j).coveredSlot = (b.slot j).coveredSlot :=
  Blocks.enterLost_keeps _ (fun _ _ => rfl) (fun _ _ => rfl) (fun _ _ => rfl) (fun _ _ _ => rfl) b i j reason

@[simp] theorem Blocks.enterLost_revertMark (b : Blocks) (i j : SlotId) (reason : LossReason) :
    ((b.enterLost i reason).slot j).revertMark = (b.slot j).revertMark :=
  Blocks.enterLost_keeps _ (fun _ _ => rfl) (fun _ _ => rfl) (fun _ _ => rfl) (fun _ _ _ => rfl) b i j reason

/-- R89: what a lost slot shows of its loss while it is LOST. -/
def SlotRec.lossShown (r : SlotRec) : SlotState × Option LossReason := (r.state, r.lostReason)

theorem Blocks.lossShown_eq {b : Blocks} {i : SlotId} {reason : LossReason} :
    (b.slot i).lossShown = (.lost, some reason) ↔ (b.slot i).state = .lost ∧ (b.slot i).lostReason = some reason := by
  simp [SlotRec.lossShown]

theorem Blocks.spareLost_lossShown {b : Blocks} {i s : SlotId} {reason : LossReason}
    (h : (b.slot i).lossShown = (.lost, some reason)) :
    ((b.spareLost i s reason).slot i).lossShown = (.lost, some reason) := by
  have dropped : ∀ {x : Blocks}, (x.slot i).lossShown = (.lost, some reason) →
      ((((x.endHold i).detachSlot i).dropLinks (fun l => l.endsOn i)).slot i).lossShown = (.lost, some reason) := by
    intro x hx
    rw [Blocks.slot_dropLinks, Blocks.slot_detachSlot]
    exact (Blocks.modSlot_keeps SlotRec.lossShown x i i).trans hx
  obtain ⟨hs, hr⟩ := Blocks.lossShown_eq.mp h
  unfold Blocks.spareLost
  dsimp only
  split
  · exact dropped ((Blocks.modSlot_keeps SlotRec.lossShown b s i).trans h)
  · by_cases his : s = i
    · subst his
      simp only [hs, bne_self_eq_false, Bool.false_eq_true, if_false]
      exact dropped (Blocks.lossShown_eq.mpr ⟨by rw [Blocks.slot_modSlot_same]; exact hs, by rw [Blocks.slot_modSlot_same]⟩)
    · have hi : i ≠ s := fun e => his e.symm
      have settled := (congrArg SlotRec.lossShown (Blocks.slot_modSlot_other b s i
        (fun r => { r with lostReason := some reason, coverReason := none }) hi)).trans h
      split
      · exact dropped ((congrArg SlotRec.lossShown (Blocks.changeState_other _ .lost hi)).trans settled)
      · exact dropped settled

theorem Blocks.retireHeld_lossShown (b : Blocks) (s i : SlotId) :
    ((b.retireHeld s).slot i).lossShown = (b.slot i).lossShown := by
  have marked := Blocks.modSlot_keeps SlotRec.lossShown b s i
    (f := fun r => { r with revertMark := false, coverReason := none })
  have ended : ∀ (x : Blocks) (t : SlotId), ((x.endHold t).slot i).lossShown = (x.slot i).lossShown := fun x t =>
    Blocks.modSlot_keeps SlotRec.lossShown x t i
  unfold Blocks.retireHeld
  dsimp only
  rw [Blocks.slot_dropLinks]
  split
  · split
    · exact ((ended _ _).trans (Blocks.abandonOrder_keeps SlotRec.lossShown (fun _ _ => rfl) _ _ i)).trans marked
    · exact (ended _ _).trans marked
  · exact marked

/-- R110: cover shows the loss as its cover reason. -/
theorem Blocks.takeCover_covered (b : Blocks) (i t : SlotId) (reason : LossReason) :
    ((b.takeCover i t reason).slot i).state = .covered ∧ ((b.takeCover i t reason).slot i).coverReason = some reason := by
  have reg : ∀ {x : Blocks}, (((x.remapLinks i t).tally Episode.countSlotCovered).coverReport i).slot i = x.slot i :=
    fun {x} => Blocks.slot_congr (by simp) i
  unfold Blocks.takeCover
  dsimp only
  rw [reg]
  constructor
  · exact (Blocks.modSlot_keeps SlotRec.state _ t i).trans (Blocks.changeState_state _ i .covered)
  · refine (Blocks.modSlot_keeps SlotRec.coverReason _ t i).trans ?_
    refine (Blocks.changeState_keeps SlotRec.coverReason (fun _ _ => rfl) (fun _ _ => rfl) _ i i .covered).trans ?_
    rw [Blocks.slot_modSlot_same]

/-- R119: a reverting slot that is lost without being retired: its record, the wanted CLEAR of its spare and the CLEARs of the
spare that are outstanding. -/
theorem Blocks.revertingLost_eq {b : Blocks} {s t : SlotId} {reason : LossReason} (hr : reason ≠ .retired)
    (hold : b.holder s = some t) :
    b.revertingLost s reason =
      let x := ((b.modSlot s (fun r => { r with coverReason := some reason, revertMark := false })).modSlot t
        (fun r => { r with clearWanted := false })).endClearRevert t
      if x.isLive t then (x.changeState s .covered).tally Episode.countSlotCovered else x := by
  have hold' : (b.modSlot s (fun r => { r with coverReason := some reason, revertMark := false })).holder s = some t :=
    (Blocks.holder_congr (fun j => Blocks.modSlot_keeps SlotRec.coveredSlot b s j) s).trans hold
  unfold Blocks.revertingLost
  rw [if_neg hr]
  dsimp only
  rw [hold']

/-- R90, R110, R119: a lost slot shows the reason, as the lost reason or under cover. -/
theorem Blocks.lose_lostFor (b : Blocks) (i : SlotId) (reason : LossReason) : LostFor (b.lose i reason) i reason := by
  have shown : ((b.enterLost i reason).slot i).lossShown = (.lost, some reason) := Blocks.lossShown_eq.mpr (by simp)
  rw [Blocks.lose_eq]
  generalize b.enterLost i reason = b at shown
  unfold Blocks.settleLoss
  split
  · exact .inl (Blocks.lossShown_eq.mp (Blocks.spareLost_lossShown shown))
  · split
    · by_cases hr : reason = .retired
      · unfold Blocks.revertingLost
        rw [if_pos hr]
        exact .inl (Blocks.lossShown_eq.mp ((Blocks.retireHeld_lossShown b i i).trans shown))
      · cases hold : b.holder i with
        | none =>
          have hold' : (b.modSlot i (fun r => { r with coverReason := some reason, revertMark := false })).holder i = none :=
            (Blocks.holder_congr (fun j => Blocks.modSlot_keeps SlotRec.coveredSlot b i j) i).trans hold
          unfold Blocks.revertingLost
          rw [if_neg hr]
          dsimp only
          simp only [hold']
          exact .inl (Blocks.lossShown_eq.mp ((Blocks.modSlot_keeps SlotRec.lossShown b i i).trans shown))
        | some t =>
          rw [Blocks.revertingLost_eq hr hold]
          dsimp only
          split
          · refine .inr ⟨Blocks.changeState_state _ i .covered, ?_⟩
            rw [Blocks.slot_tally]
            refine (Blocks.changeState_keeps SlotRec.coverReason (fun _ _ => rfl) (fun _ _ => rfl) _ i i .covered).trans ?_
            rw [Blocks.slot_endClearRevert]
            refine (Blocks.modSlot_keeps SlotRec.coverReason _ t i).trans ?_
            rw [Blocks.slot_modSlot_same]
          · refine .inl (Blocks.lossShown_eq.mp ?_)
            rw [Blocks.slot_endClearRevert]
            exact ((Blocks.modSlot_keeps SlotRec.lossShown _ t i).trans
              ((Blocks.modSlot_keeps SlotRec.lossShown b i i).trans shown))
    · split
      · exact .inr (Blocks.takeCover_covered b i _ reason)
      · refine .inl (Blocks.lossShown_eq.mp ?_)
        rw [Blocks.slot_dropLinks, Blocks.slot_detachSlot]
        exact shown

end Sys2Proof.Machine
end

section
/-! CERTIFICATE. The outcomes of a CLEAR, and the loss of the slot it was placed for (R117 to R119). -/

namespace Sys2Proof.Machine

/-! ### The links that return (R40, R111, R118) -/

/-- R40, R111, R118: a record after its link returned. -/
def Link.returned (l : Link) : Link :=
  if l.state.flying then
    if l.removal then { l with state := .releasing, deferral := none } else { l with state := .pending }
  else if l.state = .carried ∨ l.state = .suspect then { l with state := .pending } else l

theorem Link.returned_state (l : Link) : l.returned.state =
    if l.state.flying then (if l.removal then .releasing else .pending)
    else if l.state = .carried ∨ l.state = .suspect then .pending else l.state := by
  unfold Link.returned
  repeat' split
  all_goals rfl

/-- A return changes the state and the deferral of a record alone. -/
theorem Link.returned_eq (l : Link) : l.returned = { l with state := l.returned.state, deferral := l.returned.deferral } := by
  unfold Link.returned
  repeat' split
  all_goals rfl

/-- A link that has returned has nothing more to return from. -/
theorem Link.returned_returned (l : Link) : l.returned.returned = l.returned := by
  have rests : l.returned.state.flying = false ∧ ¬(l.returned.state = .carried ∨ l.returned.state = .suspect) := by
    rw [Link.returned_state]
    repeat' split
    · exact ⟨rfl, by simp⟩
    · exact ⟨rfl, by simp⟩
    · exact ⟨rfl, by simp⟩
    next hf hc => exact ⟨by simpa using hf, hc⟩
  rw [Link.returned, if_neg (by simp [rests.1]), if_neg rests.2]

theorem Blocks.link_setLinkState_same {b : Blocks} {id : Nat} {l : Link} (st : LinkState) (h : b.link id = some l) :
    (b.setLinkState id st).link id = some { l with state := st } :=
  Blocks.link_modLink_same (f := fun l => { l with state := st }) (fun _ => rfl) h

theorem Blocks.link_setLinkState_other {b : Blocks} {id k : Nat} (st : LinkState) (hk : k ≠ id) :
    (b.setLinkState id st).link k = b.link k :=
  Blocks.link_modLink_other (f := fun l => { l with state := st }) (fun _ => rfl) hk

theorem Blocks.link_joinQueue (b : Blocks) (id k : Nat) : (b.joinQueue id).link k = b.link k :=
  Blocks.link_congr (by simp) k

theorem Blocks.link_returnLink_same {b : Blocks} {id : Nat} {l : Link} (h : b.link id = some l) :
    (b.returnLink id).link id = some l.returned := by
  unfold Blocks.returnLink
  rw [h]
  dsimp only
  cases hs : l.state
  case verifying | preparing | ready | activating =>
    have hl : l.returned = if l.removal then { l with state := .releasing, deferral := none }
        else { l with state := .pending } := by simp [Link.returned, hs, LinkState.flying]
    rw [hl]
    dsimp only
    split
    · exact Blocks.link_release_same h
    · rw [Blocks.link_joinQueue]
      exact Blocks.link_setLinkState_same (b := b.leaveInFlight id) _ h
  case suspect =>
    have hl : l.returned = { l with state := .pending } := by simp [Link.returned, hs, LinkState.flying]
    rw [hl]
    exact Blocks.link_setLinkState_same _ h
  case carried =>
    have hl : l.returned = { l with state := .pending } := by simp [Link.returned, hs, LinkState.flying]
    rw [hl]
    dsimp only
    rw [Blocks.link_joinQueue]
    exact Blocks.link_setLinkState_same _ h
  case pending | deferred | releasing =>
    have hl : l.returned = l := by simp [Link.returned, hs, LinkState.flying]
    rw [hl]
    exact h

theorem Blocks.link_returnLink_other {b : Blocks} {id k : Nat} (hk : k ≠ id) : (b.returnLink id).link k = b.link k := by
  unfold Blocks.returnLink
  split
  · rfl
  next l _ =>
    cases l.state
    case verifying | preparing | ready | activating =>
      dsimp only
      split
      · exact Blocks.link_release_other hk
      · rw [Blocks.link_joinQueue]
        exact Blocks.link_setLinkState_other (b := b.leaveInFlight id) _ hk
    case suspect => exact Blocks.link_setLinkState_other _ hk
    case carried =>
      dsimp only
      rw [Blocks.link_joinQueue]
      exact Blocks.link_setLinkState_other _ hk
    case pending | deferred | releasing => rfl

/-- Several links return: each of them once, and no other link. -/
theorem Blocks.link_foldl_returnLink {b : Blocks} {k : Nat} {l : Link} (ids : List Nat) (h : b.link k = some l) :
    (ids.foldl Blocks.returnLink b).link k = some (if k ∈ ids then l.returned else l) := by
  induction ids generalizing b l with
  | nil => simpa using h
  | cons id ids ih =>
    rw [List.foldl_cons]
    by_cases hk : k = id
    · subst hk
      rw [ih (Blocks.link_returnLink_same h), Link.returned_returned]
      simp
    · rw [ih ((Blocks.link_returnLink_other hk).trans h)]
      simp [hk]

theorem Blocks.reg_foldl_returnLink (ids : List Nat) (b : Blocks) : (ids.foldl Blocks.returnLink b).reg = b.reg :=
  foldl_keeps Blocks.reg (by simp) ids b

/-- Law 2: under the link store law a record is the one of its id. -/
theorem LinkStore.Law.link_eq {b : Blocks} (law : b.store.Law) {k : Nat} {l m : Link} (h : b.link k = some l)
    (hm : m ∈ b.store.links) (hid : m.id = k) : m = l := by
  obtain ⟨sorted, _⟩ := law
  have hl : l ∈ b.store.links := List.mem_of_find?_eq_some h
  have nodup : (b.store.links.map Link.id).Nodup := List.pairwise_map.mpr (sorted.imp fun h => h.ne)
  exact List.inj_on_of_nodup_map nodup hm hl (hid.trans (Blocks.link_id h).symm)

theorem LinkStore.Law.mem_linkIds {b : Blocks} (law : b.store.Law) {k : Nat} {l : Link} (h : b.link k = some l)
    (p : Link → Bool) : k ∈ b.linkIds p ↔ p l = true := by
  simp only [Blocks.linkIds, List.mem_map, List.mem_filter]
  constructor
  · rintro ⟨m, ⟨hm, hp⟩, hid⟩
    exact law.link_eq h hm hid ▸ hp
  · exact fun hp => ⟨l, ⟨List.mem_of_find?_eq_some h, hp⟩, Blocks.link_id h⟩

/-! ### The ends on a slot (R44) -/

/-- A return leaves both ends of every record. -/
theorem Blocks.endsDetached_returnLink {b : Blocks} {i : SlotId} (h : EndsDetached b i) (id : Nat) :
    EndsDetached (b.returnLink id) i := by
  have map : ∀ {c : Blocks} {f : Link → Link}, (∀ l e, (f l).endpoint e = l.endpoint e ∧ (f l).attached e = l.attached e) →
      c.store.links = b.store.links.map f → EndsDetached c i := by
    intro c f hf hc l hl e he
    rw [hc] at hl
    obtain ⟨m, hm, rfl⟩ := List.mem_map.mp hl
    obtain ⟨hend, hatt⟩ := hf m e
    rw [hatt]
    exact h m hm e (hend ▸ he)
  have one : ∀ {c : Blocks} {g : Link → Link}, (∀ l e, (g l).endpoint e = l.endpoint e ∧ (g l).attached e = l.attached e) →
      c.store.links = b.store.links.map (fun l => if l.id = id then g l else l) → EndsDetached c i := fun hg hc =>
    map (fun l e => by split <;> simp [hg l e]) hc
  have state : ∀ {c : Blocks} (st : LinkState),
      c.store.links = b.store.links.map (fun l => if l.id = id then { l with state := st } else l) → EndsDetached c i :=
    fun st => one (g := fun l => { l with state := st }) (fun _ e => by cases e <;> exact ⟨rfl, rfl⟩)
  unfold Blocks.returnLink
  split
  · exact h
  next l _ =>
    cases l.state
    case verifying | preparing | ready | activating =>
      dsimp only
      split
      · exact one (g := fun l => { l with state := .releasing, deferral := none }) (fun _ e => by cases e <;> exact ⟨rfl, rfl⟩)
          rfl
      · exact state .pending (by rw [(Blocks.joinQueue_frame _ _).2.2.2.1]; rfl)
    case suspect => exact state .pending rfl
    case carried => exact state .pending (by rw [(Blocks.joinQueue_frame _ _).2.2.2.1]; rfl)
    case pending | deferred | releasing => exact h

theorem Blocks.endsDetached_detachSlot (b : Blocks) (i : SlotId) : EndsDetached (b.detachSlot i) i := by
  intro l hl e he
  obtain ⟨m, _, rfl⟩ := List.mem_map.mp hl
  cases e <;> exact by simp_all [Link.endpoint, Link.attached]

/-- R40: a slot found fresh, restarted or switched off in place has no end attached. -/
theorem Blocks.endsDetached_slotInPlace (b : Blocks) (i : SlotId) : EndsDetached (b.slotInPlace i) i := by
  have all : ∀ (ids : List Nat) {c : Blocks}, EndsDetached c i → EndsDetached (ids.foldl Blocks.returnLink c) i := by
    intro ids
    induction ids with
    | nil => exact fun h => h
    | cons id ids ih => exact fun h => ih (Blocks.endsDetached_returnLink h id)
  exact all _ (b.endsDetached_detachSlot i)

/-! ### The revert completes (R118) -/

theorem Blocks.completeRevert_reg (b : Blocks) (spare s : SlotId) : (b.completeRevert spare s).reg =
    ((b.endHold spare).modSlot s (fun r => { r with revertMark := false, coverReason := none })).reg :=
  Blocks.reg_foldl_returnLink _ _

/-- R118: the spare, the slot it held and every other slot once the revert is complete. -/
theorem Blocks.completeRevert_slots (b : Blocks) {spare s : SlotId} (h : s ≠ spare) :
    (b.completeRevert spare s).slot spare
        = { b.slot spare with coveredSlot := none, coverLoad := none, writeSet := [], clearWanted := false }
      ∧ (b.completeRevert spare s).slot s = { b.slot s with revertMark := false, coverReason := none }
      ∧ ∀ j, j ≠ spare → j ≠ s → (b.completeRevert spare s).slot j = b.slot j := by
  have slots := Blocks.slot_congr (b.completeRevert_reg spare s)
  refine ⟨?_, ?_, fun j hj hjs => ?_⟩
  · rw [slots, Blocks.slot_modSlot_other _ _ _ _ h.symm, Blocks.endHold, Blocks.slot_modSlot_same]
  · rw [slots, Blocks.slot_modSlot_same, Blocks.endHold, Blocks.slot_modSlot_other _ _ _ _ h]
  · rw [slots, Blocks.slot_modSlot_other _ _ _ _ hjs, Blocks.endHold, Blocks.slot_modSlot_other _ _ _ _ hj]

theorem Blocks.completeRevert_ports (b : Blocks) (spare s : SlotId) :
    (b.completeRevert spare s).reg.ports = b.reg.ports := by
  rw [Blocks.completeRevert_reg]
  rfl

theorem Blocks.link_detachSlot {b : Blocks} {k : Nat} {l : Link} (i : SlotId) (h : b.link k = some l) :
    (b.detachSlot i).link k
      = some { l with attA := l.attA && !(l.epA.slot == i), attB := l.attB && !(l.epB.slot == i) } := by
  have detached := Blocks.link_mapLinks (b := b)
    (f := fun l => { l with attA := l.attA && !(l.epA.slot == i), attB := l.attB && !(l.epB.slot == i) }) (fun _ => rfl) k
  rw [h] at detached
  exact detached

theorem Blocks.link_restoreLinks {b : Blocks} {k : Nat} {l : Link} (s : SlotId) (h : b.link k = some l) :
    (b.restoreLinks s).link k = some { l with epA := l.epA.restore s, epB := l.epB.restore s } := by
  rw [Blocks.restoreLinks, Blocks.link_mapLinks (by intro _; rfl), h]
  rfl

/-- R111, R118: every link after the restore. -/
theorem Blocks.completeRevert_links {b : Blocks} (law : b.store.Law) (spare s : SlotId) {k : Nat} {l : Link}
    (h : b.link k = some l) : ∃ m, (b.completeRevert spare s).link k = some m ∧ LinkRestored spare s l m := by
  have restored : ((((b.detachSlot spare).restoreLinks s).endHold spare).modSlot s
      (fun r => { r with revertMark := false, coverReason := none })).link k = some _ :=
    Blocks.link_restoreLinks s (Blocks.link_detachSlot spare h)
  refine ⟨_, Blocks.link_foldl_returnLink _ restored, ?_⟩
  simp only [law.mem_linkIds h, Bool.or_eq_true, beq_iff_eq]
  have back : ∀ e : Endpoint, e.restore s = if e.home = some s then { slot := s, port := e.port, home := none } else e :=
    fun _ => rfl
  split
  next homed =>
    rw [Link.returned_eq]
    refine ⟨rfl, back _, back _, rfl, rfl, ?_⟩
    rw [if_pos homed]
    exact Link.returned_state _
  next away => exact ⟨rfl, back _, back _, rfl, rfl, (if_neg away).symm⟩

/-! ### The spare is restarted (R92, R113) -/

/-- R113: leaving LIVE touches no slot but the one the spare covers. -/
theorem Blocks.spareLeftLive_other (b : Blocks) {i j : SlotId} (h : (b.slot i).coveredSlot ≠ some j) :
    (b.spareLeftLive i).slot j = b.slot j := by
  unfold Blocks.spareLeftLive
  split
  · rfl
  next s hs =>
    have hj : j ≠ s := fun e => h (e ▸ hs)
    split
    · rw [Blocks.slot_tally, Blocks.changeState_other _ _ hj, Blocks.slot_modSlot_other _ _ _ _ hj]
    · rfl

/-- R113: a slot the spare covered is LOST, and its revert mark is as it was. -/
theorem Blocks.spareLeftLive_covered {b : Blocks} {i s : SlotId} (h : (b.slot i).coveredSlot = some s) :
    ((b.spareLeftLive i).slot s).revertMark = (b.slot s).revertMark
      ∧ ((b.slot s).state = .covered → ((b.spareLeftLive i).slot s).state = .lost) := by
  unfold Blocks.spareLeftLive
  rw [h]
  dsimp only
  split
  · rw [Blocks.slot_tally]
    refine ⟨?_, fun _ => Blocks.changeState_state _ s .lost⟩
    exact (Blocks.changeState_keeps SlotRec.revertMark (fun _ _ => rfl) (fun _ _ => rfl) _ s s .lost).trans
      (Blocks.modSlot_keeps SlotRec.revertMark b s s)
  next hs => exact ⟨rfl, fun hc => absurd hc hs⟩

/-- R92: what a restart of a LIVE slot leaves in the slot records. -/
theorem Blocks.cardRestart_slot {b : Blocks} {i : SlotId} (live : (b.slot i).state = .live) (j : SlotId) :
    (b.cardRestart i).slot j = ((((b.changeState i .identifying).spareLeftLive i).modSlot i
      (fun r => { r with latestId := some .fresh, attention := false })).startDeadline i).slot j := by
  have enters : b.enterState i .identifying = (b.changeState i .identifying).spareLeftLive i := by
    simp [Blocks.enterState, live]
  unfold Blocks.cardRestart
  rw [if_pos (by simp [Blocks.isLive, live]), enters]
  dsimp only
  rw [Blocks.slot_tally, Blocks.slot_congr (Blocks.slotInPlace_frame _ i).1]

/-- R92: the restarted slot is identified again, and holds what it held. -/
theorem Blocks.cardRestart_same {b : Blocks} {i : SlotId} (live : (b.slot i).state = .live)
    (own : (b.slot i).coveredSlot ≠ some i) :
    ((b.cardRestart i).slot i).state = .identifying ∧ ((b.cardRestart i).slot i).latestId = some .fresh
      ∧ ((b.cardRestart i).slot i).coveredSlot = (b.slot i).coveredSlot
      ∧ ((b.cardRestart i).slot i).coverLoad = (b.slot i).coverLoad := by
  have covered : ((b.changeState i .identifying).slot i).coveredSlot = (b.slot i).coveredSlot :=
    Blocks.changeState_keeps SlotRec.coveredSlot (fun _ _ => rfl) (fun _ _ => rfl) b i i _
  have load : ((b.changeState i .identifying).slot i).coverLoad = (b.slot i).coverLoad :=
    Blocks.changeState_keeps SlotRec.coverLoad (fun _ _ => rfl) (fun _ _ => rfl) b i i _
  rw [Blocks.cardRestart_slot live, Blocks.startDeadline, Blocks.slot_modSlot_same, Blocks.slot_modSlot_same,
    Blocks.spareLeftLive_other _ (covered ▸ own)]
  exact ⟨Blocks.changeState_state _ _ _, rfl, covered, load⟩

/-- R92: another slot is left by a restart as by the spare's leaving LIVE. -/
theorem Blocks.cardRestart_other {b : Blocks} {i j : SlotId} (live : (b.slot i).state = .live) (h : j ≠ i) :
    (b.cardRestart i).slot j = ((b.changeState i .identifying).spareLeftLive i).slot j := by
  rw [Blocks.cardRestart_slot live, Blocks.startDeadline, Blocks.slot_modSlot_other _ _ _ _ h,
    Blocks.slot_modSlot_other _ _ _ _ h]

/-- R92: a restarted slot that holds none leaves every other slot. -/
theorem Blocks.cardRestart_free {b : Blocks} {i j : SlotId} (live : (b.slot i).state = .live)
    (free : (b.slot i).coveredSlot = none) (h : j ≠ i) : (b.cardRestart i).slot j = b.slot j := by
  have covered : ((b.changeState i .identifying).slot i).coveredSlot = none :=
    (Blocks.changeState_keeps SlotRec.coveredSlot (fun _ _ => rfl) (fun _ _ => rfl) b i i _).trans free
  rw [Blocks.cardRestart_other live h, Blocks.spareLeftLive_other _ (by simp [covered]),
    Blocks.changeState_other _ _ h]

/-- R92, R113: a restarted spare leaves the slot it covers LOST. -/
theorem Blocks.cardRestart_held {b : Blocks} {i s : SlotId} (live : (b.slot i).state = .live)
    (holds : (b.slot i).coveredSlot = some s) (h : s ≠ i) :
    ((b.cardRestart i).slot s).revertMark = (b.slot s).revertMark
      ∧ ((b.slot s).state = .covered → ((b.cardRestart i).slot s).state = .lost) := by
  have covered : ((b.changeState i .identifying).slot i).coveredSlot = some s :=
    (Blocks.changeState_keeps SlotRec.coveredSlot (fun _ _ => rfl) (fun _ _ => rfl) b i i _).trans holds
  have left := Blocks.spareLeftLive_covered covered
  rw [Blocks.changeState_other _ _ h] at left
  rw [Blocks.cardRestart_other live h]
  exact left

/-! ### The outcomes of a CLEAR -/

/-- R83, R117: the outcome of a CLEAR that was not abandoned reaches the spare, its order ended. -/
theorem Blocks.deliver_clear {b : Blocks} {o : BusOrder} {reverts : Bool} (hp : o.purpose = .registry (.clear reverts))
    (ha : (b.slot o.slot).order.any RegistryOrder.abandoned = false) (t : Nat) (out : OrderOutcome)
    (given : List (List Byte)) : Blocks.deliver t b o out given =
      (b.modSlot o.slot (fun r => { r with order := none })).cleared o.slot reverts out := by
  unfold Blocks.deliver
  rw [hp]
  simp only [Blocks.registryOutcome, ha, Bool.false_eq_true, if_false]

/-- R117 to R119: what each outcome does at the spare, from the slot it holds. -/
theorem Blocks.cleared_done_free {b : Blocks} {i : SlotId} (h : (b.slot i).coveredSlot = none) (reverts : Bool) :
    b.cleared i reverts .done = b := by simp only [Blocks.cleared, h]

theorem Blocks.cleared_done_reverts {b : Blocks} {i s : SlotId} (h : (b.slot i).coveredSlot = some s) :
    b.cleared i true .done = b.completeRevert i s := by simp only [Blocks.cleared, h, if_true]

theorem Blocks.cleared_done_late {b : Blocks} {i s : SlotId} (h : (b.slot i).coveredSlot = some s) :
    b.cleared i false .done
      = (b.slotInPlace i).modSlot i (fun r => { r with coverLoad := some { runs := 0, done := false } }) := by
  simp only [Blocks.cleared, h, Bool.false_eq_true, if_false]

theorem Blocks.cleared_fresh_reverts {b : Blocks} {i s : SlotId} (h : (b.slot i).coveredSlot = some s) :
    b.cleared i true .fresh = (b.completeRevert i s).cardRestart i := by simp only [Blocks.cleared, h, if_true]

theorem Blocks.cleared_fresh_late {b : Blocks} {i s : SlotId} (h : (b.slot i).coveredSlot = some s) :
    b.cleared i false .fresh = b.cardRestart i := by simp only [Blocks.cleared, h, Bool.false_eq_true, if_false]

/-- R119: no CLEAR of the spare completes the revert that ended. -/
theorem BusOrder.endRevert_purpose (o : BusOrder) : o.endRevert.purpose ≠ .registry (.clear true) := by
  unfold BusOrder.endRevert
  split
  · simp
  next h => exact h true

/-- R119: the loss of a slot that reverts. -/
theorem Blocks.lose_reverting {b : Blocks} {s spare : SlotId} {reason : LossReason} (hr : reason ≠ .retired)
    (reverts : (b.slot s).revertMark = true) (free : (b.slot s).coveredSlot = none) (hold : b.holder s = some spare) :
    let c := b.lose s reason
    ((c.slot s).state = .covered ↔ (b.slot spare).state = .live)
    ∧ (c.slot s).revertMark = false ∧ (c.slot s).coverReason = some reason ∧ (c.slot spare).coveredSlot = some s
    ∧ (c.slot spare).clearWanted = false
    ∧ ∀ o ∈ c.bus.registryQueue, o.slot = spare → o.purpose ≠ .registry (.clear true) := by
  have holds := (Blocks.holder_eq_some.mp hold).1
  have apart : spare ≠ s := by rintro rfl; rw [free] at holds; cases holds
  have settles : b.lose s reason = (b.enterLost s reason).revertingLost s reason := by
    rw [Blocks.lose_eq, Blocks.settleLoss]
    simp only [Blocks.enterLost_coveredSlot, free, Blocks.enterLost_revertMark, reverts, if_true]
  intro c
  have hc : c = (b.enterLost s reason).revertingLost s reason := settles
  rw [Blocks.revertingLost_eq hr ((Blocks.holder_congr (fun j => b.enterLost_coveredSlot s j reason) s).trans hold)] at hc
  generalize hx : (((b.enterLost s reason).modSlot s
    (fun r => { r with coverReason := some reason, revertMark := false })).modSlot spare
    (fun r => { r with clearWanted := false })).endClearRevert spare = x at hc
  have own : x.slot s = { (b.enterLost s reason).slot s with coverReason := some reason, revertMark := false } := by
    rw [← hx, Blocks.slot_endClearRevert, Blocks.slot_modSlot_other _ _ _ _ apart.symm, Blocks.slot_modSlot_same]
  have other : x.slot spare = { b.slot spare with clearWanted := false } := by
    rw [← hx, Blocks.slot_endClearRevert, Blocks.slot_modSlot_same, Blocks.slot_modSlot_other _ _ _ _ apart,
      Blocks.enterLost_other _ _ apart]
  have ended : ∀ o ∈ x.bus.registryQueue, o.slot = spare → o.purpose ≠ .registry (.clear true) := by
    intro o ho hs
    rw [← hx] at ho
    obtain ⟨p, _, rfl⟩ := List.mem_map.mp ho
    split
    · exact p.endRevert_purpose
    next hp => rw [if_neg hp] at hs; exact absurd hs hp
  have live_iff : x.isLive spare = true ↔ (b.slot spare).state = .live := by
    rw [Blocks.isLive, other, beq_iff_eq]
  dsimp only at hc
  split at hc
  next live =>
    have covered := fun (α : Type) (g : SlotRec → α) (ho : ∀ r o, g { r with order := o } = g r)
      (he : ∀ r st, g (r.enter st) = g r) => Blocks.changeState_keeps g ho he x s s .covered
    rw [hc]
    simp only [Blocks.slot_tally, Blocks.changeState_other _ _ apart, other]
    refine ⟨iff_of_true (Blocks.changeState_state _ _ _) (live_iff.mp live), ?_, ?_, holds, trivial, fun o ho => ?_⟩
    · exact (covered _ SlotRec.revertMark (fun _ _ => rfl) (fun _ _ => rfl)).trans (by rw [own])
    · exact (covered _ SlotRec.coverReason (fun _ _ => rfl) (fun _ _ => rfl)).trans (by rw [own])
    · exact ended o (Blocks.changeState_registryQueue (b := x) ho)
  next dead =>
    rw [hc, own, other]
    refine ⟨iff_of_false ?_ (mt live_iff.mpr dead), rfl, rfl, holds, rfl, ended⟩
    simp

/-- Settles O40: the outcomes of a CLEAR by whether its revert goes on, then the loss of the slot it was placed for. -/
theorem clearEndsTheRevert : Obligations.ClearEndsTheRevert := by
  refine ⟨fun t b o reverts given hp ha => ?_, fun b s spare reason hr _ mark free hold =>
    ⟨b.lose_lostFor s reason, Blocks.lose_reverting hr mark free hold⟩⟩
  intro i r got
  have ended : (b.modSlot i (fun r => { r with order := none })).slot i = { r with order := none } :=
    Blocks.slot_modSlot_same b i _
  have kept : ∀ j, j ≠ i → (b.modSlot i (fun r => { r with order := none })).slot j = b.slot j := fun j hj =>
    Blocks.slot_modSlot_other b i j _ hj
  have frame := Blocks.modSlot_frame b i (fun r => { r with order := none })
  have ports : (b.modSlot i (fun r => { r with order := none })).reg.ports = b.reg.ports := rfl
  have cleared : ∀ out, got out = (b.modSlot i (fun r => { r with order := none })).cleared i reverts out := fun out =>
    Blocks.deliver_clear hp ha t out given
  clear_value got
  revert ended kept frame ports cleared
  generalize b.modSlot i (fun r => { r with order := none }) = x
  rintro ended kept ⟨hpower, -, hstore, -, hep, hraised, -⟩ ports cleared
  have covered : (x.slot i).coveredSlot = r.coveredSlot := by rw [ended]
  have state : (x.slot i).state = r.state := by rw [ended]
  refine ⟨fun serves => ?_, fun free => by rw [cleared, Blocks.cleared_done_free (covered.trans free)], fun s holds apart => ?_⟩
  · have lost : ∀ reason, LostFor (x.loseInService i reason) i reason := fun reason => by
      rw [Blocks.loseInService, if_pos (state ▸ serves)]
      exact x.lose_lostFor i reason
    rw [cleared, cleared]
    exact ⟨lost .mismatch, lost .silent⟩
  rw [holds] at covered
  obtain ⟨spare, held, others⟩ := x.completeRevert_slots apart
  rw [ended] at spare
  rw [kept s apart] at held
  refine ⟨fun hrev => ?_, fun hrev live => ?_, fun hrev => ?_, fun hrev live => ?_⟩
  · subst hrev
    rw [cleared, Blocks.cleared_done_reverts covered]
    obtain ⟨power, ep, raised, _⟩ := x.completeRevert_frame i s
    refine ⟨spare, held, fun j hj hjs => (others j hj hjs).trans (kept j hj), power.trans hpower, ep.trans hep,
      raised.trans hraised, (x.completeRevert_ports i s).trans ports, fun law k l hl => ?_⟩
    exact Blocks.completeRevert_links (hstore ▸ law) i s ((Blocks.link_congr hstore k).trans hl)
  · subst hrev
    rw [cleared, Blocks.cleared_fresh_reverts covered]
    have live' : ((x.completeRevert i s).slot i).state = .live := by rw [spare]; exact live
    have free : ((x.completeRevert i s).slot i).coveredSlot = none := by rw [spare]
    have load : ((x.completeRevert i s).slot i).coverLoad = none := by rw [spare]
    obtain ⟨hs, hid, hc, hl⟩ := Blocks.cardRestart_same live' (by simp [free])
    have other : ((x.completeRevert i s).cardRestart i).slot s = _ := (Blocks.cardRestart_free live' free apart).trans held
    exact ⟨hs, hid, hc.trans free, hl.trans load, by rw [other], by rw [other], by rw [other]⟩
  · subst hrev
    rw [cleared, Blocks.cleared_done_late covered]
    obtain ⟨reg, _, ep, _⟩ := x.slotInPlace_frame i
    refine ⟨?_, fun j hj => ?_, x.endsDetached_slotInPlace i, ep.trans hep⟩
    · rw [Blocks.slot_modSlot_same, Blocks.slot_congr reg, ended]
    · rw [Blocks.slot_modSlot_other _ _ _ _ hj, Blocks.slot_congr reg, kept j hj]
  · subst hrev
    rw [cleared, Blocks.cleared_fresh_late covered]
    have live' : (x.slot i).state = .live := state.trans live
    obtain ⟨hs, hid, hc, _⟩ := Blocks.cardRestart_same live' (by rw [covered]; exact fun e => apart (Option.some.inj e))
    obtain ⟨mark, lost⟩ := Blocks.cardRestart_held live' covered apart
    rw [kept s apart] at mark lost
    exact ⟨hs, hid, hc.trans covered, mark, lost⟩

end Sys2Proof.Machine
end

section
/-! CERTIFICATE. The occupancy law (R25, R40, R90, R110) is not kept by every step: the laws it is stated with say nothing of
the CLEAR orders outstanding (R117, R119). -/

namespace Sys2Proof.Machine

/-- A plan of one port, in a role. -/
def onePortPlan (role : Role) : Plan :=
  { role, cardType := 1, minRevision := 0, portCount := 1, policy := .keep, admissionRank := 0, inrush := 10, steady := 10,
    rampTime := 10, returnDeadline := 1, mergeFunction := .stored, mergeGroups := .none, coverEnabled := role == .working }

/-- A CLEAR to slot 1 that is marked as placed for a revert still in progress. -/
def strayClear : BusOrder := plainOrder 1 .clear [] (.clear true)

/-- A PENDING link with an end remapped from slot 0 to slot 1. -/
def strayLink : Link :=
  { id := 0, cls := .urgent, seq := 0, epA := { slot := 1, port := 0, home := some 0 },
    epB := { slot := 2, port := 0, home := none }, hset := .h0, index := 0, state := .pending, deferral := none,
    late := false, removal := false, attA := false, attB := false }

/-- Slot 0 is COVERED by the LIVE spare in slot 1 and does not revert, and yet a CLEAR of the spare that is marked as one of a
revert is about to complete DONE. -/
def strayClearState : State :=
  let covered := { SlotRec.reset with plan := some (onePortPlan .working), state := .covered, coverReason := some .late }
  let spare := { SlotRec.reset with
    plan := some (onePortPlan .spare), state := .live, storedTerm := some 1, coveredSlot := some 0,
    coverLoad := some { runs := 1, done := true }, order := some { code := .clear, abandoned := false } }
  let b := ((Blocks.reset.modSlot 0 fun _ => covered).modSlot 1 fun _ => spare).modPower 1 fun w =>
    { w with closed := true, charge := 10 }
  { State.reset with
    pending := [.releaseEnd]
    blk := { b with
      ep := { EpisodeController.reset with shelf := .standby, supply := .up }
      store := { links := [strayLink], cells := [{ highway := 0, index := 0, link := 0 }], seq := some 1 }
      engine := { Engine.reset with queue := [0] }
      bus := { CardBus.reset with
        registryQueue := [strayClear]
        transfer := some { order := strayClear, requester := .registry, phase := .release (.completed .done), given := [],
                           taken := 0, wait := 10 } } } }

theorem strayClearState_store : strayClearState.blk.store.Law := by
  refine ⟨by decide, by decide, fun ⟨highway, index, link⟩ => ?_, by decide, by decide, by decide,
    fun n h => by cases h; decide⟩
  change _ ∈ [HeldCell.mk 0 0 0] ↔ ∃ l ∈ [strayLink], _ ∈ cellsOf l.hset l.index l.id
  simp [mem_cellsOf, strayLink, HighwaySet.highways]

theorem strayClearState_relink : strayClearState.blk.RelinkLaw := by
  refine ⟨by unfold Engine.Law; decide, by decide, by decide, by decide, fun id h => ?_, fun l h => ?_, by decide,
    List.pairwise_singleton _ _⟩
  · rcases h with h | h | h
    · obtain rfl := List.mem_singleton.mp h
      rfl
    · cases h
    · cases h
  · obtain rfl := List.mem_singleton.mp h
    exact ⟨by decide, by decide, iff_of_true (by decide) (.inl rfl), by decide⟩

theorem strayClearState_slots : strayClearState.blk.SlotLaw := by
  refine ⟨by decide +kernel, by decide +kernel, by decide +kernel, by decide +kernel, List.Pairwise.nil, fun h => by cases h⟩

theorem strayClearState_occupancy : strayClearState.blk.OccupancyLaw := by
  unfold Blocks.OccupancyLaw
  decide +kernel

/-- R118: the CLEAR completes, and the end of the link goes home to the COVERED slot, its link still PENDING. -/
theorem strayClearState_step :
    ∃ t, step strayClearState = .next t ∧ (t.blk.slot 0).state = .covered
      ∧ ∃ l ∈ t.blk.store.links, l.endsOn 0 = true ∧ l.state = .pending :=
  ⟨_, rfl, by decide +kernel, by decide +kernel⟩

/-- Refutes O58: where a CLEAR marked for a revert is outstanding for the spare of a slot that does not revert, its DONE takes
the ends home to a COVERED slot. The laws of the premise leave such an order open. -/
theorem not_everyStepKeepsTheOccupancyLaw : ¬ Obligations.EveryStepKeepsTheOccupancyLaw := by
  intro h
  obtain ⟨t, ht, covered, l, hl, ends, pending⟩ := strayClearState_step
  obtain ⟨_, _, _, _, law⟩ := h strayClearState t
    ⟨strayClearState_store, strayClearState_relink, strayClearState_slots, strayClearState_occupancy⟩ ht
  have := law 0 (.inr (.inl covered)) l hl ends
  rw [pending] at this
  cases this

end Sys2Proof.Machine
end

section
/-! SUPPORT. Where a link stands (R20 to R24): the relink law taken apart into the order of the collections and the place of
each link, and what the operations on one link do to each. -/

namespace Sys2Proof.Machine

/-! ### The law taken apart -/

/-- R22: the link has an entry of the in-flight set, of this origin. -/
def Blocks.Flies (b : Blocks) (id : Nat) (o : Origin) : Prop := ∃ f ∈ b.engine.inFlight, f.link = id ∧ f.origin = o

/-- Law 4: the collections that hold an id are the ones the record of its link says; one without a record is in none. -/
def Blocks.Stands (b : Blocks) (id : Nat) : Prop :=
  ((∃ o, b.Flies id o) ↔ ∃ l, b.link id = some l ∧ l.state.flying = true)
    ∧ (id ∈ b.engine.deferred ↔ ∃ l, b.link id = some l ∧ l.state = .deferred)
    ∧ (id ∈ b.engine.queue ↔ ∃ l, b.link id = some l ∧ (l.state = .pending ∨ l.state = .suspect ∨ b.Flies id .queue))
    ∧ ∀ l, b.link id = some l → (l.deferral.isSome = true ↔ l.state = .deferred)

/-- R24: each link of the queue that has a record ranks above every later one. -/
def LinkStore.Ranks (st : LinkStore) (queue : List Nat) : Prop :=
  queue.Pairwise (fun id jd => ∀ l m, st.find id = some l → st.find jd = some m → l.above m = true)

/-- The link store law, laws 5 and 7 and the rank order, over the parts that they speak of. -/
structure Ordering (st : LinkStore) (queue deferred : List Nat) (flight : List InFlight) (window : Nat) : Prop where
  store : st.Law
  window_pos : 1 ≤ window
  window_le : window ≤ 8
  few : flight.length ≤ 8
  queueOnce : queue.Nodup
  deferredOnce : deferred.Nodup
  flightOnce : (flight.map InFlight.link).Nodup
  surveys : ∀ f ∈ flight, f.step = .survey → f.origin = .queue
  ranks : st.Ranks queue

/-- What the relink law asks of the collections as such. -/
abbrev Blocks.Ordered (b : Blocks) : Prop :=
  Ordering b.store b.engine.queue b.engine.deferred b.engine.inFlight b.engine.window

/-- The link store law and the relink law, with the place of each id apart. -/
def Blocks.Relinked (b : Blocks) : Prop := b.Ordered ∧ ∀ k, b.Stands k

/-- The same, but for the place of one link, which is on its way. -/
def Blocks.RelinkedBut (id : Nat) (b : Blocks) : Prop := b.Ordered ∧ ∀ k, k ≠ id → b.Stands k

theorem LinkStore.Law.link_of_mem {b : Blocks} (law : b.store.Law) {l : Link} (hl : l ∈ b.store.links) :
    b.link l.id = some l := by
  obtain ⟨m, hm⟩ := Option.isSome_iff_exists.mp (Blocks.link_isSome.mpr ⟨l, hl, rfl⟩)
  rw [hm, law.link_eq hm hl rfl]

theorem Blocks.mem_of_link {b : Blocks} {id : Nat} {l : Link} (h : b.link id = some l) : l ∈ b.store.links :=
  List.mem_of_find?_eq_some h

theorem Blocks.flies_iff {b : Blocks} {id : Nat} :
    (∃ o, b.Flies id o) ↔ id ∈ b.engine.inFlight.map InFlight.link := by
  simp [Blocks.Flies]

theorem Blocks.Stands.of_none {b : Blocks} {id : Nat} (h : b.link id = none) (hf : id ∉ b.engine.inFlight.map InFlight.link)
    (hd : id ∉ b.engine.deferred) (hq : id ∉ b.engine.queue) : b.Stands id := by
  simp [Blocks.Stands, Blocks.flies_iff, h, hf, hd, hq]

/-- Law 4 for an id whose record is known. -/
theorem Blocks.stands_iff {b : Blocks} {id : Nat} {l : Link} (h : b.link id = some l) :
    b.Stands id ↔ ((∃ o, b.Flies id o) ↔ l.state.flying = true) ∧ (id ∈ b.engine.deferred ↔ l.state = .deferred)
      ∧ (id ∈ b.engine.queue ↔ l.state = .pending ∨ l.state = .suspect ∨ b.Flies id .queue)
      ∧ (l.deferral.isSome = true ↔ l.state = .deferred) := by
  simp [Blocks.Stands, h]

/-- Law 4 for an id without a record: no collection holds it. -/
theorem Blocks.Stands.absent {b : Blocks} {id : Nat} (s : b.Stands id) (h : b.link id = none) :
    (¬∃ o, b.Flies id o) ∧ id ∉ b.engine.deferred ∧ id ∉ b.engine.queue := by
  simpa [Blocks.Stands, h] using s

theorem Blocks.relinked_iff {b : Blocks} : b.Relinked ↔ b.store.Law ∧ b.RelinkLaw := by
  constructor
  · rintro ⟨h, stands⟩
    refine ⟨h.store, ⟨h.window_pos, h.window_le, h.few⟩, h.queueOnce, h.deferredOnce, h.flightOnce, fun id held => ?_,
      fun l hl => ?_, h.surveys, h.ranks⟩
    · obtain ⟨hf, hd, hq, _⟩ := stands id
      rw [← Blocks.flies_iff] at held
      rcases held with held | held | held
      · obtain ⟨l, hl, _⟩ := hq.mp held; simp [hl]
      · obtain ⟨l, hl, _⟩ := hd.mp held; simp [hl]
      · obtain ⟨l, hl, _⟩ := hf.mp held; simp [hl]
    · rw [← Blocks.flies_iff]
      exact (Blocks.stands_iff (h.store.link_of_mem hl)).mp (stands l.id)
  · rintro ⟨law, ⟨lo, hi, few⟩, queueOnce, deferredOnce, flightOnce, table, places, surveys, ranks⟩
    refine ⟨⟨law, lo, hi, few, queueOnce, deferredOnce, flightOnce, surveys, ranks⟩, fun id => ?_⟩
    cases hl : b.link id with
    | none =>
      have out := table id
      rw [hl] at out
      exact .of_none hl (fun hf => by simpa using out (.inr (.inr hf))) (fun hd => by simpa using out (.inr (.inl hd)))
        (fun hq => by simpa using out (.inl hq))
    | some l =>
      obtain rfl := Blocks.link_id hl
      rw [Blocks.stands_iff hl, Blocks.flies_iff]
      exact places l (Blocks.mem_of_link hl)

/-- What leaves the record, the memberships and the entry of an id leaves its place. -/
theorem Blocks.Stands.congr {b c : Blocks} {k : Nat} (s : b.Stands k) (hl : c.link k = b.link k)
    (hq : k ∈ c.engine.queue ↔ k ∈ b.engine.queue) (hd : k ∈ c.engine.deferred ↔ k ∈ b.engine.deferred)
    (hf : ∀ o, c.Flies k o ↔ b.Flies k o) : c.Stands k := by
  simpa only [Blocks.Stands, hl, hq, hd, hf] using s

/-! ### Rank order (R4, R24) -/

/-- R4: a link ranks above every one that does not rank above it and has another sequence. -/
theorem Link.above_of_not {l m : Link} (h : l.above m = false) (hs : l.seq ≠ m.seq) : m.above l = true := by
  simp only [Link.above, Bool.or_eq_false_iff, Bool.and_eq_false_iff, decide_eq_false_iff_not, Bool.or_eq_true,
    Bool.and_eq_true, decide_eq_true_eq, beq_iff_eq, beq_eq_false_iff_ne] at h ⊢
  omega

theorem Link.above_trans {l m n : Link} (h : l.above m = true) (h' : m.above n = true) : l.above n = true := by
  simp only [Link.above, Bool.or_eq_true, Bool.and_eq_true, decide_eq_true_eq, beq_iff_eq] at h h' ⊢
  omega

/-- R5: two records of the table have different sequences. -/
theorem LinkStore.Law.seq_ne {st : LinkStore} (law : st.Law) {l m : Link} (hl : l ∈ st.links) (hm : m ∈ st.links)
    (hne : l.id ≠ m.id) : l.seq ≠ m.seq := by
  obtain ⟨_, _, _, _, seqs, _⟩ := law
  have : Std.Symm fun l m : Link => l.seq ≠ m.seq := ⟨fun _ _ h => h.symm⟩
  exact seqs.forall hl hm (fun e => hne (congrArg Link.id e))

theorem LinkStore.find_id {st : LinkStore} {k : Nat} {l : Link} (h : st.find k = some l) : l.id = k := by
  simpa using List.find?_some h

/-- R10: a deleted record is found no more, and every other is. -/
theorem LinkStore.find_delete (st : LinkStore) (id k : Nat) : (st.delete id).find k = if k = id then none else st.find k := by
  rw [LinkStore.find, LinkStore.delete, List.find?_filter]
  split
  next h => simp [h]
  next h => exact List.find?_congr fun m _ => by by_cases hm : m.id = k <;> simp [hm, h]

/-- R24: a link placed at its rank keeps the order. -/
theorem LinkStore.Ranks.insert {st : LinkStore} (law : st.Law) {l : Link} {queue : List Nat} (found : st.find l.id = some l)
    (out : l.id ∉ queue) (h : st.Ranks queue) : st.Ranks (rankInsert st l queue) := by
  obtain ⟨above, below, rfl, hins, habove, hbelow⟩ := rankInsert_split st l queue
  obtain ⟨ranksA, ranksB, apart⟩ := List.pairwise_append.mp h
  rw [LinkStore.Ranks, hins]
  refine List.pairwise_append.mpr ⟨ranksA, List.pairwise_cons.mpr ⟨fun k hk l' m hl' hm => ?_, ranksB⟩, fun a ha k hk => ?_⟩
  · obtain rfl := Option.some.inj (found.symm.trans hl')
    match below, hk with
    | q :: rest, hk =>
      obtain ⟨n, hn, hln⟩ := hbelow q rest rfl
      rcases List.mem_cons.mp hk with rfl | hk
      · exact Option.some.inj (hn.symm.trans hm) ▸ hln
      · exact Link.above_trans hln ((List.pairwise_cons.mp ranksB).1 k hk n m hn hm)
  · rcases List.mem_cons.mp hk with rfl | hk
    · intro m l' hm hl'
      obtain rfl := Option.some.inj (found.symm.trans hl')
      refine Link.above_of_not (habove a ha m hm) (law.seq_ne (List.mem_of_find?_eq_some found)
        (List.mem_of_find?_eq_some hm) fun e => out ?_)
      rw [e, LinkStore.find_id hm]
      exact List.mem_append_left _ ha
    · exact apart a ha k hk

theorem mem_rankInsert {st : LinkStore} {l : Link} {queue : List Nat} {k : Nat} :
    k ∈ rankInsert st l queue ↔ k = l.id ∨ k ∈ queue := by
  obtain ⟨above, below, rfl, hins, _, _⟩ := rankInsert_split st l queue
  rw [hins]
  simp only [List.mem_append, List.mem_cons]
  tauto

theorem rankInsert_nodup {st : LinkStore} {l : Link} {queue : List Nat} (out : l.id ∉ queue) (h : queue.Nodup) :
    (rankInsert st l queue).Nodup := by
  obtain ⟨above, below, rfl, hins, _, _⟩ := rankInsert_split st l queue
  rw [hins]
  exact List.nodup_middle.mpr (List.nodup_cons.mpr ⟨out, h⟩)

/-- Records found under new ones that rank each other as the old ones did. -/
theorem LinkStore.Ranks.of_find {st st' : LinkStore} {queue : List Nat} {g : Link → Link}
    (found : ∀ k ∈ queue, ∀ l, st'.find k = some l → ∃ m, st.find k = some m ∧ l = g m)
    (hg : ∀ l ∈ st.links, ∀ m ∈ st.links, l.above m = true → (g l).above (g m) = true)
    (h : st.Ranks queue) : st'.Ranks queue := by
  refine h.imp_of_mem fun {id jd} hid hjd hr l m hl hm => ?_
  obtain ⟨l', hl', rfl⟩ := found id hid l hl
  obtain ⟨m', hm', rfl⟩ := found jd hjd m hm
  exact hg l' (List.mem_of_find?_eq_some hl') m' (List.mem_of_find?_eq_some hm') (hr l' m' hl' hm')

/-! ### The collections in order -/

/-- A change of a record that leaves its id, its rank and its cells. -/
structure Link.KeepsRank (l m : Link) : Prop where
  id : m.id = l.id
  cls : m.cls = l.cls
  seq : m.seq = l.seq
  hset : m.hset = l.hset
  index : m.index = l.index

theorem Link.KeepsRank.refl (l : Link) : l.KeepsRank l := ⟨rfl, rfl, rfl, rfl, rfl⟩

theorem Link.KeepsRank.ite {p : Prop} [Decidable p] {l m : Link} (h : l.KeepsRank m) : l.KeepsRank (if p then m else l) := by
  split
  · exact h
  · exact .refl l

namespace Ordering

variable {st : LinkStore} {queue deferred : List Nat} {flight : List InFlight} {window : Nat}

theorem mapLinks {f : Link → Link} (hf : ∀ l : Link, l.KeepsRank (f l)) (h : Ordering st queue deferred flight window) :
    Ordering { st with links := st.links.map f } queue deferred flight window := by
  refine { h with
    store := h.store.mapLinks (fun l => (hf l).id) (fun l => (hf l).seq) (fun l => (hf l).hset) (fun l => (hf l).index)
    ranks := h.ranks.of_find (g := f) (fun k _ l hl => ?_) fun l _ m _ hr => ?_ }
  · simp only [LinkStore.find, List.find?_map, Function.comp_def, (hf _).id] at hl
    obtain ⟨m, hm, rfl⟩ := Option.map_eq_some_iff.mp hl
    exact ⟨m, hm, rfl⟩
  · simpa only [Link.above, (hf _).cls, (hf _).seq] using hr

theorem delete (id : Nat) (h : Ordering st queue deferred flight window) :
    Ordering (st.delete id) queue deferred flight window := by
  refine { h with
    store := h.store.delete id
    ranks := h.ranks.of_find (g := fun l => l) (fun k _ l hl => ⟨l, ?_, rfl⟩) fun _ _ _ _ hr => hr }
  rw [LinkStore.find_delete] at hl
  split at hl
  · cases hl
  · exact hl

theorem filterQueue (p : Nat → Bool) (h : Ordering st queue deferred flight window) :
    Ordering st (queue.filter p) deferred flight window :=
  { h with queueOnce := h.queueOnce.filter p, ranks := List.Pairwise.filter p h.ranks }

theorem filterDeferred (p : Nat → Bool) (h : Ordering st queue deferred flight window) :
    Ordering st queue (deferred.filter p) flight window :=
  { h with deferredOnce := h.deferredOnce.filter p }

theorem filterFlight (p : InFlight → Bool) (h : Ordering st queue deferred flight window) :
    Ordering st queue deferred (flight.filter p) window :=
  { h with
    few := (List.length_filter_le p flight).trans h.few
    flightOnce := h.flightOnce.sublist (List.filter_sublist.map _)
    surveys := fun f hf => h.surveys f (List.mem_of_mem_filter hf) }

/-- R24: a link of the table that the queue does not hold joins it at its rank. -/
theorem join {l : Link} (found : st.find l.id = some l) (out : l.id ∉ queue)
    (h : Ordering st queue deferred flight window) : Ordering st (rankInsert st l queue) deferred flight window :=
  { h with queueOnce := rankInsert_nodup out h.queueOnce, ranks := h.ranks.insert h.store found out }

/-- R21: a link the deferred list does not hold joins its tail. -/
theorem defer {id : Nat} (out : id ∉ deferred) (h : Ordering st queue deferred flight window) :
    Ordering st queue (deferred ++ [id]) flight window :=
  { h with deferredOnce := by simpa [List.nodup_append] using ⟨h.deferredOnce, fun _ hk e => out (e ▸ hk)⟩ }

/-- R22: a link joins an in-flight set that does not hold it and is not full. -/
theorem enter {f : InFlight} (out : f.link ∉ flight.map InFlight.link) (room : flight.length < window)
    (survey : f.step = .survey → f.origin = .queue) (h : Ordering st queue deferred flight window) :
    Ordering st queue deferred (flight ++ [f]) window :=
  { h with
    few := by have := h.window_le; simp only [List.length_append, List.length_singleton]; omega
    flightOnce := by
      rw [List.map_append, List.map_singleton, List.nodup_append]
      exact ⟨h.flightOnce, List.nodup_singleton _, fun a ha b hb e => out (List.mem_singleton.mp hb ▸ e ▸ ha)⟩
    surveys := fun g hg => by
      rcases List.mem_append.mp hg with hg | hg
      · exact h.surveys g hg
      · exact List.mem_singleton.mp hg ▸ survey }

/-- R22: an entry changes that stays its link's and of its origin, and does not begin a survey. -/
theorem modEntry {g : InFlight → InFlight} (id : Nat) (hlink : ∀ f, (g f).link = f.link)
    (horigin : ∀ f, (g f).origin = f.origin) (hstep : ∀ f, (g f).step = .survey → f.step = .survey)
    (h : Ordering st queue deferred flight window) :
    Ordering st queue deferred (flight.map (fun f => if f.link = id then g f else f)) window := by
  have ids : (flight.map (fun f => if f.link = id then g f else f)).map InFlight.link = flight.map InFlight.link := by
    rw [List.map_map]
    exact List.map_congr_left fun f _ => by simp only [Function.comp_apply]; split <;> simp [hlink]
  refine { h with few := by simpa using h.few, flightOnce := ids ▸ h.flightOnce, surveys := fun f hf => ?_ }
  obtain ⟨e, he, rfl⟩ := List.mem_map.mp hf
  split
  · rw [horigin]; exact fun hs => h.surveys e he (hstep e hs)
  · exact h.surveys e he

end Ordering

end Sys2Proof.Machine
end

section
/-! SUPPORT. The relink law under the operations of the relink engine (R20 to R47, R57). -/

namespace Sys2Proof.Machine

/-! ### The place of a link, by its state -/

theorem Blocks.stands_flying {b : Blocks} {id : Nat} {l : Link} (h : b.link id = some l) (fl : l.state.flying = true) :
    b.Stands id ↔ (∃ o, b.Flies id o) ∧ id ∉ b.engine.deferred ∧ (id ∈ b.engine.queue ↔ b.Flies id .queue)
      ∧ l.deferral = none := by
  rw [Blocks.stands_iff h]
  cases hs : l.state <;> simp_all [LinkState.flying]

theorem Blocks.stands_queued {b : Blocks} {id : Nat} {l : Link} (h : b.link id = some l)
    (hs : l.state = .pending ∨ l.state = .suspect) :
    b.Stands id ↔ (∀ o, ¬b.Flies id o) ∧ id ∉ b.engine.deferred ∧ id ∈ b.engine.queue ∧ l.deferral = none := by
  rw [Blocks.stands_iff h]
  rcases hs with hs | hs <;> simp [hs, LinkState.flying]

theorem Blocks.stands_deferred {b : Blocks} {id : Nat} {l : Link} (h : b.link id = some l) (hs : l.state = .deferred) :
    b.Stands id ↔ (∀ o, ¬b.Flies id o) ∧ id ∈ b.engine.deferred ∧ id ∉ b.engine.queue ∧ l.deferral.isSome = true := by
  rw [Blocks.stands_iff h]
  simp +contextual [hs, LinkState.flying]

theorem Blocks.stands_apart {b : Blocks} {id : Nat} {l : Link} (h : b.link id = some l)
    (hs : l.state = .carried ∨ l.state = .releasing) :
    b.Stands id ↔ (∀ o, ¬b.Flies id o) ∧ id ∉ b.engine.deferred ∧ id ∉ b.engine.queue ∧ l.deferral = none := by
  rw [Blocks.stands_iff h]
  rcases hs with hs | hs <;> simp +contextual [hs, LinkState.flying]

/-! ### What the operations on one link do to the collections -/

theorem Blocks.flies_leaveInFlight {b : Blocks} {id k : Nat} {o : Origin} :
    (b.leaveInFlight id).Flies k o ↔ k ≠ id ∧ b.Flies k o := by
  simp only [Blocks.Flies, Blocks.leaveInFlight, Blocks.withdraw, Blocks.filterBacklog, List.mem_filter, bne_iff_ne]
  constructor
  · rintro ⟨f, ⟨hf, hne⟩, rfl, ho⟩; exact ⟨hne, f, hf, rfl, ho⟩
  · rintro ⟨hne, f, hf, rfl, ho⟩; exact ⟨f, ⟨hf, hne⟩, rfl, ho⟩

theorem Blocks.flies_modEntry {b : Blocks} {id k : Nat} {o : Origin} {g : InFlight → InFlight}
    (hlink : ∀ f, (g f).link = f.link) (horigin : ∀ f, (g f).origin = f.origin) :
    (b.modEntry id g).Flies k o ↔ b.Flies k o := by
  have kept : ∀ f, (if f.link = id then g f else f).link = f.link ∧ (if f.link = id then g f else f).origin = f.origin :=
    fun f => by split <;> simp [hlink, horigin]
  simp [Blocks.Flies, Blocks.modEntry, kept]

@[simp] theorem Blocks.mem_leaveQueue {b : Blocks} {id k : Nat} :
    k ∈ (b.leaveQueue id).engine.queue ↔ k ∈ b.engine.queue ∧ k ≠ id := by
  simp [Blocks.leaveQueue]

@[simp] theorem Blocks.mem_leaveDeferred {b : Blocks} {id k : Nat} :
    k ∈ (b.leaveDeferred id).engine.deferred ↔ k ∈ b.engine.deferred ∧ k ≠ id := by
  simp [Blocks.leaveDeferred]

/-- R24: joining the queue moves the queue alone. -/
theorem Blocks.joinQueue_engine (b : Blocks) (id : Nat) :
    (b.joinQueue id).engine = { b.engine with queue := (b.joinQueue id).engine.queue } := by
  unfold Blocks.joinQueue
  split
  · rfl
  · split <;> rfl

theorem Blocks.mem_joinQueue {b : Blocks} {id k : Nat} :
    k ∈ (b.joinQueue id).engine.queue ↔ k ∈ b.engine.queue ∨ (k = id ∧ (b.link id).isSome = true) := by
  unfold Blocks.joinQueue
  split
  next held => exact ⟨.inl, fun h => h.elim (fun h => h) fun h => h.1 ▸ held⟩
  · split
    next l hl => simp [mem_rankInsert, hl, Blocks.link_id hl, or_comm]
    next hl => simp [hl]

theorem Blocks.flies_joinQueue {b : Blocks} {id k : Nat} {o : Origin} : (b.joinQueue id).Flies k o ↔ b.Flies k o := by
  rw [Blocks.Flies, Blocks.joinQueue_engine]
  rfl

theorem Blocks.Ordered.joinQueue {b : Blocks} (id : Nat) (h : b.Ordered) : (b.joinQueue id).Ordered := by
  unfold Blocks.joinQueue
  split
  · exact h
  next out =>
    split
    next l hl =>
      obtain rfl := Blocks.link_id hl
      exact Ordering.join hl out h
    · exact h

/-! ### The law but for one link -/

theorem Blocks.Relinked.but {b : Blocks} (h : b.Relinked) (id : Nat) : b.RelinkedBut id := ⟨h.1, fun k _ => h.2 k⟩

namespace Blocks.RelinkedBut

variable {b : Blocks} {id : Nat}

/-- The link has come to the place its record says. -/
theorem close (h : b.RelinkedBut id) (s : b.Stands id) : b.Relinked :=
  ⟨h.1, fun k => if hk : k = id then hk ▸ s else h.2 k hk⟩

theorem leaveInFlight (h : b.RelinkedBut id) : (b.leaveInFlight id).RelinkedBut id :=
  ⟨h.1.filterFlight _, fun k hk => (h.2 k hk).congr rfl Iff.rfl Iff.rfl fun o => by simp [Blocks.flies_leaveInFlight, hk]⟩

theorem leaveQueue (h : b.RelinkedBut id) : (b.leaveQueue id).RelinkedBut id :=
  ⟨h.1.filterQueue _, fun k hk => (h.2 k hk).congr rfl (by simp [hk]) Iff.rfl fun _ => Iff.rfl⟩

theorem leaveDeferred (h : b.RelinkedBut id) : (b.leaveDeferred id).RelinkedBut id :=
  ⟨h.1.filterDeferred _, fun k hk => (h.2 k hk).congr rfl Iff.rfl (by simp [hk]) fun _ => Iff.rfl⟩

theorem joinQueue (h : b.RelinkedBut id) : (b.joinQueue id).RelinkedBut id := by
  refine ⟨h.1.joinQueue id, fun k hk => (h.2 k hk).congr (b.link_joinQueue id k) (by simp [Blocks.mem_joinQueue, hk]) ?_
    fun o => Blocks.flies_joinQueue⟩
  rw [Blocks.joinQueue_engine]

theorem modLink {f : Link → Link} (hf : ∀ l : Link, l.KeepsRank (f l)) (h : b.RelinkedBut id) :
    (b.modLink id f).RelinkedBut id :=
  ⟨h.1.mapLinks fun l => (hf l).ite, fun k hk =>
    (h.2 k hk).congr (Blocks.link_modLink_other (fun l => (hf l).id) hk) Iff.rfl Iff.rfl fun _ => Iff.rfl⟩

theorem setLinkState (st : LinkState) (h : b.RelinkedBut id) : (b.setLinkState id st).RelinkedBut id :=
  h.modLink fun _ => ⟨rfl, rfl, rfl, rfl, rfl⟩

/-- R21: the link joins the tail of the deferred list. -/
theorem joinDeferred (h : b.RelinkedBut id) (out : id ∉ b.engine.deferred) :
    Blocks.RelinkedBut id { b with engine := { b.engine with deferred := b.engine.deferred ++ [id] } } :=
  ⟨h.1.defer out, fun k hk => (h.2 k hk).congr rfl Iff.rfl (by simp [hk]) fun _ => Iff.rfl⟩

/-- A DEFERRED link has come to its place once it is on the list. -/
theorem onList (h : b.RelinkedBut id) (out : id ∉ b.engine.deferred) {l : Link} (hl : b.link id = some l)
    (hs : l.state = .deferred) (reason : l.deferral.isSome = true) (nf : ∀ o, ¬b.Flies id o) (nq : id ∉ b.engine.queue) :
    Blocks.Relinked { b with engine := { b.engine with deferred := b.engine.deferred ++ [id] } } :=
  (h.joinDeferred out).close (Iff.mpr (Blocks.stands_deferred (by exact hl) hs)
    ⟨nf, List.mem_append_right _ (List.mem_singleton_self id), nq, reason⟩)

end Blocks.RelinkedBut

namespace Blocks.Relinked

variable {b : Blocks}

theorem law (h : b.Relinked) : b.store.Law := h.1.store

/-- Neither the link store nor the collections move. -/
theorem same {c : Blocks} (h : b.Relinked) (hstore : c.store = b.store) (hengine : c.engine = b.engine) : c.Relinked := by
  obtain ⟨ord, stands⟩ := h
  refine ⟨by rw [Blocks.Ordered, hstore, hengine]; exact ord, fun k => (stands k).congr (Blocks.link_congr hstore k) ?_ ?_ ?_⟩
  · rw [hengine]
  · rw [hengine]
  · intro o; rw [Blocks.Flies, hengine]; rfl

theorem ite {p : Prop} [Decidable p] {x y : Blocks} (hx : x.Relinked) (hy : y.Relinked) :
    (if p then x else y).Relinked := by
  split
  · exact hx
  · exact hy

theorem foldl {α : Type} {f : Blocks → α → Blocks} (hf : ∀ b x, b.Relinked → (f b x).Relinked) (l : List α)
    (h : b.Relinked) : (l.foldl f b).Relinked := by
  induction l generalizing b with
  | nil => exact h
  | cons x l ih => exact ih (hf b x h)

/-! ### Marks of records and entries -/

/-- A change of every record that leaves its rank, its state and whether it is deferred. -/
theorem mapLinks {f : Link → Link} (hf : ∀ l : Link, l.KeepsRank (f l)) (hs : ∀ l, (f l).state = l.state)
    (hd : ∀ l, (f l).deferral.isSome = l.deferral.isSome) (h : b.Relinked) : (b.mapLinks f).Relinked := by
  refine ⟨h.1.mapLinks hf, fun k => ?_⟩
  have stands := h.2 k
  have link := Blocks.link_mapLinks (b := b) (fun l => (hf l).id) k
  cases hl : b.link k with
  | none =>
    rw [hl] at link
    obtain ⟨nf, nd, nq⟩ := stands.absent hl
    exact .of_none link (Blocks.flies_iff.not.mp nf) nd nq
  | some l =>
    rw [hl] at link
    rw [Blocks.stands_iff link, hs, hd]
    exact (Blocks.stands_iff hl).mp stands

theorem modLink (id : Nat) {f : Link → Link} (hf : ∀ l : Link, l.KeepsRank (f l)) (hs : ∀ l, (f l).state = l.state)
    (hd : ∀ l, (f l).deferral.isSome = l.deferral.isSome) (h : b.Relinked) : (b.modLink id f).Relinked :=
  h.mapLinks (fun l => (hf l).ite) (fun l => by split <;> simp [hs]) (fun l => by split <;> simp [hd])

theorem modEntry {g : InFlight → InFlight} (id : Nat) (hlink : ∀ f, (g f).link = f.link)
    (horigin : ∀ f, (g f).origin = f.origin) (hstep : ∀ f, (g f).step = .survey → f.step = .survey) (h : b.Relinked) :
    (b.modEntry id g).Relinked :=
  ⟨h.1.modEntry id hlink horigin hstep, fun k => (h.2 k).congr rfl Iff.rfl Iff.rfl fun _ =>
    Blocks.flies_modEntry hlink horigin⟩

theorem withdraw (id : Nat) (h : b.Relinked) : (b.withdraw id).Relinked := h

theorem putBacklog (os : List BusOrder) (h : b.Relinked) : (b.putBacklog os).Relinked := h

theorem setHold (t : Option HoldTimer) (h : b.Relinked) : (b.setHold t).Relinked := h

theorem tally (f : Episode → Episode) (h : b.Relinked) : (b.tally f).Relinked := h

theorem raise (e : Event) (h : b.Relinked) : (b.raise e).Relinked := h

theorem modSlot (i : SlotId) (f : SlotRec → SlotRec) (h : b.Relinked) : (b.modSlot i f).Relinked := h

theorem modPower (i : SlotId) (f : PowerRec → PowerRec) (h : b.Relinked) : (b.modPower i f).Relinked := h

theorem detachSlot (i : SlotId) (h : b.Relinked) : (b.detachSlot i).Relinked :=
  h.mapLinks (fun _ => ⟨rfl, rfl, rfl, rfl, rfl⟩) (fun _ => rfl) fun _ => rfl

theorem setAttached (id : Nat) (e : LinkEnd) (v : Bool) (h : b.Relinked) :
    (b.modLink id (fun l => l.setAttached e v)).Relinked := by
  refine h.modLink id (fun l => ?_) (fun l => ?_) fun l => ?_
  · cases e <;> exact ⟨rfl, rfl, rfl, rfl, rfl⟩
  · cases e <;> rfl
  · cases e <;> rfl

theorem detachEnd (id : Nat) (e : LinkEnd) (h : b.Relinked) : (b.detachEnd id e).Relinked :=
  setAttached (b := b.filterBacklog _) id e false h

theorem switchOpened (i : SlotId) (h : b.Relinked) : (b.switchOpened i).Relinked := h.detachSlot i

theorem remapLinks (i spare : SlotId) (h : b.Relinked) : (b.remapLinks i spare).Relinked :=
  h.mapLinks (fun _ => ⟨rfl, rfl, rfl, rfl, rfl⟩) (fun _ => rfl) fun _ => rfl

theorem restoreLinks (s : SlotId) (h : b.Relinked) : (b.restoreLinks s).Relinked :=
  h.mapLinks (fun _ => ⟨rfl, rfl, rfl, rfl, rfl⟩) (fun _ => rfl) fun _ => rfl

/-! ### Links that change their place -/

/-- R41, R42, R46: a released link is in no collection. -/
theorem release (id : Nat) (h : b.Relinked) : (b.release id).Relinked := by
  have gone : (b.release id).RelinkedBut id := (h.but id).leaveInFlight.leaveQueue.leaveDeferred.modLink
    fun _ => ⟨rfl, rfl, rfl, rfl, rfl⟩
  have nf : ∀ o, ¬(b.release id).Flies id o := fun o hf => (Blocks.flies_leaveInFlight.mp hf).1 rfl
  have nq : id ∉ (b.release id).engine.queue := by rw [Blocks.release_eq]; simp
  have nd : id ∉ (b.release id).engine.deferred := by rw [Blocks.release_eq]; simp
  refine gone.close ?_
  cases hl : b.link id with
  | none =>
    have link : (b.release id).link id = none := by
      rw [Blocks.release, Blocks.modLink, Blocks.link_mapLinks (by intro l; split <;> rfl)]
      exact Option.map_eq_none_iff.mpr hl
    exact .of_none link (Blocks.flies_iff.not.mp (fun ⟨o, hf⟩ => nf o hf)) nd nq
  | some l => exact (Blocks.stands_apart (Blocks.link_release_same hl) (.inr rfl)).mpr ⟨nf, nd, nq, rfl⟩

/-- R35, R36: a link that is not on the deferred list joins its tail. -/
theorem defer (t id : Nat) (reason : DeferReason) (out : ∀ l, b.link id = some l → l.state ≠ .deferred) (h : b.Relinked) :
    (b.defer t id reason).Relinked := by
  unfold Blocks.defer
  cases hl : b.link id with
  | none => exact h
  | some l =>
    dsimp only
    have nd : id ∉ b.engine.deferred := fun hd => out l hl (((Blocks.stands_iff hl).mp (h.2 id)).2.1.mp hd)
    have but := (h.but id).leaveInFlight.leaveQueue.modLink
      (f := fun l => { l with state := .deferred, deferral := some { reason, since := t } })
      fun _ => ⟨rfl, rfl, rfl, rfl, rfl⟩
    have link := Blocks.link_modLink_same (b := (b.leaveInFlight id).leaveQueue id)
      (f := fun l => { l with state := .deferred, deferral := some { reason, since := t } }) (fun _ => rfl) hl
    have nf : ∀ o, ¬((b.leaveInFlight id).leaveQueue id).Flies id o := fun o hf => (Blocks.flies_leaveInFlight.mp hf).1 rfl
    have nq : id ∉ ((b.leaveInFlight id).leaveQueue id).engine.queue := fun hq => (Blocks.mem_leaveQueue.mp hq).2 rfl
    exact but.onList nd link rfl rfl nf nq

/-- R40: a link that is not deferred leaves the in-flight set for the restore queue. -/
theorem requeue (id : Nat) {l : Link} (hl : b.link id = some l) (nd : l.deferral = none) (h : b.Relinked)
    {c : Blocks} (hc : c.RelinkedBut id) (nf : ∀ o, ¬c.Flies id o) (hd : c.engine.deferred = b.engine.deferred)
    (link : c.link id = some { l with state := .pending }) (hq : id ∈ c.engine.queue) : c.Relinked := by
  refine hc.close ((Blocks.stands_queued link (.inl rfl)).mpr ⟨nf, fun hc => ?_, hq, nd⟩)
  have deferred := ((Blocks.stands_iff hl).mp (h.2 id)).2.1.mp (hd ▸ hc)
  have := ((Blocks.stands_iff hl).mp (h.2 id)).2.2.2.mpr deferred
  simp [nd] at this

theorem returnLink (id : Nat) (h : b.Relinked) : (b.returnLink id).Relinked := by
  unfold Blocks.returnLink
  cases hl : b.link id with
  | none => exact h
  | some l =>
    have joins : ∀ {c : Blocks}, c.link id = some { l with state := .pending } → id ∈ (c.joinQueue id).engine.queue := fun hc =>
      Blocks.mem_joinQueue.mpr (.inr ⟨rfl, by simp [hc]⟩)
    have deferred : ∀ c : Blocks, (c.joinQueue id).engine.deferred = c.engine.deferred := fun c => by
      rw [Blocks.joinQueue_engine]
    have apart : ∀ {c : Blocks}, (∀ o, ¬c.Flies id o) → ∀ o, ¬(c.joinQueue id).Flies id o := fun nf o hf =>
      nf o (Blocks.flies_joinQueue.mp hf)
    dsimp only
    cases hs : l.state
    case verifying | preparing | ready | activating =>
      have nd := ((Blocks.stands_flying hl (by rw [hs]; rfl)).mp (h.2 id)).2.2.2
      dsimp only
      split
      · exact h.release id
      · have link := Blocks.link_setLinkState_same (b := b.leaveInFlight id) .pending hl
        exact h.requeue id hl nd ((h.but id).leaveInFlight.setLinkState .pending).joinQueue
          (apart fun o hf => (Blocks.flies_leaveInFlight.mp hf).1 rfl) (deferred _)
          (by rw [Blocks.link_joinQueue]; exact link) (joins link)
    case suspect =>
      obtain ⟨nf, -, hq, nd⟩ := (Blocks.stands_queued hl (.inr hs)).mp (h.2 id)
      exact h.requeue id hl nd ((h.but id).setLinkState .pending) nf rfl (Blocks.link_setLinkState_same .pending hl) hq
    case carried =>
      dsimp only
      obtain ⟨nf, -, -, nd⟩ := (Blocks.stands_apart hl (.inl hs)).mp (h.2 id)
      have link := Blocks.link_setLinkState_same (b := b) .pending hl
      exact h.requeue id hl nd ((h.but id).setLinkState .pending).joinQueue
        (apart nf) (deferred _) (by rw [Blocks.link_joinQueue]; exact link)
        (joins link)
    case pending | deferred | releasing => exact h

theorem slotInPlace (i : SlotId) (h : b.Relinked) : (b.slotInPlace i).Relinked :=
  foldl (fun _ id h => h.returnLink id) _ (h.detachSlot i)

theorem coverReport (s : SlotId) (h : b.Relinked) : (b.coverReport s).Relinked :=
  foldl (fun _ id h => h.returnLink id) _ h

theorem dropLinks (p : Link → Bool) (h : b.Relinked) : (b.dropLinks p).Relinked := by
  refine foldl (fun b id h => ?_) _ h
  unfold Blocks.dropLink
  split
  · exact h
  · exact h.release id

/-- R32, R33, R65: a link in flight becomes CARRIED, in no collection. -/
theorem carried {id : Nat} {l : Link} (hl : b.link id = some l) (fl : l.state.flying = true) {f : Link → Link}
    (hf : ∀ l : Link, l.KeepsRank (f l)) (hs : ∀ l, (f l).state = .carried) (hd : ∀ l, (f l).deferral = l.deferral)
    (h : b.Relinked) : (((b.leaveInFlight id).leaveQueue id).modLink id f).Relinked := by
  obtain ⟨-, out, -, nd⟩ := (Blocks.stands_flying hl fl).mp (h.2 id)
  refine ((h.but id).leaveInFlight.leaveQueue.modLink hf).close ?_
  refine (Blocks.stands_apart (Blocks.link_modLink_same (b := (b.leaveInFlight id).leaveQueue id) (fun l => (hf l).id) hl)
    (.inl (hs l))).mpr ⟨fun o hf => (Blocks.flies_leaveInFlight.mp hf).1 rfl, out, ?_, (hd l).trans nd⟩
  exact fun hq => (Blocks.mem_leaveQueue.mp hq).2 rfl

theorem carry (t : Nat) {f : InFlight} {l : Link} (hl : b.link f.link = some l) (fl : l.state.flying = true)
    (h : b.Relinked) : (b.carry t f).Relinked := by
  unfold Blocks.carry
  rw [hl]
  dsimp only
  have own : b.link l.id = some l := (Blocks.link_id hl).symm ▸ hl
  have carried : (((b.leaveInFlight l.id).leaveQueue l.id).setLinkState l.id .carried).Relinked :=
    h.carried own fl (fun _ => ⟨rfl, rfl, rfl, rfl, rfl⟩) (fun _ => rfl) fun _ => rfl
  cases f.origin
  case queue =>
    dsimp only
    split
    · exact carried
    · exact carried
  case deferred => exact carried

end Blocks.Relinked

end Sys2Proof.Machine
end

section
/-! SUPPORT. The relink law under starting, activating, holding, refusing and releasing links, and under the outcomes of the
engine's orders (R26 to R45, R51, R64, R65). -/

namespace Sys2Proof.Machine

/-! ### Entries -/

theorem InFlight.note_link (f : InFlight) (e : LinkEnd) (out : OrderOutcome) : (f.note e out).link = f.link := by
  cases e <;> rfl

theorem InFlight.note_origin (f : InFlight) (e : LinkEnd) (out : OrderOutcome) : (f.note e out).origin = f.origin := by
  cases e <;> rfl

theorem InFlight.note_step (f : InFlight) (e : LinkEnd) (out : OrderOutcome) : (f.note e out).step = f.step := by
  cases e <;> rfl

theorem InFlight.noteRecord_link (f : InFlight) (e : LinkEnd) (a : Option Attachment) : (f.noteRecord e a).link = f.link := by
  cases e <;> rfl

theorem InFlight.noteRecord_origin (f : InFlight) (e : LinkEnd) (a : Option Attachment) :
    (f.noteRecord e a).origin = f.origin := by
  cases e <;> rfl

theorem InFlight.noteRecord_step (f : InFlight) (e : LinkEnd) (a : Option Attachment) : (f.noteRecord e a).step = f.step := by
  cases e <;> rfl

theorem Blocks.entry_mem {b : Blocks} {id : Nat} {f : InFlight} (h : b.entry id = some f) :
    f ∈ b.engine.inFlight ∧ f.link = id :=
  ⟨List.mem_of_find?_eq_some h, by simpa using List.find?_some h⟩

/-! ### What the start rule and the hold timer choose -/

/-- R27: a choice gives a PENDING or SUSPECT link of the queue, or one of the deferred list to prepare. -/
def Blocks.Startable (b : Blocks) (c : Start) (l : Link) : Prop :=
  c.origin = .queue ∧ c.id ∈ b.engine.queue ∧ (l.state = .pending ∨ l.state = .suspect)
    ∨ c.origin = .deferred ∧ c.survey = false ∧ c.id ∈ b.engine.deferred

theorem Blocks.link_of_find {b : Blocks} {p : Link → Bool} {ids : List Nat} {id : Nat}
    (h : ids.find? (fun id => (b.link id).any p) = some id) : id ∈ ids ∧ ∃ l, b.link id = some l ∧ p l = true :=
  ⟨List.mem_of_find?_eq_some h, (Option.any_eq_true _ _).mp (List.find?_some (p := fun id => (b.link id).any p) h)⟩

theorem Blocks.startChoice_startable {b : Blocks} {c : Start} (h : b.startChoice = some c) :
    ∃ l, b.link c.id = some l ∧ b.Startable c l := by
  unfold Blocks.startChoice at h
  split at h
  next id hid =>
    cases h
    obtain ⟨mem, l, hl, hv⟩ := Blocks.link_of_find hid
    simp only [Blocks.verifiable, Bool.and_eq_true, beq_iff_eq] at hv
    obtain ⟨⟨⟨suspect, -⟩, -⟩, -⟩ := hv
    exact ⟨l, hl, .inl ⟨rfl, mem, .inr suspect⟩⟩
  · split at h
    next id hid =>
      cases h
      obtain ⟨mem, l, hl, hv⟩ := Blocks.link_of_find hid
      simp only [Bool.and_eq_true, beq_iff_eq] at hv
      exact ⟨l, hl, .inl ⟨rfl, List.mem_of_mem_take mem, .inl hv.1⟩⟩
    · split at h
      next id hid =>
        cases h
        obtain ⟨mem, l, hl, -⟩ := Blocks.link_of_find hid
        exact ⟨l, hl, .inr ⟨rfl, rfl, mem⟩⟩
      · cases h

/-- R34: the hold timer is due for a PENDING or SUSPECT head. -/
theorem Blocks.holdDue_some {b : Blocks} {h : Nat} (due : b.holdDue = some h) :
    ∃ rest l, b.engine.queue = h :: rest ∧ b.ep.shelf.holds = true ∧ b.link h = some l
      ∧ (l.state = .pending ∨ l.state = .suspect) ∧ b.eligible l = false := by
  unfold Blocks.holdDue at due
  split at due
  · cases due
  next head rest hq =>
    split at due
    next l hl =>
      split at due
      next c =>
        cases due
        obtain ⟨holds, state, late⟩ := c
        exact ⟨rest, l, hq, holds, hl, state, late⟩
      · cases due
    · cases due

namespace Blocks.RelinkedBut

variable {b : Blocks} {id : Nat}

/-- R22: the link enters the in-flight set. -/
theorem enter {f : InFlight} (h : b.RelinkedBut id) (hf : f.link = id) (out : id ∉ b.engine.inFlight.map InFlight.link)
    (room : b.engine.inFlight.length < b.engine.window) (survey : f.step = .survey → f.origin = .queue) :
    Blocks.RelinkedBut id { b with engine := { b.engine with inFlight := b.engine.inFlight ++ [f] } } := by
  subst hf
  refine ⟨h.1.enter out room survey, fun k hk => (h.2 k hk).congr rfl Iff.rfl Iff.rfl fun o => ?_⟩
  simp only [Blocks.Flies, List.mem_append, List.mem_singleton]
  constructor
  · rintro ⟨g, hg | rfl, hlink, ho⟩
    · exact ⟨g, hg, hlink, ho⟩
    · exact absurd hlink.symm hk
  · rintro ⟨g, hg, hlink, ho⟩
    exact ⟨g, .inl hg, hlink, ho⟩

end Blocks.RelinkedBut

namespace Blocks.Relinked

variable {b : Blocks}

/-- R20, R22: a link that is in flight goes on to another state in flight. -/
theorem flyOn {id : Nat} {l : Link} (hl : b.link id = some l) (fl : l.state.flying = true) {st : LinkState}
    (on : st.flying = true) (h : b.Relinked) : (b.setLinkState id st).Relinked := by
  refine ((h.but id).setLinkState st).close ?_
  exact (Blocks.stands_flying (Blocks.link_setLinkState_same st hl) on).mpr ((Blocks.stands_flying hl fl).mp (h.2 id))

/-- R22: the entry of a link takes up a step that is no survey. -/
theorem takeStep (id : Nat) {step : EngineStep} (other : step ≠ .survey) (h : b.Relinked) :
    (b.modEntry id (fun f => { f with step, outA := none, outB := none })).Relinked :=
  h.modEntry id (fun _ => rfl) (fun _ => rfl) fun _ hs => absurd hs other

/-- R22: the link of an entry is in flight. -/
theorem flying_of_entry {id : Nat} {l : Link} {f : InFlight} (h : b.Relinked) (he : b.entry id = some f)
    (hl : b.link id = some l) : l.state.flying = true := by
  obtain ⟨hf, rfl⟩ := Blocks.entry_mem he
  exact ((Blocks.stands_iff hl).mp (h.2 f.link)).1.mp ⟨f.origin, f, hf, rfl, rfl⟩

theorem verify {id : Nat} {l : Link} (hl : b.link id = some l) (fl : l.state.flying = true) (h : b.Relinked) :
    (b.verify id).Relinked :=
  (h.carried hl fl (f := fun l => { l with state := .carried, attA := true, attB := true })
    (fun _ => ⟨rfl, rfl, rfl, rfl, rfl⟩) (fun _ => rfl) fun _ => rfl).tally _

/-- R51, R65: a link of origin QUEUE leaves the in-flight set for the queue that still holds it. -/
theorem standBack {id : Nat} {l : Link} (hl : b.link id = some l) (fl : l.state.flying = true) (queued : b.Flies id .queue)
    (h : b.Relinked) : ((b.leaveInFlight id).setLinkState id .pending).Relinked := by
  obtain ⟨-, -, hq, nd⟩ := (Blocks.stands_flying hl fl).mp (h.2 id)
  exact h.requeue id hl nd ((h.but id).leaveInFlight.setLinkState .pending)
    (fun o hf => (Blocks.flies_leaveInFlight.mp hf).1 rfl) rfl
    (Blocks.link_setLinkState_same (b := b.leaveInFlight id) .pending hl) (hq.mpr queued)

/-! ### Starting, activating, holding -/

theorem start {c : Start} {l : Link} (hl : b.link c.id = some l) (startable : b.Startable c l)
    (room : b.engine.inFlight.length < b.engine.window) (h : b.Relinked) : (b.start c).Relinked := by
  have flies : ∀ {x : Blocks} {f : InFlight}, f.link = c.id →
      Blocks.Flies { x with engine := { x.engine with inFlight := x.engine.inFlight ++ [f] } } c.id f.origin := fun hf =>
    ⟨_, List.mem_append_right _ (List.mem_singleton_self _), hf, rfl⟩
  have on : LinkState.flying (if c.survey = true then .verifying else .preparing) = true := by split <;> rfl
  unfold Blocks.start
  rw [hl]
  dsimp only
  generalize (if c.survey = true then LinkState.verifying else LinkState.preparing) = st at on ⊢
  rcases startable with ⟨ho, hq, state⟩ | ⟨ho, hs, hd⟩
  · obtain ⟨nf, nd, -, absent⟩ := (Blocks.stands_queued hl state).mp (h.2 c.id)
    rw [if_neg (by simp [ho])]
    refine Blocks.RelinkedBut.close (((h.but c.id).setLinkState _).enter rfl
      (Blocks.flies_iff.not.mp fun ⟨o, hf⟩ => nf o hf) room fun _ => ho) ?_
    refine Iff.mpr (Blocks.stands_flying (l := { l with state := st }) (by exact Blocks.link_setLinkState_same _ hl) on)
      ⟨⟨_, flies rfl⟩, nd, ?_, absent⟩
    exact iff_of_true hq (ho ▸ flies rfl)
  · have state := ((Blocks.stands_iff hl).mp (h.2 c.id)).2.1.mp hd
    obtain ⟨nf, -, nq, -⟩ := (Blocks.stands_deferred hl state).mp (h.2 c.id)
    rw [if_pos ho]
    have late := (h.but c.id).leaveDeferred.modLink (f := fun l => { l with deferral := none, late := true })
      fun _ => ⟨rfl, rfl, rfl, rfl, rfl⟩
    have link := Blocks.link_modLink_same (b := b.leaveDeferred c.id)
      (f := fun l => { l with deferral := none, late := true }) (fun _ => rfl) hl
    refine Blocks.RelinkedBut.close ((late.setLinkState _).enter rfl
      (Blocks.flies_iff.not.mp fun ⟨o, hf⟩ => nf o hf) room fun survey => ?_) ?_
    · simp [InFlight.new, hs] at survey
    · refine Iff.mpr (Blocks.stands_flying (by exact Blocks.link_setLinkState_same _ link) on) ⟨⟨_, flies rfl⟩, ?_, ?_, rfl⟩
      · exact fun hd => (Blocks.mem_leaveDeferred.mp hd).2 rfl
      · refine iff_of_false nq ?_
        rintro ⟨f, hf, hlink, hqueue⟩
        rcases List.mem_append.mp hf with hf | hf
        · exact nf .queue ⟨f, hf, hlink, hqueue⟩
        · rw [List.mem_singleton.mp hf] at hqueue
          exact absurd (ho.symm.trans hqueue) (by decide)

theorem startLoop (n : Nat) (h : b.Relinked) : (Blocks.startLoop n b).Relinked := by
  induction n generalizing b with
  | zero => exact h
  | succ n ih =>
    unfold Blocks.startLoop
    split
    next room =>
      split
      next c hc =>
        obtain ⟨l, hl, startable⟩ := Blocks.startChoice_startable hc
        exact ih (h.start hl startable room)
      · exact h
    · exact h

theorem startRule (h : b.Relinked) : b.startRule.Relinked := ite (h.startLoop 8) h

theorem activate (id : Nat) (h : b.Relinked) : (b.activate id).Relinked := by
  unfold Blocks.activate
  split
  · exact h
  next l hl =>
    split
    next c =>
      exact (h.flyOn hl (st := .activating) (by rw [c.1]; rfl) rfl).takeStep id (by decide)
    · exact h

theorem activateReady (h : b.Relinked) : b.activateReady.Relinked := foldl (fun _ id h => h.activate id) _ h

theorem judgeHead (t n : Nat) (h : b.Relinked) : (Blocks.judgeHead t n b).Relinked := by
  induction n generalizing b with
  | zero => exact h
  | succ n ih =>
    have h' := h.startRule.activateReady
    unfold Blocks.judgeHead
    dsimp only
    split
    · exact h'.setHold none
    next head due =>
      obtain ⟨rest, l, -, -, hl, state, -⟩ := Blocks.holdDue_some due
      refine ite h' (ite (ih ((h'.setHold none).defer t head .hold fun m hm => ?_)) (h'.setHold _))
      obtain rfl := Option.some.inj (hl.symm.trans hm)
      rcases state with hs | hs <;> simp [hs]

/-! ### Removal, refusal, release -/

theorem removeLink (id : Nat) (h : b.Relinked) : (b.removeLink id).Relinked := by
  unfold Blocks.removeLink
  split
  · exact h
  next l _ =>
    cases l.state
    case verifying | preparing | ready | activating =>
      exact (h.withdraw id).modLink id (fun _ => ⟨rfl, rfl, rfl, rfl, rfl⟩) (fun _ => rfl) fun _ => rfl
    case pending | suspect | deferred | carried => exact h.release id
    case releasing => exact h

theorem flagPass (h : b.Relinked) : b.flagPass.Relinked := foldl (fun _ id h => ite (h.release id) h) _ h

theorem refuse (t id : Nat) (h : b.Relinked) : (Blocks.refuse t b id).Relinked := by
  unfold Blocks.refuse
  split
  next f l he hl =>
    have fl := h.flying_of_entry he hl
    refine ite (ite (h.defer t id .refused fun m hm => ?_) (ite h ?_)) h
    · obtain rfl := Option.some.inj (hl.symm.trans hm)
      rintro state
      rw [state] at fl
      cases fl
    · exact h.takeStep id (by decide)
  · exact h

theorem refusalPass (t : Nat) (h : b.Relinked) : (b.refusalPass t).Relinked := foldl (fun _ id h => h.refuse t id) _ h

/-- R10, R45: a RELEASING link is deleted. -/
theorem delete {id : Nat} {l : Link} (hl : b.link id = some l) (hs : l.state = .releasing) (h : b.Relinked) :
    Blocks.Relinked { b with store := b.store.delete id } := by
  obtain ⟨nf, nd, nq, -⟩ := (Blocks.stands_apart hl (.inr hs)).mp (h.2 id)
  refine ⟨h.1.delete id, fun k => ?_⟩
  have found := LinkStore.find_delete b.store id k
  by_cases hk : k = id
  · subst hk
    rw [if_pos rfl] at found
    exact .of_none found (Blocks.flies_iff.not.mp fun ⟨o, hf⟩ => nf o hf) nd nq
  · rw [if_neg hk] at found
    exact (h.2 k).congr found Iff.rfl Iff.rfl fun _ => Iff.rfl

theorem decideDetach (l : Link) (e : LinkEnd) (h : b.Relinked) : (b.decideDetach l e).Relinked := ite (h.putBacklog _) h

theorem releaseOne (id : Nat) (h : b.Relinked) : (b.releaseOne id).Relinked := by
  unfold Blocks.releaseOne
  split
  · exact h
  next l hl =>
    split
    next hs => exact ite (h.delete hl hs) ((h.decideDetach l .a).decideDetach l .b)
    · exact h

theorem releasePass (h : b.Relinked) : b.releasePass.Relinked := foldl (fun _ id h => h.releaseOne id) _ h

theorem judgeEngine (t : Nat) (h : b.Relinked) : (b.judgeEngine t).Relinked :=
  (h.flagPass.refusalPass t).releasePass.judgeHead t _

theorem standDown (h : b.Relinked) : b.standDown.Relinked := by
  have all : ∀ (ids : List Nat) (b : Blocks), b.Relinked → (∀ id ∈ ids, ¬b.Flies id .deferred) →
      (ids.foldl (fun b id =>
        if (b.link id).any (fun l => l.state == .ready && !l.removal) && b.engine.queue.head? != some id then
          (b.leaveInFlight id).setLinkState id .pending else b) b).Relinked := by
    intro ids
    induction ids with
    | nil => exact fun _ h _ => h
    | cons id ids ih =>
      intro b h queued
      refine ih _ ?_ fun k hk => ?_ <;> dsimp only
      · split
        next c =>
          simp only [Bool.and_eq_true, Option.any_eq_true, beq_iff_eq] at c
          obtain ⟨⟨l, hl, ready, -⟩, -⟩ := c
          have fl : l.state.flying = true := by rw [ready]; rfl
          obtain ⟨⟨o, ho⟩, -⟩ := (Blocks.stands_flying hl fl).mp (h.2 id)
          cases o with
          | queue => exact h.standBack hl fl ho
          | deferred => exact absurd ho (queued id (List.mem_cons_self ..))
        · exact h
      · split
        · exact fun hf => queued k (List.mem_cons_of_mem _ hk) (Blocks.flies_leaveInFlight.mp hf).2
        · exact queued k (List.mem_cons_of_mem _ hk)
  refine ite (all _ b h fun id hid => ?_) h
  rintro ⟨g, hg, hlink, ho⟩
  obtain ⟨f, hf, rfl⟩ := List.mem_map.mp hid
  obtain ⟨hf, hqueue⟩ := List.mem_filter.mp hf
  rw [List.inj_on_of_nodup_map h.1.flightOnce hg hf hlink] at ho
  simp [ho] at hqueue

/-! ### Outcomes -/

theorem accountEnds (o : BusOrder) (e : EngineTag) (out : OrderOutcome) (h : b.Relinked) :
    (b.accountEnds o e out).Relinked := by
  unfold Blocks.accountEnds
  split
  case h_1 | h_2 => exact ite h (h.setAttached _ _ _)
  case h_9 => exact h
  all_goals exact h.detachEnd _ _

theorem judgeSurvey {id : Nat} {l : Link} {f : InFlight} (hl : b.link id = some l) (he : b.entry id = some f)
    (step : f.step = .survey) (h : b.Relinked) : (b.judgeSurvey l f).Relinked := by
  obtain rfl := Blocks.link_id hl
  have fl := h.flying_of_entry he hl
  obtain ⟨hf, hlink⟩ := Blocks.entry_mem he
  exact ite (ite (h.verify hl fl) (h.standBack hl fl ⟨f, hf, hlink, h.1.surveys f hf step⟩)) h

theorem judgeAttach {id : Nat} {l : Link} {f : InFlight} (hl : b.link id = some l) (fl : l.state.flying = true)
    (h : b.Relinked) : (b.judgeAttach l f).Relinked := by
  obtain rfl := Blocks.link_id hl
  exact ite ((h.flyOn hl (st := .ready) fl rfl).takeStep l.id (by decide)) h

theorem judgeActivate (t : Nat) {id : Nat} {l : Link} {f : InFlight} (hl : b.link id = some l) (hf : f.link = id)
    (fl : l.state.flying = true) (h : b.Relinked) : (Blocks.judgeActivate t b l f).Relinked :=
  ite h (ite ((h.takeStep l.id (by decide)).putBacklog _) (ite (h.carry t (by rw [hf]; exact hl) fl) h))

theorem countOutcome (t : Nat) (o : BusOrder) (e : EngineTag) (out : OrderOutcome) (answer : Option Attachment)
    (h : b.Relinked) : (b.countOutcome t o e out answer).Relinked := by
  have noted := h.modEntry e.link (g := fun f => f.note e.lend out) (fun f => f.note_link _ _) (fun f => f.note_origin _ _)
    fun f hs => f.note_step e.lend out ▸ hs
  have recorded := ite (p := o.code = .survey ∧ out = .done)
    (noted.modEntry e.link (g := fun f => f.noteRecord e.lend answer) (fun f => f.noteRecord_link _ _)
      (fun f => f.noteRecord_origin _ _) fun f hs => f.noteRecord_step e.lend answer ▸ hs) noted
  have refused := ite (p := (o.code = .attach ∨ o.code = .activate) ∧ out = .refused)
    ((recorded.modEntry e.link (g := fun f => { f with refused := true }) (fun _ => rfl) (fun _ => rfl)
      fun _ hs => hs).withdraw e.link) recorded
  unfold Blocks.countOutcome
  dsimp only
  split
  next f l he hl =>
    have fl := refused.flying_of_entry he hl
    refine ite refused ?_
    cases hs : f.step
    case survey => exact refused.judgeSurvey hl he hs
    case attach => exact refused.judgeAttach hl fl
    case activateA | activateB => exact refused.judgeActivate t hl (Blocks.entry_mem he).2 fl
    case detach | idle => exact refused
  · exact refused

theorem engineOutcome (t : Nat) (o : BusOrder) (e : EngineTag) (out : OrderOutcome) (records : List (List Byte))
    (h : b.Relinked) : (b.engineOutcome t o e out records).Relinked := by
  have ends := h.accountEnds o e out
  exact ite (ends.countOutcome t o e out _) ends

end Blocks.Relinked

end Sys2Proof.Machine
end

section
/-! SUPPORT. The relink law under the operations of the other blocks: switches and slot states, loss, cover and revert, the
outcomes of orders, the freeze, and what the blocks judge at the end of an event. -/

namespace Sys2Proof.Machine

namespace Blocks.Relinked

variable {b : Blocks}

/-! ### Switches, slot states and loss -/

theorem openSwitch (i : SlotId) (h : b.Relinked) : (b.openSwitch i).Relinked := ite ((h.modPower i _).switchOpened i) h

theorem powerShed (i : SlotId) (h : b.Relinked) : (b.powerShed i).Relinked := (h.openSwitch i).same rfl rfl

theorem powerOff (i : SlotId) (h : b.Relinked) : (b.powerOff i).Relinked := (h.openSwitch i).same rfl rfl

theorem changeState (i : SlotId) (st : SlotState) (h : b.Relinked) : (b.changeState i st).Relinked :=
  h.same (by simp) (by simp)

theorem enterState (i : SlotId) (st : SlotState) (h : b.Relinked) : (b.enterState i st).Relinked :=
  h.same (by simp) (by simp)

theorem startDeadline (i : SlotId) (h : b.Relinked) : (b.startDeadline i).Relinked := h.modSlot i _

theorem queueSlot (i : SlotId) (h : b.Relinked) : (b.queueSlot i).Relinked := h.same (by simp) (by simp)

theorem takeCover (i t : SlotId) (reason : LossReason) (h : b.Relinked) : (b.takeCover i t reason).Relinked :=
  ((((changeState i .covered (h.modSlot i _)).modSlot t _).remapLinks i t).tally _).coverReport i

theorem spareLost (spare s : SlotId) (reason : LossReason) (h : b.Relinked) : (b.spareLost spare s reason).Relinked := by
  unfold Blocks.spareLost
  refine dropLinks _ (detachSlot _ (modSlot _ _ (ite h ?_)))
  exact ite (changeState s .lost (h.modSlot s _)) h

theorem retireHeld (s : SlotId) (h : b.Relinked) : (b.retireHeld s).Relinked := by
  unfold Blocks.retireHeld
  refine dropLinks _ ?_
  dsimp only
  split
  · exact modSlot _ _ (ite (h.same (by simp) (by simp)) h)
  · exact h

theorem revertingLost (s : SlotId) (reason : LossReason) (h : b.Relinked) : (b.revertingLost s reason).Relinked := by
  refine ite (h.retireHeld s) ?_
  dsimp only
  split
  · exact ite (h.same (by simp) (by simp)) h
  · exact h

theorem settleLoss (i : SlotId) (reason : LossReason) (h : b.Relinked) : (b.settleLoss i reason).Relinked := by
  unfold Blocks.settleLoss
  split
  · exact h.spareLost i _ reason
  · refine ite (h.revertingLost i reason) ?_
    split
    · exact h.takeCover i _ reason
    · exact (h.detachSlot i).dropLinks _

theorem lose (i : SlotId) (reason : LossReason) (h : b.Relinked) : (b.lose i reason).Relinked :=
  (((changeState i .lost (h.modSlot i _)).powerOff i).tally _).settleLoss i reason

theorem loseInService (i : SlotId) (reason : LossReason) (h : b.Relinked) : (b.loseInService i reason).Relinked :=
  ite (h.lose i reason) h

theorem cardRestart (i : SlotId) (h : b.Relinked) : (b.cardRestart i).Relinked :=
  ite (((((h.enterState i .identifying).modSlot i _).startDeadline i).slotInPlace i).tally _) h

theorem completeRevert (spare s : SlotId) (h : b.Relinked) : (b.completeRevert spare s).Relinked :=
  foldl (fun _ id h => h.returnLink id) _ ((h.detachSlot spare).restoreLinks s)

/-! ### The outcomes of orders -/

theorem beginLoading (i : SlotId) (h : b.Relinked) : (b.beginLoading i).Relinked := h.same (by simp) (by simp)

theorem identified (i : SlotId) (id : Identity) (h : b.Relinked) : (b.identified i id).Relinked := by
  have named := h.modSlot i (fun r => { r with identity := some id })
  have alarm : ∀ {c : Blocks}, c.Relinked → (if id.cause = .alarm then c.raise (.slotAlarm i id.cause) else c).Relinked :=
    fun hc => ite (hc.raise _) hc
  unfold Blocks.identified
  dsimp only
  split
  · exact named
  · split
    · exact named.loseInService i _
    · split
      · split
        · exact alarm ((enterState i .live (named.modSlot i _)).tally _)
        · have loads := enterState i .loading (named.modSlot i (fun r => { r with latestId := some .fresh }))
          exact beginLoading i (ite loads ((loads.slotInPlace i).tally _))
      · have taken := named.modSlot i (fun r => { r with attention := false })
        split
        · exact alarm taken
        · exact beginLoading i ((((enterState i .loading (taken.modSlot i _)).startDeadline i).slotInPlace i).tally _)
      · exact named

theorem cleared (i : SlotId) (reverts : Bool) (out : OrderOutcome) (h : b.Relinked) : (b.cleared i reverts out).Relinked := by
  cases out
  case refused | noAnswer => exact h.loseInService i _
  case done =>
    unfold Blocks.cleared
    dsimp only
    split
    · exact h
    · exact ite (h.completeRevert i _) ((h.slotInPlace i).modSlot i _)
  case fresh =>
    unfold Blocks.cleared
    dsimp only
    split
    · exact h.cardRestart i
    · exact ite ((h.completeRevert i _).cardRestart i) (h.cardRestart i)

theorem orderFailed (i : SlotId) (out : OrderOutcome) (h : b.Relinked) : (b.orderFailed i out).Relinked := by
  cases out
  case done => exact h
  case noAnswer | refused => exact h.loseInService i _
  case fresh => exact ite (h.cardRestart i) (h.loseInService i _)

theorem registryOutcome (o : BusOrder) (use : RegistryUse) (out : OrderOutcome) (records : List (List Byte))
    (h : b.Relinked) : (b.registryOutcome o use out records).Relinked := by
  have ended := h.modSlot o.slot (fun r => { r with order := none })
  have failed := ended.orderFailed o.slot out
  refine ite ended ?_
  cases use
  case identify =>
    cases out
    case done =>
      dsimp only
      split
      · exact ended.identified _ _
      · exact ended
    case noAnswer | refused | fresh => exact ended.loseInService _ _
  case loadRead => exact ite (ended.same (by simp) (by simp)) failed
  case loadWrite => exact ite (ended.same (by simp) (by simp)) failed
  case writeSet => exact failed
  case coverRun => exact ite (ended.same (by simp) (by simp)) failed
  case setTerm => exact ite (ended.same (by simp) (by simp)) failed
  case clear reverts => exact ended.cleared _ _ _

theorem busReport (i : SlotId) (out : OrderOutcome) (h : b.Relinked) : (b.busReport i out).Relinked := by
  cases out
  case fresh => exact h.cardRestart i
  case noAnswer => exact h.loseInService i _
  case done | refused => exact h

theorem deliver (t : Nat) (o : BusOrder) (out : OrderOutcome) (given : List (List Byte)) (h : b.Relinked) :
    (Blocks.deliver t b o out given).Relinked := by
  unfold Blocks.deliver
  dsimp only
  split
  · exact h.registryOutcome o _ out _
  · exact (h.engineOutcome t o _ out _).busReport _ _
  · exact busReport _ _ (h.same rfl rfl)

theorem finishOrder (t : Nat) (tr : Transfer) (out : OrderOutcome) (h : b.Relinked) :
    (Blocks.finishOrder t b tr out).Relinked := by
  unfold Blocks.finishOrder
  split
  · exact h
  · exact deliver t _ out _ (h.same rfl rfl)

theorem endAttempt (t : Nat) (tr : Transfer) (ending : Ending) (h : b.Relinked) :
    (Blocks.endAttempt t b tr ending).Relinked := by
  have freed : Blocks.Relinked { b with bus := b.bus.setTransfer none } := h.same rfl rfl
  unfold Blocks.endAttempt
  cases ending
  case cut => exact freed
  case completed c => exact freed.finishOrder t tr _
  case failed => exact ite freed (freed.finishOrder t tr _)

theorem releaseEnded (t : Nat) (h : b.Relinked) : (Blocks.releaseEnded t b).Relinked := by
  unfold Blocks.releaseEnded
  split
  · split
    · exact h.endAttempt t _ _
    · exact h
  · exact h

theorem completionGiven (t : Nat) (code : Byte) (h : b.Relinked) : (Blocks.completionGiven t b code).Relinked := by
  unfold Blocks.completionGiven
  split
  next tr _ =>
    cases tr.phase
    case acknowledge => exact ite (h.endAttempt t _ _) h
    case header | data => exact h
    case complete =>
      dsimp only
      split
      · exact h
      · exact h
    case release => exact h
  · exact h

theorem phaseTimedOut (t : Nat) (h : b.Relinked) : (Blocks.phaseTimedOut t b).Relinked := by
  unfold Blocks.phaseTimedOut
  split
  next tr _ =>
    cases tr.phase
    case acknowledge => exact h.endAttempt t _ _
    case header | data | complete => exact h
    case release ending => exact h.endAttempt t _ _
  · exact h

end Blocks.Relinked

/-! ### The freeze (R54 to R59) -/

theorem Blocks.joinQueues_engine (ids : List Nat) (b : Blocks) :
    (ids.foldl Blocks.joinQueue b).engine = { b.engine with queue := (ids.foldl Blocks.joinQueue b).engine.queue } := by
  induction ids generalizing b with
  | nil => rfl
  | cons id ids ih =>
    rw [List.foldl_cons, ih (b.joinQueue id), Blocks.joinQueue_engine b id]

theorem Blocks.link_joinQueues (ids : List Nat) (b : Blocks) (k : Nat) : (ids.foldl Blocks.joinQueue b).link k = b.link k :=
  foldl_keeps (fun b => b.link k) (fun b id => b.link_joinQueue id k) ids b

theorem Blocks.mem_joinQueues {ids : List Nat} {b : Blocks} {k : Nat} :
    k ∈ (ids.foldl Blocks.joinQueue b).engine.queue ↔ k ∈ b.engine.queue ∨ (k ∈ ids ∧ (b.link k).isSome = true) := by
  induction ids generalizing b with
  | nil => simp
  | cons id ids ih =>
    rw [List.foldl_cons, ih, Blocks.mem_joinQueue, Blocks.link_joinQueue, List.mem_cons]
    constructor
    · rintro ((hq | ⟨rfl, hl⟩) | ⟨hk, hl⟩)
      · exact .inl hq
      · exact .inr ⟨.inl rfl, hl⟩
      · exact .inr ⟨.inr hk, hl⟩
    · rintro (hq | ⟨rfl | hk, hl⟩)
      · exact .inl (.inl hq)
      · exact .inl (.inr ⟨rfl, hl⟩)
      · exact .inr ⟨hk, hl⟩

theorem Blocks.Ordered.joinQueues {b : Blocks} (ids : List Nat) (h : b.Ordered) : (ids.foldl Blocks.joinQueue b).Ordered := by
  induction ids generalizing b with
  | nil => exact h
  | cons id ids ih => exact ih (h.joinQueue id)

/-- R56, R57: a frozen link is PENDING, SUSPECT or RELEASING, at the rank it had. -/
theorem Blocks.frozenLink_keepsRank (b : Blocks) (l : Link) : l.KeepsRank (b.frozenLink l) := by
  unfold Blocks.frozenLink
  split
  case h_2 | h_3 | h_4 | h_5 => split <;> exact ⟨rfl, rfl, rfl, rfl, rfl⟩
  all_goals exact ⟨rfl, rfl, rfl, rfl, rfl⟩

theorem Blocks.frozenState_queued (b : Blocks) (l : Link) :
    b.frozenState l = .pending ∨ b.frozenState l = .suspect := by
  unfold Blocks.frozenState
  split
  · exact .inr rfl
  · exact .inl rfl

theorem Blocks.frozenLink_state (b : Blocks) (l : Link) :
    (b.frozenLink l).state = .pending ∨ (b.frozenLink l).state = .suspect ∨ (b.frozenLink l).state = .releasing := by
  have queued := b.frozenState_queued l
  unfold Blocks.frozenLink
  cases hs : l.state
  case pending | suspect | releasing => simp
  case deferred => exact .inl rfl
  case carried => simpa [or_assoc] using Or.inl queued
  case verifying | preparing | ready | activating =>
    dsimp only
    split
    · simp
    · exact queued.elim .inl fun h => .inr (.inl h)

theorem Blocks.frozenLink_deferral (b : Blocks) {l : Link} (h : l.deferral.isSome = true ↔ l.state = .deferred) :
    (b.frozenLink l).deferral = none := by
  have absent : l.state ≠ .deferred → l.deferral = none := fun hs => by simpa using h.not.mpr hs
  unfold Blocks.frozenLink
  cases hs : l.state
  case deferred => rfl
  case carried | pending | suspect | releasing => exact absent (by simp [hs])
  case verifying | preparing | ready | activating =>
    dsimp only
    split
    · exact absent (by simp [hs])
    · exact absent (by simp [hs])

end Sys2Proof.Machine
end

section
/-! SUPPORT. The relink law under the freeze (R54 to R62), the reports of the supply and what the blocks judge at the end of an
event. -/

namespace Sys2Proof.Machine

/-- R56, R57: the collections as a freeze empties them, before the links that stay join the queue. -/
def Blocks.thawed (b : Blocks) : Blocks :=
  { b.mapLinks b.frozenLink with engine := { b.engine with
    queue := b.engine.queue.filter (fun id => ((b.mapLinks b.frozenLink).link id).any (fun l => l.state != .releasing))
    deferred := [], inFlight := [], backlog := [], hold := none } }

theorem Blocks.freezeLinks_eq (b : Blocks) : b.freezeLinks =
    (b.thawed.linkIds (fun l => l.state != .releasing)).foldl Blocks.joinQueue b.thawed := rfl

theorem Blocks.link_thawed (b : Blocks) (k : Nat) : b.thawed.link k = (b.link k).map b.frozenLink :=
  Blocks.link_mapLinks (fun l => (b.frozenLink_keepsRank l).id) k

namespace Blocks.Relinked

variable {b : Blocks}

theorem thawed_ordered (h : b.Relinked) : b.thawed.Ordered :=
  { (h.1.mapLinks b.frozenLink_keepsRank).filterQueue _ with
    few := Nat.zero_le _
    deferredOnce := List.nodup_nil
    flightOnce := List.nodup_nil
    surveys := fun _ hf => by cases hf }

theorem freezeLinks (h : b.Relinked) : b.freezeLinks.Relinked := by
  have law : b.thawed.store.Law := h.thawed_ordered.store
  rw [Blocks.freezeLinks_eq]
  refine ⟨h.thawed_ordered.joinQueues _, fun k => ?_⟩
  have link := b.thawed.link_joinQueues (b.thawed.linkIds (fun l => l.state != .releasing)) k
  have nf : ∀ o, ¬((b.thawed.linkIds (fun l => l.state != .releasing)).foldl Blocks.joinQueue b.thawed).Flies k o := by
    rintro o ⟨f, hf, -⟩
    rw [Blocks.joinQueues_engine] at hf
    cases hf
  have nd : k ∉ ((b.thawed.linkIds (fun l => l.state != .releasing)).foldl Blocks.joinQueue b.thawed).engine.deferred := by
    rw [Blocks.joinQueues_engine]
    exact List.not_mem_nil
  have queued := Blocks.mem_joinQueues (ids := b.thawed.linkIds (fun l => l.state != .releasing)) (b := b.thawed) (k := k)
  generalize (b.thawed.linkIds (fun l => l.state != .releasing)).foldl Blocks.joinQueue b.thawed = c at link nf nd queued ⊢
  have kept : k ∈ b.thawed.engine.queue → ∃ l, b.thawed.link k = some l ∧ l.state ≠ .releasing := fun hk => by
    obtain ⟨l, hl, hs⟩ := (Option.any_eq_true _ _).mp (List.mem_filter.mp hk).2
    exact ⟨l, hl, by simpa using hs⟩
  cases hl : b.link k with
  | none =>
    have out : b.thawed.link k = none := by rw [Blocks.link_thawed, hl]; rfl
    refine .of_none (link.trans out) (Blocks.flies_iff.not.mp fun ⟨o, hf⟩ => nf o hf) nd fun hq => ?_
    rcases queued.mp hq with hq | ⟨-, hk⟩
    · obtain ⟨l, hl, -⟩ := kept hq
      simp [out] at hl
    · simp [out] at hk
  | some l =>
    have found : b.thawed.link k = some (b.frozenLink l) := by rw [Blocks.link_thawed, hl]; rfl
    have absent := b.frozenLink_deferral ((Blocks.stands_iff hl).mp (h.2 k)).2.2.2
    have inQueue : (b.frozenLink l).state ≠ .releasing → k ∈ c.engine.queue := fun hs =>
      queued.mpr (.inr ⟨(law.mem_linkIds found _).mpr (by simpa using hs), by rw [found]; rfl⟩)
    rcases b.frozenLink_state l with hs | hs | hs
    · exact (Blocks.stands_queued (link.trans found) (.inl hs)).mpr ⟨nf, nd, inQueue (by simp [hs]), absent⟩
    · exact (Blocks.stands_queued (link.trans found) (.inr hs)).mpr ⟨nf, nd, inQueue (by simp [hs]), absent⟩
    · refine (Blocks.stands_apart (link.trans found) (.inr hs)).mpr ⟨nf, nd, fun hq => ?_, absent⟩
      rcases queued.mp hq with hq | ⟨hk, -⟩
      · obtain ⟨m, hm, hne⟩ := kept hq
        exact hne (Option.some.inj (found.symm.trans hm) ▸ hs)
      · simpa [hs] using (law.mem_linkIds found _).mp hk

theorem setShelf (st : ShelfState) (h : b.Relinked) : (b.setShelf st).Relinked := h

theorem freezeSlot (i : SlotId) (h : b.Relinked) : (b.freezeSlot i).Relinked := by
  unfold Blocks.freezeSlot
  split
  · exact h
  · split
    · exact ite ((h.powerShed i).enterState i _) h
    · exact ite (h.enterState i _) h

theorem recover (h : b.Relinked) : b.recover.Relinked := by
  refine foldl (fun b i h => ?_) _ (b := Blocks.setShelf _ _) (h.same rfl rfl)
  unfold Blocks.recoverSlot
  split
  · exact (h.enterState i _).startDeadline i
  · exact h.startDeadline i
  · exact h

theorem freeze (h : b.Relinked) : b.freeze.Relinked := by
  have ended : b.cutBus.endRegistryOrders.Relinked := h.same (by simp) (by simp)
  have stopped : (allSlots.foldl Blocks.freezeSlot b.cutBus.endRegistryOrders.freezeLinks).stopDeadlines.Relinked :=
    (foldl (fun _ i h => h.freezeSlot i) allSlots ended.freezeLinks).same (by simp) (by simp)
  unfold Blocks.freeze
  exact ite ((stopped.tally _).setShelf _).recover ((stopped.tally _).setShelf _)

theorem supplyReport (t : Nat) (status : Supply) (fmin : Option Nat) (h : b.Relinked) :
    (Blocks.supplyReport t status fmin b).Relinked := by
  have noted : Blocks.Relinked { b with ep := { b.ep with supply := status } } := h.same rfl rfl
  unfold Blocks.supplyReport
  cases status
  case down =>
    dsimp only
    split
    · exact freeze (noted.same (by simp) (by simp))
    · exact (noted.tally _).freeze
    · exact (noted.tally _).freeze
    · exact noted
    · exact noted
  case up =>
    dsimp only
    split
    · exact noted.recover
    all_goals exact noted

theorem judgeSettled (t : Nat) (h : b.Relinked) : (b.judgeSettled t).Relinked := ite (h.freeze.judgeEngine t) h

theorem placeBacklog (h : b.Relinked) : b.placeBacklog.Relinked := h

theorem grant (h : b.Relinked) : b.grant.Relinked := h

/-- What the blocks judge at the end of an event keeps the relink law. -/
theorem settle (t : Nat) (h : b.Relinked) : (b.settle t).Relinked := by
  have covers : b.finishCoverLoads.Relinked := h.same (by simp) (by simp)
  have judged := (covers.judgeEngine t).standDown.judgeSettled t
  have closed : (((((b.finishCoverLoads.judgeEngine t).standDown.judgeSettled t).judgeAdmission).judgeClose t).placeRegistry).Relinked :=
    judged.same (by simp) (by simp)
  exact closed.placeBacklog.grant

end Blocks.Relinked

end Sys2Proof.Machine
end

section
/-! SUPPORT. What one step can do to the blocks, said once: the effect an event or an accepted request has before the blocks
judge, and the few steps that bring no judgement. An invariant of the blocks goes by these cases. -/

namespace Sys2Proof.Machine

/-- What an event, or an accepted request, does to the blocks before they judge. -/
inductive Blocks.Effect (b : Blocks) : Blocks → Prop
  | judgedFeeds (t : Nat) (m : FeedMonitor) (e : Option SupplyEvent) : Effect b (m.tell t e b)
  | sampled (t : Nat) (m : FeedMonitor) (e : Option SupplyEvent) (fmin : Option Nat) : Effect b ((m.tell t e b).handFmin fmin)
  | holdExpired (t : Nat) (running : b.engine.hold.isSome = true) : Effect b (b.holdExpired t)
  | completionGiven (t : Nat) (code : Byte) : Effect b (b.completionGiven t code)
  | releaseEnded (t : Nat) : Effect b (b.releaseEnded t)
  | phaseTimedOut (t : Nat) : Effect b (b.phaseTimedOut t)
  | attention (i : SlotId) (live : b.isLive i = true) : Effect b (b.modSlot i (fun r => { r with attention := true }))
  | late (i : SlotId) (running : (b.slot i).deadline.isSome = true) (timed : (b.slot i).state.timed = true) :
      Effect b (b.lose i .late)
  | rampExpired (i : SlotId) (running : (b.powerRec i).ramp.isSome = true) : Effect b (Blocks.rampExpired i b)
  | darkExpired (i : SlotId) (running : (b.powerRec i).dark.isSome = true) : Effect b (Blocks.darkExpired i b)
  | tripped (i : SlotId) (closed : (b.powerRec i).closed = true) : Effect b (Blocks.tripped i b)
  | relinkSet (c : RelinkSettings) (mask : CompareMask) : Effect b (b.relinkSet c.clamped mask)
  | loadPlan (i : SlotId) (plan : Option Plan) (free : b.replannable i = true) (keeps : b.planStrands i plan = false) :
      Effect b (b.loadPlan i plan)
  | startShelf (cold : b.ep.shelf = .cold) : Effect b b.startShelf
  | drillNow (t : Nat) (fmin : Option Nat) (standby : b.ep.shelf = .standby) : Effect b (b.drillNow t fmin)
  | drillSettled (t : Nat) (fmin : Option Nat) (standby : b.ep.shelf = .standby) : Effect b (b.drillSettled t fmin)
  | createLink (r : LinkRequest) (l : Link) (inRange : ∀ p, r.place = some p → p.2 < Config.cellsPerHighway)
      (checked : b.checkLink r = .ok l) : Effect b (Blocks.createLink l b)
  | removeLink (id : Nat) : Effect b (b.removeLink id)
  | retried (id : Nat) : Effect b (b.modLink id Link.retried)
  | setPort (i : SlotId) (p : Fin 32) (f : PortFields) : Effect b (b.setPort i p f)
  | restarted (i : SlotId) (c : Blocks) (done : b.restartSlot i = some c) : Effect b c
  | retired (i : SlotId) (c : Blocks) (done : b.retireSlot i = some c) : Effect b c
  | reverted (i : SlotId) (c : Blocks) (done : b.revertSlot i = some c) : Effect b c

/-- What the taking of a request does to the blocks. -/
inductive Blocks.Taken (b : Blocks) : Blocks → Prop
  | asBefore : Taken b b
  | passPlaced (o : BusOrder) : Taken b (b.placePass o)
  | judged (t : Nat) {c : Blocks} (effect : b.Effect c) : Taken b (c.settle t)

/-- What one step does to the blocks. -/
inductive Blocks.StepTo (b : Blocks) : Blocks → Prop
  | stays : StepTo b b
  | reset : StepTo b Blocks.reset
  | ticked : StepTo b b.tick
  | onBus (bus : CardBus) : StepTo b { b with bus }
  | told {c : Blocks} (taken : b.Taken c) : StepTo b c.told

/-! ### The owners of the requests -/

theorem Blocks.Taken.of_eq {b c : Blocks} (h : c = b) : b.Taken c := h ▸ .asBefore

theorem State.accepted_taken {s : State} {f : Blocks → Blocks} (clamped : Bool) (fields : List Byte)
    (effect : s.blk.Effect (f s.blk)) : s.blk.Taken ((s.settled f).accept clamped fields).1.blk := .judged s.time effect

theorem State.slotRequest_taken (s : State) (body : List Byte) {f : Blocks → SlotId → Option Blocks}
    (hf : ∀ i c, f s.blk i = some c → s.blk.Effect c) : s.blk.Taken (s.slotRequest body f).1.blk := by
  unfold State.slotRequest
  split
  · split
    · exact .asBefore
    · split
      · exact .asBefore
      next c hc => exact State.accepted_taken (f := fun _ => c) _ _ (hf _ _ hc)
  · exact .asBefore

theorem ownSetFeeds_taken (body : List Byte) (s : State) : s.blk.Taken (ownSetFeeds body s).1.blk := by
  unfold ownSetFeeds
  split
  · exact .asBefore
  · exact .judged s.time (.judgedFeeds _ _ _)

theorem ownSetBudget_taken (body : List Byte) (s : State) : s.blk.Taken (ownSetBudget body s).1.blk := by
  unfold ownSetBudget
  split
  · dsimp only
    split
    · split
      · split
        · exact .asBefore
        · exact .judged s.time (.judgedFeeds _ _ _)
      · exact .asBefore
    · exact .asBefore
  · exact .asBefore

theorem ownSetRelink_taken (body : List Byte) (s : State) : s.blk.Taken (ownSetRelink body s).1.blk := by
  unfold ownSetRelink
  split
  · split
    · exact .asBefore
    · exact State.accepted_taken _ _ (.relinkSet _ _)
  · exact .asBefore

theorem ownSetNotices_taken (body : List Byte) (s : State) : s.blk.Taken (ownSetNotices body s).1.blk := by
  unfold ownSetNotices
  split
  · split
    · exact .asBefore
    · exact .asBefore
  · exact .asBefore

theorem ownLoadSlot_taken (body : List Byte) (s : State) : s.blk.Taken (ownLoadSlot body s).1.blk := by
  unfold ownLoadSlot
  split
  · exact .asBefore
  next i plan _ =>
    split
    · exact .asBefore
    next free =>
      have free : s.blk.replannable i = true := by simpa using free
      cases plan with
      | none =>
        dsimp only
        split
        · exact .asBefore
        next keeps => exact State.accepted_taken _ _ (.loadPlan i none free (by simpa using keeps))
      | some p =>
        dsimp only
        split
        · exact .asBefore
        next agrees =>
          simp only [Blocks.planAgrees, Bool.and_eq_false_iff, not_or, Bool.not_eq_false, Bool.not_eq_true'] at agrees
          obtain ⟨-, keeps⟩ := agrees
          exact State.accepted_taken _ _ (.loadPlan i (some p.clamped) free keeps)

theorem ownStartShelf_taken (body : List Byte) (s : State) : s.blk.Taken (ownStartShelf body s).1.blk := by
  unfold ownStartShelf
  split
  next cold => exact State.accepted_taken _ _ (.startShelf cold)
  · exact .asBefore

theorem ownDrill_taken (body : List Byte) (s : State) : s.blk.Taken (ownDrill body s).1.blk := by
  unfold ownDrill
  split
  · split
    · exact .asBefore
    · split
      · exact .asBefore
      next standby =>
        rw [ne_eq, not_not] at standby
        split
        · exact .asBefore
        · split
          · exact State.accepted_taken _ _ (.drillNow _ _ standby)
          · exact State.accepted_taken _ _ (.drillSettled _ _ standby)
  · exact .asBefore

theorem ownCreateLink_taken (body : List Byte) (s : State) : s.blk.Taken (ownCreateLink body s).1.blk := by
  unfold ownCreateLink
  split
  · exact .asBefore
  next r hr =>
    split
    · exact .asBefore
    next l hl => exact State.accepted_taken _ _ (.createLink r l (readLinkRequest_inRange hr) hl)

theorem ownRemoveLink_taken (body : List Byte) (s : State) : s.blk.Taken (ownRemoveLink body s).1.blk := by
  unfold ownRemoveLink
  split
  · exact .asBefore
  next id _ =>
    split
    · exact .asBefore
    · split
      · exact .asBefore
      · exact .judged s.time (.removeLink id)

theorem ownRetryLink_taken (body : List Byte) (s : State) : s.blk.Taken (ownRetryLink body s).1.blk := by
  unfold ownRetryLink
  split
  · exact .asBefore
  next id _ =>
    split
    · exact .asBefore
    · split
      · split
        · exact .asBefore
        · split
          · exact .asBefore
          · exact .judged s.time (.retried id)
      · exact .asBefore

theorem ownSetPort_taken (body : List Byte) (s : State) : s.blk.Taken (ownSetPort body s).1.blk := by
  unfold ownSetPort
  split
  · split
    · exact State.accepted_taken _ _ (.setPort _ _ _)
    · exact .asBefore
  · exact .asBefore

theorem ownCardPorts_taken (body : List Byte) (s : State) : s.blk.Taken (ownCardPorts body s).1.blk := by
  unfold ownCardPorts
  split
  · split
    · split
      · split
        · exact .asBefore
        · split
          · exact .passPlaced _
          · exact .asBefore
      · exact .asBefore
    · exact .asBefore
  · exact .asBefore

theorem ownRequest_taken (kind : Nat) (body : List Byte) (s : State) : s.blk.Taken (ownRequest kind body s).1.blk := by
  unfold ownRequest
  split
  · exact ownSetFeeds_taken body s
  · exact ownSetBudget_taken body s
  · exact ownSetRelink_taken body s
  · exact ownSetNotices_taken body s
  · exact ownLoadSlot_taken body s
  · exact ownStartShelf_taken body s
  · exact ownDrill_taken body s
  · exact .asBefore
  · exact .asBefore
  · exact .of_eq (ownGetSlot_blk body s)
  · exact .of_eq (ownGetEpisode_blk body s)
  · exact ownCreateLink_taken body s
  · exact ownRemoveLink_taken body s
  · exact ownRetryLink_taken body s
  · exact .of_eq (ownGetLink_blk body s)
  · exact .of_eq (ownFindLinks_blk body s)
  · exact ownSetPort_taken body s
  · exact .of_eq (ownGetPort_blk body s)
  · exact ownCardPorts_taken body s
  · exact s.slotRequest_taken body fun i c hc => .restarted i c hc
  · exact s.slotRequest_taken body fun i c hc => .retired i c hc
  · exact s.slotRequest_taken body fun i c hc => .reverted i c hc
  · exact .asBefore

theorem judgeRequest_taken (f : Frame) (s : State) : s.blk.Taken (judgeRequest f s).1.blk := by
  unfold judgeRequest
  split
  · exact .asBefore
  · split
    · exact ownRequest_taken _ _ s
    · exact .asBefore

/-! ### The commands -/

theorem State.takeInHand_stepTo {b : Blocks} (s : State) (hb : s.blk = b) : b.StepTo s.takeInHand.blk := by
  subst hb
  unfold State.takeInHand
  split
  · exact .stays
  next f _ _ =>
    rw [State.deliver_blk, State.answered_blk]
    exact .told (judgeRequest_taken f s)

theorem State.receive_stepTo {b : Blocks} (s : State) (f : Frame) (hb : s.blk = b) : b.StepTo (s.receive f).blk := by
  subst hb
  unfold State.receive
  split
  · dsimp only
    split
    · exact State.takeInHand_stepTo _ rfl
    · exact .stays
  · exact .stays

theorem State.event_stepTo {b : Blocks} (s : State) {f : Blocks → Blocks} (effect : b.Effect (f s.blk)) :
    b.StepTo (s.event f).blk := by
  rw [State.event, State.deliver_blk]
  exact .told (.judged s.time effect)

/-- An event taken under a condition. -/
theorem State.eventIf_stepTo {s : State} {p : Prop} [Decidable p] {f : Blocks → Blocks}
    (effect : p → s.blk.Effect (f s.blk)) : s.blk.StepTo (if p then s.event f else s).blk := by
  split
  next hp => exact s.event_stepTo (effect hp)
  · exact .stays

theorem State.character_stepTo (s : State) (c : Byte) : s.blk.StepTo (s.character c).blk := by
  unfold State.character
  dsimp only
  split
  · exact State.receive_stepTo _ _ rfl
  · exact .stays

theorem State.frameSent_stepTo (s : State) : s.blk.StepTo s.frameSent.blk := by
  have replySent : s.blk.StepTo s.replySent.blk := by
    unfold State.replySent
    split
    · exact .stays
    · split
      · exact .reset
      · split
        · exact State.takeInHand_stepTo _ rfl
        · exact .stays
  unfold State.frameSent
  split
  · exact .stays
  · exact replySent
  · exact .stays

theorem State.sample_stepTo (s : State) (feed : FeedId) (v : Nat) : s.blk.StepTo (s.sample feed v).blk := by
  unfold State.sample
  split
  · exact State.event_stepTo { s with feed := _ } (.sampled _ _ _ _)
  · exact .stays

/-- R155: a completion byte that brings no judgement moves the transfer alone. -/
theorem Blocks.completionGiven_bus {b : Blocks} (t : Nat) {code : Byte}
    (early : ¬b.bus.transfer.any (fun tr => tr.earlyMalformed code) = true) :
    b.StepTo (b.completionGiven t code) := by
  unfold Blocks.completionGiven
  split
  next tr htr =>
    rw [htr] at early
    have late : tr.earlyMalformed code = false := by simpa using early
    cases tr.phase
    case acknowledge =>
      dsimp only
      rw [late]
      exact .stays
    case header | data => exact .onBus _
    case complete =>
      dsimp only
      split
      · exact .onBus _
      · exact .onBus _
    case release => exact .stays
  · exact .stays

/-- A command that is taken only while the pin is not held. -/
theorem State.running_stepTo {s t : State} {f : State → State} (hf : s.blk.StepTo (f s).blk) (h : s.running f = .next t) :
    s.blk.StepTo t.blk := by
  cases h
  split
  · exact .stays
  · exact hf

theorem exec_stepTo {c : Instr} {s t : State} (h : exec c s = .next t) : s.blk.StepTo t.blk := by
  cases c
  case deviceReset => cases h; exact .reset
  case resetRelease =>
    cases h
    split
    · exact .reset
    · exact .stays
  case characterReceived c =>
    simp only [exec, execCharacterReceived] at h
    exact State.running_stepTo (s.character_stepTo c) h
  case lineError =>
    simp only [exec, execLineError] at h
    refine State.running_stepTo ?_ h
    split
    · exact .stays
    · exact .stays
  case gapTimerExpiry =>
    simp only [exec, execGapTimerExpiry] at h
    refine State.running_stepTo ?_ h
    split
    · exact .stays
    · exact .stays
  case frameSent =>
    simp only [exec, execFrameSent] at h
    exact State.running_stepTo s.frameSent_stepTo h
  case feedSample feed v =>
    simp only [exec, execFeedSample] at h
    exact State.running_stepTo (f := fun s => s.sample feed v.toNat) (s.sample_stepTo feed v.toNat) h
  case armTimerExpiry =>
    simp only [exec, execArmTimerExpiry] at h
    refine State.running_stepTo ?_ h
    split
    · exact State.event_stepTo { s with feed := _ } (.judgedFeeds _ _ _)
    · exact .stays
  case cardAcknowledge =>
    simp only [exec, execCardAcknowledge] at h
    refine State.running_stepTo ?_ h
    exact .onBus _
  case cardHeaderAnswer =>
    simp only [exec, execCardHeaderAnswer] at h
    refine State.running_stepTo ?_ h
    exact .onBus _
  case cardDataRecord =>
    simp only [exec, execCardDataRecord] at h
    refine State.running_stepTo ?_ h
    exact .onBus _
  case acknowledgeWithdrawn =>
    simp only [exec, execAcknowledgeWithdrawn] at h
    refine State.running_stepTo ?_ h
    exact .onBus _
  case cardCompletion code =>
    simp only [exec, execCardCompletion] at h
    refine State.running_stepTo ?_ h
    split
    · exact s.event_stepTo (.completionGiven _ _)
    next early => exact Blocks.completionGiven_bus _ early
  case holdTimerExpiry =>
    simp only [exec, execHoldTimerExpiry] at h
    refine State.running_stepTo ?_ h
    exact State.eventIf_stepTo fun running => .holdExpired _ running
  case releaseEnd =>
    simp only [exec, execReleaseEnd] at h
    refine State.running_stepTo ?_ h
    exact State.eventIf_stepTo fun _ => .releaseEnded _
  case phaseTimeoutExpiry =>
    simp only [exec, execPhaseTimeoutExpiry] at h
    refine State.running_stepTo ?_ h
    exact State.eventIf_stepTo fun _ => .phaseTimedOut _
  case attentionRise i =>
    simp only [exec, execAttentionRise] at h
    refine State.running_stepTo ?_ h
    exact State.eventIf_stepTo fun ⟨live, _⟩ => .attention i live
  case returnDeadlineExpiry i =>
    simp only [exec, execReturnDeadlineExpiry] at h
    refine State.running_stepTo ?_ h
    exact State.eventIf_stepTo fun ⟨running, timed⟩ => .late i running timed
  case rampTimerExpiry i =>
    simp only [exec, execRampTimerExpiry] at h
    refine State.running_stepTo ?_ h
    exact State.eventIf_stepTo fun running => .rampExpired i running
  case darkTimerExpiry i =>
    simp only [exec, execDarkTimerExpiry] at h
    refine State.running_stepTo ?_ h
    exact State.eventIf_stepTo fun running => .darkExpired i running
  case switchTrip i =>
    simp only [exec, execSwitchTrip] at h
    refine State.running_stepTo ?_ h
    exact State.eventIf_stepTo fun closed => .tripped i closed
  all_goals
    rw [exec_request rfl] at h
    exact State.running_stepTo (s.receive_stepTo _ rfl) h

/-- What one step can do to the blocks. -/
theorem step_stepTo {s t : State} (h : step s = .next t) : s.blk.StepTo t.blk := by
  unfold step at h
  split at h
  · cases h
    unfold State.tick
    split
    · exact .stays
    · exact .ticked
  next c rest _ => exact exec_stepTo (s := { s with pending := rest }) h

end Sys2Proof.Machine
end

section
/-! CERTIFICATE. The relink law (R20 to R24): every effect of an event or a request keeps it, and so does every step. -/

namespace Sys2Proof.Machine

namespace Blocks.Relinked

variable {b : Blocks}

theorem told (h : b.Relinked) : b.told.Relinked := h

/-! ### The events -/

theorem tell (t : Nat) (m : FeedMonitor) (e : Option SupplyEvent) (h : b.Relinked) : (m.tell t e b).Relinked := by
  cases e
  case none =>
    have reported : (b.budgetReport m.budget).Relinked := h.same rfl rfl
    exact ite reported h
  case some e =>
    exact supplyReport (b := Blocks.raise { b with power := { b.power with supply := e.status, budget := m.budget } } (m.notice e))
      t _ _ (h.same rfl rfl)

/-- R21, R24: a link of the queue is not deferred. -/
theorem not_deferred_of_queued {id : Nat} (h : b.Relinked) (hq : id ∈ b.engine.queue) (l : Link)
    (hl : b.link id = some l) : l.state ≠ .deferred := by
  intro hs
  obtain ⟨-, -, nq, -⟩ := (Blocks.stands_deferred hl hs).mp (h.2 id)
  exact nq hq

theorem holdExpired (t : Nat) (h : b.Relinked) : (b.holdExpired t).Relinked := by
  unfold Blocks.holdExpired
  split
  next head rest hq =>
    exact (h.setHold none).defer t head .hold (h.not_deferred_of_queued (hq ▸ List.mem_cons_self ..))
  · exact h.setHold none

theorem tripped (i : SlotId) (h : b.Relinked) : (Blocks.tripped i b).Relinked := ((h.modPower i _).openSwitch i).lose i _

theorem rampExpired (i : SlotId) (h : b.Relinked) : (Blocks.rampExpired i b).Relinked := by
  have ended := fun f => h.modPower i f
  exact ite (ite ((ended _).enterState i _) ((ended _).enterState i _)) (ended _)

theorem darkExpired (i : SlotId) (h : b.Relinked) : (Blocks.darkExpired i b).Relinked := by
  have joined : ((b.modPower i (fun r => { r with dark := none })).joinAdmission i).Relinked := h.same (by simp) (by simp)
  exact ite (joined.enterState i _) joined

/-! ### The requests -/

theorem loadPlan (i : SlotId) (plan : Option Plan) (h : b.Relinked) : (b.loadPlan i plan).Relinked := by
  have planned := h.modSlot i (fun r => { r with plan })
  cases plan
  case none => exact planned.enterState i _
  case some => exact ite (planned.enterState i _) (planned.queueSlot i)

theorem startShelf (h : b.Relinked) : b.startShelf.Relinked :=
  foldl (fun _ i h => ite (h.queueSlot i) h) _ (h.setShelf .standby)

theorem drillNow (t : Nat) (fmin : Option Nat) (h : b.Relinked) : (b.drillNow t fmin).Relinked :=
  freeze (h.same (by simp) (by simp))

/-- R23: the window is brought into 1..8. -/
theorem relinkSet (c : RelinkSettings) (mask : CompareMask) (h : b.Relinked) : (b.relinkSet c.clamped mask).Relinked :=
  ⟨{ h.1 with
      window_pos := le_max_left _ _
      window_le := max_le (by decide) (min_le_left _ _) },
    fun k => (h.2 k).congr rfl Iff.rfl Iff.rfl fun _ => Iff.rfl⟩

theorem retried_deferral (l : Link) : l.retried.deferral.isSome = l.deferral.isSome := by
  simp [Link.retried]

theorem setPort (i : SlotId) (p : Fin 32) (f : PortFields) (h : b.Relinked) : (b.setPort i p f).Relinked := by
  have joined : ((b.modPort i p (fun r => r.update f)).portJoins i p f).Relinked := by
    unfold Blocks.portJoins
    split
    · split
      · exact ite h h
      · exact ite h h
    · exact h
  refine joined.mapLinks (fun l => ?_) (fun l => ?_) fun l => ?_
  · exact Link.KeepsRank.ite ⟨rfl, rfl, rfl, rfl, rfl⟩
  · split <;> rfl
  · split
    · exact retried_deferral l
    · rfl

theorem beginRevert (i : SlotId) (h : b.Relinked) : (b.beginRevert i).Relinked :=
  (enterState i .dark (h.modSlot i _)).powerShed i

theorem restartSlot (i : SlotId) {c : Blocks} (done : b.restartSlot i = some c) (h : b.Relinked) : c.Relinked := by
  have off := (h.enterState i .dark).powerShed i
  unfold Blocks.restartSlot at done
  dsimp only at done
  split at done
  · cases done
  · split at done
    · cases done
    · split at done
      · cases done; exact h.beginRevert i
      · split at done
        · cases done; exact off.slotInPlace i
        · split at done
          · cases done; exact off
          · cases done

theorem retireSlot (i : SlotId) {c : Blocks} (done : b.retireSlot i = some c) (h : b.Relinked) : c.Relinked := by
  have reason := h.modSlot i (fun r => { r with lostReason := some .retired })
  unfold Blocks.retireSlot at done
  cases hst : (b.slot i).state <;> simp only [hst] at done
  case vacant | off | covered => cases done
  case lost => cases done; exact ite (reason.retireHeld i) reason
  all_goals
    cases done
    exact h.lose i .retired

theorem revertSlot (i : SlotId) {c : Blocks} (done : b.revertSlot i = some c) (h : b.Relinked) : c.Relinked := by
  unfold Blocks.revertSlot at done
  split at done
  · cases done; exact h.beginRevert i
  · cases done

end Blocks.Relinked

/-! ### CREATE LINK (R15) -/

/-- R6: a record as it stands when the next sequence is given. -/
def LinkStore.resequenced (st : LinkStore) (l : Link) : Link :=
  if st.seq.isSome then l else { l with seq := seqRank st.links l }

theorem LinkStore.find_nextSequence (st : LinkStore) (k : Nat) :
    st.nextSequence.1.find k = (st.find k).map st.resequenced := by
  unfold LinkStore.nextSequence LinkStore.resequenced
  cases st.seq with
  | some n => simp
  | none => exact find?_renumber _ _

theorem LinkStore.find_add_other (st : LinkStore) {l : Link} {k : Nat} (hk : k ≠ l.id) : (st.add l).find k = st.find k :=
  find?_insertLink_other (Ne.symm hk) _

theorem LinkStore.resequenced_above {st : LinkStore} {l m : Link} (hl : l ∈ st.links) (h : l.above m = true) :
    (st.resequenced l).above (st.resequenced m) = true := by
  unfold LinkStore.resequenced
  split
  · exact h
  · simpa only [Link.above, seqRank_lt_iff hl] using h

theorem Blocks.Relinked.createLink {b : Blocks} {r : LinkRequest} {l : Link} (inRange : ∀ p, r.place = some p → p.2 < Config.cellsPerHighway)
    (checked : b.checkLink r = .ok l) (h : b.Relinked) : (Blocks.createLink l b).Relinked := by
  have law : (b.store.nextSequence.1.add l).Law := by
    rw [← Blocks.createLink_store]
    exact h.law.created inRange checked
  obtain ⟨ends, id, place, -, -, -, hid, -, rfl⟩ := Blocks.checkLink_ok checked
  obtain ⟨-, -, fresh, -⟩ := lowestFree_some hid
  have free : b.link id = none := Blocks.link_eq_none.mpr fresh
  obtain ⟨nf, nd, nq⟩ := (h.2 id).absent free
  generalize hl : r.record id b.store.nextSequence.2 ends place = l at law ⊢
  have lid : l.id = id := hl ▸ rfl
  subst lid
  have others : ∀ k, k ≠ l.id →
      (b.store.nextSequence.1.add l).find k = (b.link k).map b.store.resequenced := fun k hk => by
    rw [LinkStore.find_add_other _ hk, LinkStore.find_nextSequence]; rfl
  have found : (b.store.nextSequence.1.add l).find l.id = some l :=
    find?_insertLink_same (LinkStore.nextSequence_fresh fresh)
  have ordered : Blocks.Ordered { b with store := b.store.nextSequence.1.add l } :=
    { h.1 with
      store := law
      ranks := h.1.ranks.of_find (g := b.store.resequenced)
        (fun k hk m hm => by
          rw [others k fun e => nq (e ▸ hk)] at hm
          obtain ⟨n, hn, rfl⟩ := Option.map_eq_some_iff.mp hm
          exact ⟨n, hn, rfl⟩)
        fun m hm n _ hr => LinkStore.resequenced_above hm hr }
  have but : Blocks.RelinkedBut l.id { b with store := b.store.nextSequence.1.add l } := by
    refine ⟨ordered, fun k hk => ?_⟩
    have link : Blocks.link { b with store := b.store.nextSequence.1.add l } k = (b.link k).map b.store.resequenced :=
      others k hk
    cases hm : b.link k with
    | none =>
      rw [hm] at link
      obtain ⟨nf, nd, nq⟩ := (h.2 k).absent hm
      exact .of_none link (Blocks.flies_iff.not.mp nf) nd nq
    | some m =>
      rw [hm] at link
      have same : (b.store.resequenced m).state = m.state ∧ (b.store.resequenced m).deferral = m.deferral := by
        unfold LinkStore.resequenced
        split <;> exact ⟨rfl, rfl⟩
      rw [Blocks.stands_iff link, same.1, same.2]
      exact (Blocks.stands_iff hm).mp (h.2 k)
  have pending : l.state = .pending ∧ l.deferral = none := hl ▸ ⟨rfl, rfl⟩
  refine but.joinQueue.close ((Blocks.stands_queued (l := l) ?_ (.inl pending.1)).mpr ⟨fun o hf => ?_, ?_, ?_, pending.2⟩)
  · rw [Blocks.link_joinQueue]; exact found
  · have flew := Blocks.flies_joinQueue.mp hf
    exact nf ⟨o, flew⟩
  · rw [Blocks.joinQueue_engine]; exact nd
  · exact Blocks.mem_joinQueue.mpr (.inr ⟨rfl, Option.isSome_iff_exists.mpr ⟨l, found⟩⟩)

/-! ### The step -/

theorem Blocks.Relinked.effect {b c : Blocks} (h : b.Relinked) (e : b.Effect c) : c.Relinked := by
  cases e with
  | judgedFeeds t m e => exact h.tell t m e
  | sampled t m e fmin => exact (h.tell t m e).same (by simp) (by simp)
  | holdExpired t => exact h.holdExpired t
  | completionGiven t code => exact h.completionGiven t code
  | releaseEnded t => exact h.releaseEnded t
  | phaseTimedOut t => exact h.phaseTimedOut t
  | attention i => exact h.modSlot i _
  | late i => exact h.lose i _
  | rampExpired i => exact h.rampExpired i
  | darkExpired i => exact h.darkExpired i
  | tripped i => exact h.tripped i
  | relinkSet c mask => exact h.relinkSet c mask
  | loadPlan i plan => exact h.loadPlan i plan
  | startShelf => exact h.startShelf
  | drillNow t fmin => exact h.drillNow t fmin
  | drillSettled t fmin => exact h.same rfl rfl
  | createLink r l inRange checked => exact h.createLink inRange checked
  | removeLink id => exact h.removeLink id
  | retried id => exact h.modLink id (fun _ => ⟨rfl, rfl, rfl, rfl, rfl⟩) (fun _ => rfl) Blocks.Relinked.retried_deferral
  | setPort i p f => exact h.setPort i p f
  | restarted i c done => exact h.restartSlot i done
  | retired i c done => exact h.retireSlot i done
  | reverted i c done => exact h.revertSlot i done

theorem Blocks.Relinked.reset : Blocks.reset.Relinked := by
  refine ⟨?_, fun k => .of_none rfl List.not_mem_nil List.not_mem_nil List.not_mem_nil⟩
  exact
    { store := LinkStore.Law.reset
      window_pos := by decide
      window_le := by decide
      few := Nat.zero_le _
      queueOnce := List.nodup_nil
      deferredOnce := List.nodup_nil
      flightOnce := List.nodup_nil
      surveys := fun f hf => absurd hf List.not_mem_nil
      ranks := List.Pairwise.nil }

theorem Blocks.Relinked.stepTo {b c : Blocks} (h : b.Relinked) (s : b.StepTo c) : c.Relinked := by
  cases s with
  | stays => exact h
  | reset => exact Blocks.Relinked.reset
  | ticked => exact h
  | onBus bus => exact h.same rfl rfl
  | told taken =>
    cases taken with
    | asBefore => exact h.told
    | passPlaced o => exact (grant (b := { b with bus := { b.bus with pass := some o } }) (h.same rfl rfl)).told
    | judged t effect => exact ((h.effect effect).settle t).told

/-- Settles O54: with the place of each link taken apart (`Blocks.Stands`), every operation on a link moves it from one place
to another, so every effect of a step keeps the law. -/
theorem everyStepKeepsTheRelinkLaw : Obligations.EveryStepKeepsTheRelinkLaw := by
  unfold Obligations.EveryStepKeepsTheRelinkLaw
  intro s t law hstep
  exact Blocks.relinked_iff.mp ((Blocks.relinked_iff.mpr law).stepTo (step_stepTo hstep))

end Sys2Proof.Machine
end

section
/-! CERTIFICATE. SET RELINK (R23, R66, R144, R154) and SET NOTICES (R169): what each replaces, and what the enables let
through. -/

namespace Sys2Proof.Machine

/-! ### SET RELINK -/

theorem CompareMask.ofBits_none {v : Byte} (h : 16 ≤ v.toNat) : CompareMask.ofBits v.toNat = none := if_neg (by omega)

theorem CompareMask.ofBits_some {v : Byte} (h : v.toNat < 16) : CompareMask.ofBits v.toNat =
    some { hset := v.getLsbD 0, index := v.getLsbD 1, role := v.getLsbD 2, tag := v.getLsbD 3 } := if_pos h

/-- 11.4: a mask is sent as the bits it was read from. -/
theorem CompareMask.bits_ofBits {n : Nat} (h : n < 16) {m : CompareMask} (hm : CompareMask.ofBits n = some m) :
    m.bits = n := by
  have all : ∀ n < 16, (CompareMask.ofBits n).map CompareMask.bits = some n := by decide
  simpa [hm] using all n h

/-- R23, R66, R144, R154: the four settings brought to the nearer limit. -/
theorem RelinkSettings.clamped_eq (c : RelinkSettings) : c.clamped =
    { window := max 1 (min c.window 8), hold := min c.hold 60000, dark := max 100 (min c.dark 10000),
      phase := max 1 (min c.phase 100) } := by
  simp only [RelinkSettings.clamped, clamp, Nat.zero_max, Nat.min_comm]

/-- The settings that are in range already are answered OK. -/
theorem RelinkSettings.status_eq (c : RelinkSettings) : Status.accepted (c.clamped != c) =
    if max 1 (min c.window 8) = c.window ∧ c.hold ≤ 60000 ∧ 100 ≤ c.dark ∧ c.dark ≤ 10000
      ∧ max 1 (min c.phase 100) = c.phase then .ok else .clamped := by
  have inRange : c.clamped = c ↔ max 1 (min c.window 8) = c.window ∧ c.hold ≤ 60000 ∧ 100 ≤ c.dark ∧ c.dark ≤ 10000
      ∧ max 1 (min c.phase 100) = c.phase := by
    obtain ⟨window, hold, dark, phase⟩ := c
    simp only [RelinkSettings.clamped_eq, RelinkSettings.mk.injEq]
    omega
  simp only [Status.accepted, bne_iff_ne, ne_eq, inRange, ite_not]

theorem judgeRequest_setRelink (tag w h1 h0 d1 d0 ph mask : Byte) (s : State) :
    judgeRequest { kind := 0x03, tag, body := [w, h1, h0, d1, d0, ph, mask] } s
      = ownSetRelink [w, h1, h0, d1, d0, ph, mask] s := rfl

/-- R23: an accepted SET RELINK. -/
theorem ownSetRelink_accepted {w h1 h0 d1 d0 ph mask : Byte} {m : CompareMask} (hm : CompareMask.ofBits mask.toNat = some m)
    (s : State) :
    let c : RelinkSettings := { window := w.toNat, hold := ofU16 h1 h0, dark := ofU16 d1 d0, phase := ph.toNat }
    ownSetRelink [w, h1, h0, d1, d0, ph, mask] s
      = (s.settled (fun b => b.relinkSet c.clamped m), some (.accepted (c.clamped != c), c.clamped.fields m)) := by
  simp only [ownSetRelink, hm, State.accept]

theorem exec_setRelink_accepted {w h1 h0 d1 d0 ph mask : Byte} {m : CompareMask}
    (hm : CompareMask.ofBits mask.toNat = some m) {s : State} (tag : Byte) (ready : s.Ready) :
    let c : RelinkSettings := { window := w.toNat, hold := ofU16 h1 h0, dark := ofU16 d1 d0, phase := ph.toNat }
    exec (.setRelink tag [w, h1, h0, d1, d0, ph, mask]) s = .next
      (s.carriedOut { kind := 0x03, tag, body := [w, h1, h0, d1, d0, ph, mask] } (fun b => b.relinkSet c.clamped m)
        (.accepted (c.clamped != c)) (c.clamped.fields m)) :=
  exec_carriedOut ready rfl ((judgeRequest_setRelink ..).trans (ownSetRelink_accepted hm _))

/-! ### SET NOTICES -/

/-- R176: a byte of 0 or 1 is a named value, and 1 is yes. -/
theorem readYesNo_some {v : Byte} (h : v.toNat ≤ 1) : readYesNo v = some (v == 1) := by
  have small : v = 0 ∨ v = 1 := by
    rcases Nat.le_one_iff_eq_zero_or_eq_one.mp h with h | h
    · exact .inl (BitVec.eq_of_toNat_eq h)
    · exact .inr (BitVec.eq_of_toNat_eq h)
  rcases small with rfl | rfl <;> rfl

theorem readYesNo_none {v : Byte} (h : 1 < v.toNat) : readYesNo v = none := by
  unfold readYesNo
  rw [if_neg, if_neg]
  · rintro rfl; exact absurd h (by decide)
  · rintro rfl; exact absurd h (by decide)

theorem judgeRequest_setNotices (tag a b c d : Byte) (s : State) :
    judgeRequest { kind := 0x04, tag, body := [a, b, c, d] } s = ownSetNotices [a, b, c, d] s := rfl

/-- R169: a byte that is neither yes nor no refuses the request. -/
theorem ownSetNotices_refused {a b c d : Byte} (h : 1 < a.toNat ∨ 1 < b.toNat ∨ 1 < c.toNat ∨ 1 < d.toNat) (s : State) :
    ownSetNotices [a, b, c, d] s = (s, some (.badArg, [])) := by
  unfold ownSetNotices
  dsimp only
  split
  next ha hb hc hd =>
    rcases h with h | h | h | h
    · simp [readYesNo_none h] at ha
    · simp [readYesNo_none h] at hb
    · simp [readYesNo_none h] at hc
    · simp [readYesNo_none h] at hd
  · rfl

/-! ### The obligation -/

/-- Settles O13, from what the owners of SET RELINK and SET NOTICES answer, and the enable of each kind of event. -/
theorem setRelinkAndSetNoticesReplaceTheSettings : Obligations.SetRelinkAndSetNoticesReplaceTheSettings := by
  unfold Obligations.SetRelinkAndSetNoticesReplaceTheSettings
  refine ⟨fun s tag w h1 h0 d1 d0 ph mask ready => ⟨fun high => ?_, fun low => ?_⟩,
    fun s tag a b c d ready => ⟨fun ⟨ha, hb, hc, hd⟩ => ?_, fun high => ?_⟩, fun t p => ?_⟩
  · refine exec_answers ready rfl ?_
    rw [judgeRequest_setRelink, ownSetRelink, CompareMask.ofBits_none high]
    rfl
  · have hm := CompareMask.ofBits_some low
    rw [exec_setRelink_accepted hm tag ready, RelinkSettings.status_eq, RelinkSettings.clamped_eq, RelinkSettings.fields,
      CompareMask.bits_ofBits low hm, byte_toNat]
    simp only [ofU16_eq]
    rfl
  · rw [exec_ready ready rfl, judgeRequest_setNotices, ownSetNotices, readYesNo_some ha, readYesNo_some hb,
      readYesNo_some hc, readYesNo_some hd]
    dsimp only
    rw [State.accept, State.answered_some rfl, State.deliver_quiet (by exact ready.2.1)]
    rfl
  · exact exec_answers ready rfl ((judgeRequest_setNotices ..).trans (ownSetNotices_refused high _))
  · exact ⟨fun _ _ _ _ _ _ => rfl, fun _ _ _ _ => rfl, fun _ _ _ _ => rfl, fun _ _ => rfl, fun _ _ _ => rfl,
      fun _ _ _ _ => rfl, fun _ => rfl⟩

end Sys2Proof.Machine
end

section
/-! CERTIFICATE. The hold timer (R34, R35): when it is due, what its expiry does, and how the head is judged. -/

namespace Sys2Proof.Machine

/-- R172: a command is taken while the pin is not held. -/
theorem State.running_awake {s : State} (awake : s.Awake) (f : State → State) : s.running f = .next (f s) := by
  rw [State.running, awake]
  rfl

/-! ### A deferral (R35, R36) -/

section
variable {b : Blocks} {id : Nat} {l : Link} (t : Nat) (reason : DeferReason)

theorem Blocks.defer_some (hl : b.link id = some l) :
    (b.defer t id reason).link id = some { l with state := .deferred, deferral := some { reason, since := t } }
    ∧ (b.defer t id reason).engine.queue = b.engine.queue.filter (fun q => q != id)
    ∧ (b.defer t id reason).engine.deferred = b.engine.deferred ++ [id]
    ∧ (b.defer t id reason).engine.hold = b.engine.hold
    ∧ (b.defer t id reason).raised = b.raised ++ [.link .deferred id l.cls (some reason)] := by
  unfold Blocks.defer
  rw [hl]
  exact ⟨Blocks.link_modLink_same (b := (b.leaveInFlight id).leaveQueue id) (fun _ => rfl) hl, rfl, rfl, rfl, rfl⟩

theorem Blocks.link_defer_other {k : Nat} (hk : k ≠ id) : (b.defer t id reason).link k = b.link k := by
  unfold Blocks.defer
  split
  · rfl
  · exact Blocks.link_modLink_other (b := (b.leaveInFlight id).leaveQueue id) (fun _ => rfl) hk

end

/-- A list without its head, where the head stands in it once. -/
theorem filter_ne_head {h : Nat} {rest : List Nat} (once : h ∉ rest) : (h :: rest).filter (fun q => q != h) = rest := by
  rw [List.filter_cons_of_neg (by simp)]
  exact List.filter_eq_self.mpr fun k hk => bne_iff_ne.mpr fun e => once (e ▸ hk)

/-! ### The head judged (R34, R35) -/

theorem ShelfState.holds_iff {st : ShelfState} : st.holds = true ↔ st = .standby ∨ st = .settling ∨ st = .recovering := by
  cases st <;> simp [ShelfState.holds]

/-- R34: the four conditions under which the hold timer runs for the head. -/
theorem Blocks.holdDue_iff {c : Blocks} {h : Nat} : c.holdDue = some h ↔ (∃ rest, c.engine.queue = h :: rest)
    ∧ (c.ep.shelf = .standby ∨ c.ep.shelf = .settling ∨ c.ep.shelf = .recovering)
    ∧ ∃ l, c.link h = some l ∧ (l.state = .pending ∨ l.state = .suspect) ∧ c.eligible l = false := by
  constructor
  · intro due
    obtain ⟨rest, l, hq, holds, hl, state, late⟩ := Blocks.holdDue_some due
    exact ⟨⟨rest, hq⟩, ShelfState.holds_iff.mp holds, l, hl, state, late⟩
  · rintro ⟨⟨rest, hq⟩, shelf, l, hl, state, late⟩
    unfold Blocks.holdDue
    rw [hq]
    dsimp only
    rw [hl]
    exact if_pos ⟨ShelfState.holds_iff.mpr shelf, state, late⟩

theorem HoldTimer.any_head {hold : Option HoldTimer} {h : Nat} :
    hold.any (fun x => x.head == h) = true ↔ ∃ left, hold = some { head := h, left } := by
  constructor
  · intro running
    obtain ⟨⟨head, left⟩, hx, hh⟩ := (Option.any_eq_true _ _).mp running
    obtain rfl : head = h := by simpa using hh
    exact ⟨left, hx⟩
  · rintro ⟨left, rfl⟩
    simp

theorem Blocks.judgeHead_due {t n h : Nat} {b : Blocks} (due : b.startRule.activateReady.holdDue = some h) :
    Blocks.judgeHead t (n + 1) b =
      if b.startRule.activateReady.engine.hold.any (fun x => x.head == h) then b.startRule.activateReady
      else if b.startRule.activateReady.engine.holdTime = 0 then
        Blocks.judgeHead t n ((b.startRule.activateReady.setHold none).defer t h .hold)
      else b.startRule.activateReady.setHold (some { head := h, left := b.startRule.activateReady.engine.holdTime }) := by
  rw [Blocks.judgeHead, due]

theorem Blocks.judgeHead_idle {t n : Nat} {b : Blocks} (idle : b.startRule.activateReady.holdDue = none) :
    Blocks.judgeHead t (n + 1) b = b.startRule.activateReady.setHold none := by
  rw [Blocks.judgeHead, idle]

/-- Settles O30, from what a deferral does and the four conditions of the hold timer. -/
theorem holdTimerDefersTheHead : Obligations.HoldTimerDefersTheHead := by
  unfold Obligations.HoldTimerDefersTheHead
  refine ⟨fun s awake => ?_, fun t n b => ⟨fun idle => ?_, fun h due => ?_⟩⟩
  · rw [exec, execHoldTimerExpiry, State.running_awake awake]
    refine ⟨fun stopped => by rw [stopped]; rfl, fun running => ⟨by rw [if_pos running], ?_⟩⟩
    intro h rest l hq once hl
    have expired : s.blk.holdExpired s.time = (s.blk.setHold none).defer s.time h .hold := by
      unfold Blocks.holdExpired; rw [hq]
    obtain ⟨link, queue, deferred, hold, raised⟩ := Blocks.defer_some (b := s.blk.setHold none) s.time .hold hl
    dsimp only
    rw [expired]
    refine ⟨?_, deferred, hold, link, fun k hk => Blocks.link_defer_other (b := s.blk.setHold none) _ _ hk, raised,
      by simp, by simp, by simp⟩
    rw [queue, Blocks.setHold, hq]
    exact filter_ne_head once
  · refine Blocks.judgeHead_idle (Option.eq_none_iff_forall_not_mem.mpr fun h hh => idle h ?_)
    exact Blocks.holdDue_iff.mp hh
  · have judged := Blocks.judgeHead_due (t := t) (n := n) (Blocks.holdDue_iff.mpr due)
    refine ⟨fun left running => ?_, fun stopped => ⟨fun positive => ?_, fun zero => ?_⟩⟩
    · rw [judged, if_pos (HoldTimer.any_head.mpr ⟨left, running⟩)]
    · rw [judged, if_neg (fun any => (HoldTimer.any_head.mp any).elim stopped), if_neg positive]
      rfl
    · rw [judged, if_neg (fun any => (HoldTimer.any_head.mp any).elim stopped), if_pos zero]
      rfl

end Sys2Proof.Machine
end

section
/-! SUPPORT. The entry of a link in the in-flight set (R22) under the operations on one link, and the start rule's loop (R26,
R27). -/

namespace Sys2Proof.Machine

/-! ### An entry read after a change -/

section
variable {b : Blocks} {id k : Nat} {g : InFlight → InFlight}

theorem Blocks.entry_modEntry (hlink : ∀ f, (g f).link = f.link) (k : Nat) :
    (b.modEntry id g).entry k = (b.entry k).map (fun f => if f.link = id then g f else f) := by
  have kept : ∀ f, (if f.link = id then g f else f).link = f.link := fun f => by split <;> simp [hlink]
  simp only [Blocks.entry, Blocks.modEntry, List.find?_map, Function.comp_def, kept]

theorem Blocks.entry_modEntry_same {f : InFlight} (hlink : ∀ f, (g f).link = f.link) (h : b.entry id = some f) :
    (b.modEntry id g).entry id = some (g f) := by
  rw [Blocks.entry_modEntry hlink, h, Option.map_some, if_pos (Blocks.entry_mem h).2]

theorem Blocks.entry_modEntry_other (hlink : ∀ f, (g f).link = f.link) (hk : k ≠ id) :
    (b.modEntry id g).entry k = b.entry k := by
  rw [Blocks.entry_modEntry hlink]
  cases h : b.entry k with
  | none => rfl
  | some f => rw [Option.map_some, if_neg ((Blocks.entry_mem h).2 ▸ hk)]

theorem Blocks.entry_leaveInFlight_same : (b.leaveInFlight id).entry id = none := by
  refine List.find?_eq_none.mpr fun f hf => ?_
  obtain ⟨-, hne⟩ := List.mem_filter.mp (by exact hf)
  simpa using hne

theorem Blocks.entry_leaveInFlight_other (hk : k ≠ id) : (b.leaveInFlight id).entry k = b.entry k := by
  simp only [Blocks.entry, Blocks.leaveInFlight, Blocks.withdraw, Blocks.filterBacklog, List.find?_filter]
  refine List.find?_congr fun f _ => ?_
  by_cases hf : f.link = k
  · simp [hf, hk]
  · simp [hf]

end

/-! ### Activation (R31, R32) -/

section
variable {b : Blocks} {id k : Nat} {l : Link}

theorem Blocks.activate_idle (hl : b.link id = some l) (idle : ¬(l.state = .ready ∧ l.removal = false)) :
    b.activate id = b := by
  unfold Blocks.activate
  rw [hl]
  exact if_neg idle

theorem Blocks.activate_ready (hl : b.link id = some l) (ready : l.state = .ready ∧ l.removal = false) :
    b.activate id = ((b.setLinkState id .activating).modEntry id
      (fun f => { f with step := .activateA, outA := none, outB := none })).putBacklog [engineOrder l .a .activate true] := by
  unfold Blocks.activate
  rw [hl]
  exact if_pos ready

/-- An activation moves its own link alone. -/
theorem Blocks.activate_other (hk : k ≠ id) :
    (b.activate id).link k = b.link k ∧ (b.activate id).entry k = b.entry k := by
  cases hl : b.link id with
  | none => unfold Blocks.activate; rw [hl]; exact ⟨rfl, rfl⟩
  | some l =>
    by_cases ready : l.state = .ready ∧ l.removal = false
    · rw [Blocks.activate_ready hl ready]
      exact ⟨Blocks.link_setLinkState_other .activating hk,
        Blocks.entry_modEntry_other (b := b.setLinkState id .activating) (fun _ => rfl) hk⟩
    · rw [Blocks.activate_idle hl ready]
      exact ⟨rfl, rfl⟩

theorem Blocks.activate_backlog {o : BusOrder} (ho : o ∈ b.engine.backlog) : o ∈ (b.activate id).engine.backlog := by
  unfold Blocks.activate
  split
  · exact ho
  · split
    · exact List.mem_append_left _ ho
    · exact ho

/-- A link whose activation is not due stays as it is, whatever other links are activated. -/
theorem Blocks.activates_idle {ids : List Nat} {b : Blocks} (hl : b.link id = some l)
    (idle : ¬(l.state = .ready ∧ l.removal = false) ∨ id ∉ ids) :
    (ids.foldl Blocks.activate b).link id = some l ∧ (ids.foldl Blocks.activate b).entry id = b.entry id := by
  induction ids generalizing b with
  | nil => exact ⟨hl, rfl⟩
  | cons x ids ih =>
    rw [List.foldl_cons]
    by_cases hx : id = x
    · subst hx
      have idle := idle.resolve_right (fun h => h (List.mem_cons_self ..))
      rw [Blocks.activate_idle hl idle]
      exact ih hl (.inl idle)
    · obtain ⟨link, entry⟩ := Blocks.activate_other (b := b) hx
      rw [← entry]
      exact ih (link.trans hl) (idle.imp_right fun h hm => h (List.mem_cons_of_mem _ hm))

theorem Blocks.activates_backlog {ids : List Nat} {b : Blocks} {o : BusOrder} (ho : o ∈ b.engine.backlog) :
    o ∈ (ids.foldl Blocks.activate b).engine.backlog := by
  induction ids generalizing b with
  | nil => exact ho
  | cons x ids ih => exact ih (Blocks.activate_backlog ho)

/-- R31, R32: a READY link among those considered is activated, once. -/
theorem Blocks.activates_ready {ids : List Nat} {b : Blocks} (hl : b.link id = some l)
    (ready : l.state = .ready ∧ l.removal = false) (hid : id ∈ ids) :
    (ids.foldl Blocks.activate b).link id = some { l with state := .activating }
    ∧ (∀ f, b.entry id = some f →
        (ids.foldl Blocks.activate b).entry id = some { f with step := .activateA, outA := none, outB := none })
    ∧ engineOrder l .a .activate true ∈ (ids.foldl Blocks.activate b).engine.backlog := by
  induction ids generalizing b with
  | nil => cases hid
  | cons x ids ih =>
    rw [List.foldl_cons]
    by_cases hx : id = x
    · subst hx
      have activated := Blocks.activate_ready hl ready
      have link : (b.activate id).link id = some { l with state := .activating } := by
        rw [activated]; exact Blocks.link_setLinkState_same .activating hl
      obtain ⟨stays, entry⟩ := Blocks.activates_idle (ids := ids) link (.inl (by simp))
      refine ⟨stays, fun f hf => entry.trans ?_, Blocks.activates_backlog ?_⟩
      · rw [activated]
        exact Blocks.entry_modEntry_same (b := b.setLinkState id .activating) (fun _ => rfl) hf
      · rw [activated]
        exact List.mem_append_right _ (List.mem_singleton_self _)
    · obtain ⟨link, entry⟩ := Blocks.activate_other (b := b) hx
      rw [← entry]
      exact ih (link.trans hl) ((List.mem_cons.mp hid).resolve_left hx)

end

/-! ### A start and the start rule (R26, R27) -/

theorem Blocks.start_window (b : Blocks) (c : Start) : (b.start c).engine.window = b.engine.window := by
  unfold Blocks.start
  split
  · rfl
  · dsimp only; split <;> rfl

theorem Blocks.start_length {b : Blocks} {c : Start} {l : Link} (hl : b.link c.id = some l) :
    (b.start c).engine.inFlight.length = b.engine.inFlight.length + 1 := by
  unfold Blocks.start
  rw [hl]
  dsimp only
  split <;> simp [Blocks.putBacklog, Blocks.leaveDeferred]

/-- R22: the loop starts nothing at W entries. -/
theorem Blocks.startLoop_full {b : Blocks} (n : Nat) (full : b.engine.window ≤ b.engine.inFlight.length) :
    Blocks.startLoop n b = b := by
  cases n with
  | zero => rfl
  | succ n => exact if_neg (Nat.not_lt.mpr full)

theorem Blocks.startLoop_none {b : Blocks} (n : Nat) (none : b.startChoice = none) : Blocks.startLoop n b = b := by
  cases n with
  | zero => rfl
  | succ n => rw [Blocks.startLoop, none]; exact ite_self _

theorem Blocks.startLoop_some {b : Blocks} {c : Start} (n : Nat) (room : b.engine.inFlight.length < b.engine.window)
    (chosen : b.startChoice = some c) : Blocks.startLoop (n + 1) b = Blocks.startLoop n (b.start c) := by
  rw [Blocks.startLoop, if_pos room, chosen]

/-- R22: the loop never takes the in-flight set beyond W. -/
theorem Blocks.startLoop_bounded {b : Blocks} (n : Nat) (room : b.engine.inFlight.length ≤ b.engine.window) :
    (Blocks.startLoop n b).engine.inFlight.length ≤ b.engine.window := by
  induction n generalizing b with
  | zero => exact room
  | succ n ih =>
    rcases Nat.lt_or_ge b.engine.inFlight.length b.engine.window with lt | ge
    · cases chosen : b.startChoice with
      | none => rw [Blocks.startLoop_none _ chosen]; exact room
      | some c =>
        obtain ⟨l, hl, -⟩ := Blocks.startChoice_startable chosen
        rw [Blocks.startLoop_some n lt chosen, ← Blocks.start_window b c]
        exact ih (by rw [Blocks.start_length hl, Blocks.start_window]; exact lt)
    · rw [Blocks.startLoop_full _ ge]; exact room

/-- Fuel for the room that is left is enough. -/
theorem Blocks.startLoop_succ {b : Blocks} (n : Nat) (enough : b.engine.window ≤ b.engine.inFlight.length + n) :
    Blocks.startLoop (n + 1) b = Blocks.startLoop n b := by
  induction n generalizing b with
  | zero => rw [Blocks.startLoop_full _ enough, Blocks.startLoop_full _ enough]
  | succ n ih =>
    rcases Nat.lt_or_ge b.engine.inFlight.length b.engine.window with lt | ge
    · cases chosen : b.startChoice with
      | none => rw [Blocks.startLoop_none _ chosen, Blocks.startLoop_none _ chosen]
      | some c =>
        obtain ⟨l, hl, -⟩ := Blocks.startChoice_startable chosen
        rw [Blocks.startLoop_some (n + 1) lt chosen, Blocks.startLoop_some n lt chosen]
        exact ih (by rw [Blocks.start_length hl, Blocks.start_window]; omega)
    · rw [Blocks.startLoop_full _ ge, Blocks.startLoop_full _ ge]

end Sys2Proof.Machine
end

section
/-! CERTIFICATE. The start rule and the activation (R22, R25 to R27, R30 to R33, R64): who may start, who starts, what a start
does, and which link is activated. -/

namespace Sys2Proof.Machine

/-! ### Who may start (R25, R27) -/

theorem ShelfState.starts_eq_false {st : ShelfState} : st.starts = false ↔ st = .settling ∨ st = .holdup := by
  cases st <;> simp [ShelfState.starts]

/-- R25, condition 4. -/
theorem Blocks.coverLoaded_iff {b : Blocks} {e : Endpoint} : b.coverLoaded e = true ↔
    ∀ i, e.home = some i → ∃ t, (b.slot t).coveredSlot = some i ∧ (∀ u, u < t → (b.slot u).coveredSlot ≠ some i)
      ∧ (b.slot t).coverLoad.map CoverLoad.done = some true := by
  unfold Blocks.coverLoaded
  split
  next own => simp [own]
  next i hi =>
    simp only [hi, Option.some.injEq, forall_eq']
    split
    next t ht =>
      obtain ⟨holds, first⟩ := Blocks.holder_eq_some.mp ht
      have done : (b.slot t).coverLoad.any (fun c => c.done) = true ↔ (b.slot t).coverLoad.map CoverLoad.done = some true := by
        cases (b.slot t).coverLoad <;> simp
      rw [done]
      constructor
      · exact fun h => ⟨t, holds, first, h⟩
      · rintro ⟨u, holds', first', h⟩
        rwa [Option.some.inj ((Blocks.holder_eq_some.mpr ⟨holds', first'⟩).symm.trans ht)] at h
    next free =>
      refine iff_of_false (by simp) ?_
      rintro ⟨t, holds, first, -⟩
      simp [Blocks.holder_eq_some.mpr ⟨holds, first⟩] at free

theorem Blocks.isLive_iff {b : Blocks} {i : SlotId} : b.isLive i = true ↔ (b.slot i).state = .live := by
  simp [Blocks.isLive]

theorem Blocks.endpointEligible_iff {b : Blocks} {e : Endpoint} : b.endpointEligible e = true ↔
    (b.slot e.slot).state = .live ∧ (b.port (e.home.getD e.slot) e.port).blocked = false
      ∧ ∀ i, e.home = some i → ∃ t, (b.slot t).coveredSlot = some i ∧ (∀ u, u < t → (b.slot u).coveredSlot ≠ some i)
        ∧ (b.slot t).coverLoad.map CoverLoad.done = some true := by
  rw [Blocks.endpointEligible, Bool.and_eq_true, Bool.and_eq_true, Blocks.isLive_iff, Blocks.coverLoaded_iff,
    Blocks.endpointBlocked, Bool.not_eq_true', and_assoc]

theorem Blocks.intact_iff {b : Blocks} {i : SlotId} :
    b.intact i = true ↔ (b.slot i).state = .live ∧ (b.slot i).latestId = some .intact := by
  rw [Blocks.intact, Bool.and_eq_true, Blocks.isLive_iff, beq_iff_eq]

/-! ### Who starts (R27) -/

/-- The first id of a list whose record satisfies a condition. -/
theorem Blocks.find_first {b : Blocks} {p : Link → Bool} {may : Link → Prop} (hp : ∀ l, p l = true ↔ may l)
    {before after : List Nat} {id : Nat} (found : ∃ l, b.link id = some l ∧ may l)
    (none : ∀ k ∈ before, ∀ l, b.link k = some l → ¬may l) :
    (before ++ id :: after).find? (fun id => (b.link id).any p) = some id := by
  obtain ⟨l, hl, hm⟩ := found
  refine List.find?_eq_some_iff_append.mpr ⟨by rw [hl]; exact (hp l).mpr hm, before, after, rfl, fun k hk => ?_⟩
  cases h : b.link k with
  | none => rfl
  | some m => simpa [← hp] using none k hk m h

theorem Blocks.find_none {b : Blocks} {p : Link → Bool} {may : Link → Prop} (hp : ∀ l, p l = true ↔ may l) {ids : List Nat}
    (none : ∀ k ∈ ids, ∀ l, b.link k = some l → ¬may l) : ids.find? (fun id => (b.link id).any p) = Option.none := by
  refine List.find?_eq_none.mpr fun k hk => ?_
  cases h : b.link k with
  | none => simp
  | some m => simpa [← hp] using none k hk m h

theorem Link.heldBack_iff (b : Blocks) (l : Link) : (l.deferral.any (fun d => d.reason == .hold) && b.eligible l) = true ↔
    l.deferral.map Deferral.reason = some .hold ∧ b.eligible l = true := by
  cases l.deferral <;> simp

/-! ### What a start does (R22, R27, R30, R64) -/

/-- The record of a link that starts. -/
def Link.started (l : Link) (c : Start) : Link :=
  { l with
    state := if c.survey then .verifying else .preparing
    deferral := if c.origin = .deferred then none else l.deferral
    late := if c.origin = .deferred then true else l.late }

theorem Blocks.start_some {b : Blocks} {c : Start} {l : Link} (hl : b.link c.id = some l) :
    b.start c = { b with
      store := (b.start c).store
      engine := { b.engine with
        deferred := if c.origin = .deferred then b.engine.deferred.filter (fun k => k != c.id) else b.engine.deferred
        inFlight := b.engine.inFlight ++ [.new c.id c.origin (if c.survey then .survey else .attach)]
        backlog := b.engine.backlog ++ [engineOrder l .a (if c.survey then .survey else .attach) true,
          engineOrder l .b (if c.survey then .survey else .attach) true] } }
    ∧ (b.start c).store = { b.store with links := (b.start c).store.links }
    ∧ (b.start c).link c.id = some (l.started c)
    ∧ ∀ k, k ≠ c.id → (b.start c).link k = b.link k := by
  unfold Blocks.start
  rw [hl]
  dsimp only
  by_cases ho : c.origin = .deferred
  · have late := Blocks.link_modLink_same (b := b.leaveDeferred c.id) (f := fun l => { l with deferral := none, late := true })
      (fun _ => rfl) hl
    simp only [if_pos ho, Link.started]
    refine ⟨rfl, rfl, Blocks.link_setLinkState_same _ late, fun k hk => ?_⟩
    exact (Blocks.link_setLinkState_other _ hk).trans
      (Blocks.link_modLink_other (b := b.leaveDeferred c.id) (f := fun l => { l with deferral := none, late := true })
        (fun _ => rfl) hk)
  · simp only [if_neg ho, Link.started]
    exact ⟨rfl, rfl, Blocks.link_setLinkState_same _ hl, fun k hk => Blocks.link_setLinkState_other _ hk⟩

/-- R28, R30, R64: the order of a start for one end. -/
theorem engineOrder_start (l : Link) (e : LinkEnd) (survey : Bool) :
    engineOrder l e (if survey then .survey else .attach) true =
      { slot := (l.endpoint e).slot, code := if survey then .survey else .attach, first := (l.endpoint e).port.val, count := 1
        send := if survey then [] else
          [[1, byte l.hset.code] ++ u16 l.index ++ (match e with | .a => 0 | .b => 1) :: u16 l.id]
        purpose := .engine { link := l.id, lend := e, current := true, opened := false } } := by
  cases survey <;> cases e <;> rfl

/-! ### Which links are considered for activation (R31, R33) -/

theorem Blocks.mem_considered {b : Blocks} {id : Nat} :
    id ∈ b.engine.queue.take 1 ++ (b.engine.inFlight.filter (fun f => f.origin == .deferred)).map InFlight.link ↔
      b.engine.queue.head? = some id ∨ ∃ f ∈ b.engine.inFlight, f.link = id ∧ f.origin = .deferred := by
  have head : id ∈ b.engine.queue.take 1 ↔ b.engine.queue.head? = some id := by
    cases b.engine.queue <;> simp [eq_comm]
  rw [List.mem_append, head, List.mem_map]
  simp only [List.mem_filter, beq_iff_eq, and_assoc, and_comm (a := InFlight.link _ = id)]

/-- R31 to R33: an activation is due. -/
def Blocks.ActivationDue (b : Blocks) (id : Nat) (l : Link) : Prop :=
  l.state = .ready ∧ l.removal = false
    ∧ (b.engine.queue.head? = some id ∨ ∃ f ∈ b.engine.inFlight, f.link = id ∧ f.origin = .deferred)

theorem Blocks.activateReady_idle {b : Blocks} {id : Nat} {l : Link} (hl : b.link id = some l)
    (idle : ¬b.ActivationDue id l) : b.activateReady.link id = some l ∧ b.activateReady.entry id = b.entry id := by
  refine Blocks.activates_idle hl ?_
  rw [Blocks.mem_considered]
  by_contra h
  rw [not_or, not_not, not_not] at h
  obtain ⟨⟨ready, kept⟩, considered⟩ := h
  exact idle ⟨ready, kept, considered⟩

theorem Blocks.activateReady_due {b : Blocks} {id : Nat} {l : Link} (hl : b.link id = some l)
    (due : b.ActivationDue id l) :
    b.activateReady.link id = some { l with state := .activating }
    ∧ (∀ f, b.entry id = some f →
        b.activateReady.entry id = some { f with step := .activateA, outA := none, outB := none })
    ∧ engineOrder l .a .activate true ∈ b.activateReady.engine.backlog :=
  Blocks.activates_ready hl ⟨due.1, due.2.1⟩ (Blocks.mem_considered.mpr due.2.2)

/-- Settles O31, from the start rule's loop, the three choices, what a start and an activation do. -/
theorem startsAndActivationsAreBounded : Obligations.StartsAndActivationsAreBounded := by
  unfold Obligations.StartsAndActivationsAreBounded
  refine ⟨fun b => ⟨fun full => ?_, fun room => ?_, fun rests => ?_, fun _ _ none => ?_, fun ns nh room small c chosen => ?_⟩,
    fun b l => ⟨?_, ?_⟩, fun b => ?_, fun b id origin survey l hl => ?_, fun b id l m hl hm rests activating => ?_,
    fun b id l hl => ⟨Blocks.activateReady_idle hl, fun due => ?_⟩⟩
  · rw [Blocks.startRule, Blocks.startLoop_full _ full, ite_self]
  · unfold Blocks.startRule
    split
    · exact Blocks.startLoop_bounded _ room.le
    · exact room.le
  · rw [Blocks.startRule, ShelfState.starts_eq_false.mpr rests]
    rfl
  · rw [Blocks.startRule, Blocks.startLoop_none _ none, ite_self]
  · have starts : b.ep.shelf.starts = true := by
      rw [← Bool.not_eq_false, ShelfState.starts_eq_false]
      exact not_or.mpr ⟨ns, nh⟩
    obtain ⟨l, hl, -⟩ := Blocks.startChoice_startable chosen
    have shelf : (b.start c).ep = b.ep := by simp
    rw [Blocks.startRule, Blocks.startRule, shelf, if_pos starts, if_pos starts, Blocks.startLoop_some 7 room chosen,
      Blocks.startLoop_succ 7 (by rw [Blocks.start_length hl, Blocks.start_window]; omega)]
  · simp only [Blocks.eligible, Bool.and_eq_true, Blocks.endpointEligible_iff, Bool.not_eq_true', List.forall_mem_cons,
      List.not_mem_nil, false_implies, implies_true, and_true]
    exact and_comm
  · simp only [Blocks.verifiable, Bool.and_eq_true, Blocks.intact_iff, Bool.not_eq_true', beq_iff_eq, List.forall_mem_cons,
      List.not_mem_nil, false_implies, implies_true, and_true]
    tauto
  · have prepared : ∀ l : Link, (l.state == .pending && b.eligible l) = true ↔ l.state = .pending ∧ b.eligible l = true :=
      fun l => by simp
    refine ⟨fun id ⟨before, after, hids, found, earlier⟩ => ?_, fun noneVerified =>
      ⟨fun id ⟨before, after, hids, found, earlier⟩ => ?_, fun nonePrepared =>
        ⟨fun id ⟨before, after, hids, found, earlier⟩ => ?_, fun noneRetried => ?_⟩⟩⟩
    · rw [Blocks.startChoice, hids, Blocks.find_first (fun _ => Iff.rfl) found earlier]
    · rw [Blocks.startChoice, Blocks.find_none (fun _ => Iff.rfl) noneVerified, hids, Blocks.find_first prepared found earlier]
    · rw [Blocks.startChoice, Blocks.find_none (fun _ => Iff.rfl) noneVerified, Blocks.find_none prepared nonePrepared, hids,
        Blocks.find_first (Link.heldBack_iff b) found earlier]
    · rw [Blocks.startChoice, Blocks.find_none (fun _ => Iff.rfl) noneVerified, Blocks.find_none prepared nonePrepared,
        Blocks.find_none (Link.heldBack_iff b) noneRetried]
  · obtain ⟨blocks, store, same, others⟩ := Blocks.start_some (c := { id, origin, survey }) hl
    obtain rfl := Blocks.link_id hl
    refine ⟨blocks.trans ?_, same, others⟩
    rw [store, engineOrder_start, engineOrder_start]
    rfl
  · by_contra idle
    obtain ⟨stays, -⟩ := Blocks.activateReady_idle hl idle
    exact rests (Option.some.inj (hm.symm.trans stays) ▸ activating)
  · obtain ⟨link, entry, order⟩ := Blocks.activateReady_due hl due
    obtain rfl := Blocks.link_id hl
    exact ⟨link, entry, _, order, rfl, rfl, rfl, rfl⟩

end Sys2Proof.Machine
end

section
/-! SUPPORT. What the relink engine judges of one link (R36, R42, R43, R45), and the placing of its orders (R28). -/

namespace Sys2Proof.Machine

/-! ### Orders outstanding -/

theorem Blocks.outstanding_eq_false {b : Blocks} {id : Nat} :
    b.outstanding id = false ↔ ∀ o ∈ b.bus.relinkQueue, o.forLink id = false := by
  simp [Blocks.outstanding]

/-- R29: an order made stale names the link it named. -/
theorem BusOrder.forLink_stale (o : BusOrder) (x id : Nat) :
    (if o.forLink x then o.modTag (fun e => { e with current := false }) else o).forLink id = o.forLink id := by
  split
  · obtain ⟨slot, code, first, count, send, purpose⟩ := o
    cases purpose <;> rfl
  · rfl

theorem Blocks.outstanding_leaveInFlight (b : Blocks) (x id : Nat) : (b.leaveInFlight x).outstanding id = b.outstanding id := by
  simp only [Blocks.outstanding, Blocks.leaveInFlight, List.any_map, Function.comp_def, BusOrder.forLink_stale]
  rfl

theorem Blocks.backlog_leaveInFlight {b : Blocks} {id : Nat} {o : BusOrder}
    (ho : o ∈ (b.leaveInFlight id).engine.backlog) : o ∈ b.engine.backlog ∧ o.forLink id = false := by
  obtain ⟨ho, hl⟩ := List.mem_filter.mp (by exact ho)
  exact ⟨ho, by simpa using hl⟩

/-! ### Flagged links (R42) -/

/-- The record, the entry, the collections and the outstanding orders of a link stand as before. -/
structure Blocks.LeavesLink (b c : Blocks) (id : Nat) : Prop where
  link : c.link id = b.link id
  entry : c.entry id = b.entry id
  queue : id ∈ c.engine.queue ↔ id ∈ b.engine.queue
  deferred : id ∈ c.engine.deferred ↔ id ∈ b.engine.deferred
  outstanding : c.outstanding id = b.outstanding id

theorem Blocks.LeavesLink.refl (b : Blocks) (id : Nat) : b.LeavesLink b id := ⟨rfl, rfl, Iff.rfl, Iff.rfl, rfl⟩

theorem Blocks.LeavesLink.trans {b c d : Blocks} {id : Nat} (h : b.LeavesLink c id) (h' : c.LeavesLink d id) :
    b.LeavesLink d id :=
  ⟨h'.link.trans h.link, h'.entry.trans h.entry, h'.queue.trans h.queue, h'.deferred.trans h.deferred,
    h'.outstanding.trans h.outstanding⟩

/-- R42: the link is RELEASING and in no collection. -/
structure Blocks.Gone (c : Blocks) (id : Nat) (l : Link) : Prop where
  link : c.link id = some { l with state := .releasing, deferral := none }
  entry : c.entry id = none
  queue : id ∉ c.engine.queue
  deferred : id ∉ c.engine.deferred
  backlog : ∀ o ∈ c.engine.backlog, o.forLink id = false

theorem Blocks.release_leavesLink {b : Blocks} {x id : Nat} (h : id ≠ x) : b.LeavesLink (b.release x) id where
  link := Blocks.link_release_other h
  entry := Blocks.entry_leaveInFlight_other (b := b) h
  queue := by rw [Blocks.release_eq]; simp [h]
  deferred := by rw [Blocks.release_eq]; simp [h]
  outstanding := b.outstanding_leaveInFlight x id

theorem Blocks.gone_release {b : Blocks} {id : Nat} {l : Link} (hl : b.link id = some l) : (b.release id).Gone id l where
  link := Blocks.link_release_same hl
  entry := Blocks.entry_leaveInFlight_same (b := b)
  queue := by rw [Blocks.release_eq]; simp
  deferred := by rw [Blocks.release_eq]; simp
  backlog := fun _ ho => (Blocks.backlog_leaveInFlight (b := b) ho).2

/-- Releasing another link, or the same one again, leaves a released link gone. -/
theorem Blocks.Gone.release {c : Blocks} {id : Nat} {l : Link} (h : c.Gone id l) (x : Nat) : (c.release x).Gone id l := by
  by_cases hx : id = x
  · subst hx
    obtain ⟨link, entry, queue, deferred, backlog⟩ := Blocks.gone_release h.link
    exact ⟨link, entry, queue, deferred, backlog⟩
  · obtain ⟨link, entry, queue, deferred, -⟩ := Blocks.release_leavesLink (b := c) hx
    exact ⟨link.trans h.link, entry.trans h.entry, queue.not.mpr h.queue, deferred.not.mpr h.deferred,
      fun o ho => h.backlog o (Blocks.backlog_leaveInFlight (b := c) ho).1⟩

/-- R42: one link judged. -/
def Blocks.flagOne (b : Blocks) (id : Nat) : Blocks :=
  if (b.link id).any (fun l => l.removal) && !b.outstanding id then b.release id else b

theorem Blocks.flagPass_eq (b : Blocks) : b.flagPass = (b.engine.inFlight.map InFlight.link).foldl Blocks.flagOne b := rfl

theorem Blocks.Gone.flagged {c : Blocks} {id : Nat} {l : Link} (h : c.Gone id l) (ids : List Nat) :
    (ids.foldl Blocks.flagOne c).Gone id l := by
  induction ids generalizing c with
  | nil => exact h
  | cons x ids ih =>
    refine ih ?_
    unfold Blocks.flagOne
    split
    · exact h.release x
    · exact h

theorem Blocks.flagOne_leavesLink {b : Blocks} {x id : Nat} (h : id ≠ x) : b.LeavesLink (b.flagOne x) id := by
  unfold Blocks.flagOne
  split
  · exact Blocks.release_leavesLink h
  · exact .refl b id

theorem Blocks.flags_gone {ids : List Nat} {b : Blocks} {id : Nat} {l : Link} (hl : b.link id = some l) (hid : id ∈ ids)
    (removal : l.removal = true) (ended : b.outstanding id = false) : (ids.foldl Blocks.flagOne b).Gone id l := by
  induction ids generalizing b with
  | nil => cases hid
  | cons x ids ih =>
    rw [List.foldl_cons]
    by_cases hx : id = x
    · subst hx
      have released : b.flagOne id = b.release id := if_pos (by simp [hl, removal, ended])
      rw [released]
      exact (Blocks.gone_release hl).flagged ids
    · have leaves := Blocks.flagOne_leavesLink (b := b) hx
      exact ih (leaves.link.trans hl) ((List.mem_cons.mp hid).resolve_left hx) (leaves.outstanding.trans ended)

theorem Blocks.flags_leavesLink {ids : List Nat} {b : Blocks} {id : Nat} {l : Link} (hl : b.link id = some l)
    (stays : id ∉ ids ∨ l.removal = false ∨ b.outstanding id = true) : b.LeavesLink (ids.foldl Blocks.flagOne b) id := by
  induction ids generalizing b with
  | nil => exact .refl b id
  | cons x ids ih =>
    rw [List.foldl_cons]
    by_cases hx : id = x
    · subst hx
      have stays := stays.resolve_left (fun h => h (List.mem_cons_self ..))
      have same : b.flagOne id = b := if_neg (by rcases stays with h | h <;> simp [hl, h])
      rw [same]
      exact ih hl (.inr stays)
    · have leaves := Blocks.flagOne_leavesLink (b := b) hx
      refine leaves.trans (ih (leaves.link.trans hl) ?_)
      rw [leaves.outstanding]
      exact stays.imp_left fun h hm => h (List.mem_cons_of_mem _ hm)

theorem Blocks.flagPass_releases (b : Blocks) : FlaggedLinksRelease b b.flagPass := by
  intro id l hl
  rw [← Blocks.outstanding_eq_false, Blocks.flagPass_eq]
  have flying : (∃ f ∈ b.engine.inFlight, f.link = id) ↔ id ∈ b.engine.inFlight.map InFlight.link := by simp
  rw [flying]
  refine ⟨fun ⟨hid, removal, ended⟩ => ?_, fun stays => ?_⟩
  · obtain ⟨link, entry, queue, deferred, backlog⟩ := Blocks.flags_gone hl hid removal ended
    exact ⟨link, entry, queue, deferred, backlog⟩
  · obtain ⟨link, entry, queue, deferred, -⟩ := Blocks.flags_leavesLink (ids := b.engine.inFlight.map InFlight.link) hl (by
      rw [not_and_or, not_and_or, Bool.not_eq_true, Bool.not_eq_false] at stays
      exact stays)
    exact ⟨link.trans hl, entry, queue, deferred⟩

/-! ### Refusal paths (R36) -/

theorem engineOrder_detach (l : Link) (e : LinkEnd) (current : Bool) :
    engineOrder l e .detach current = detachOrder l e current := rfl

theorem Blocks.entry_defer_other {b : Blocks} {id k : Nat} (t : Nat) (reason : DeferReason) (hk : k ≠ id) :
    (b.defer t id reason).entry k = b.entry k := by
  unfold Blocks.defer
  split
  · rfl
  · exact Blocks.entry_leaveInFlight_other (b := b) hk

theorem Blocks.defer_leaves {b : Blocks} {id : Nat} {l : Link} (t : Nat) (reason : DeferReason) (hl : b.link id = some l) :
    (b.defer t id reason).entry id = none ∧ ∀ o ∈ (b.defer t id reason).engine.backlog, o.forLink id = false := by
  unfold Blocks.defer
  rw [hl]
  exact ⟨Blocks.entry_leaveInFlight_same (b := b), fun _ ho => (Blocks.backlog_leaveInFlight (b := b) ho).2⟩

theorem Link.noneAttached_iff {l : Link} : l.noneAttached = true ↔ ¬(l.attA = true ∨ l.attB = true) := by
  simp [Link.noneAttached]

theorem Blocks.refuse_judged (t : Nat) (b : Blocks) (id : Nat) : RefusalJudged t b (Blocks.refuse t b id) id := by
  intro f l he hl
  rw [← Blocks.outstanding_eq_false]
  have judge : Blocks.refuse t b id =
      if f.refused = true ∧ l.removal = false ∧ b.outstanding id = false then
        if l.noneAttached then b.defer t id .refused
        else if f.step = .detach then b
        else (b.modEntry id (fun f => { f with step := .detach, outA := none, outB := none })).putBacklog
          ((if l.attA then [detachOrder l .a true] else []) ++ (if l.attB then [detachOrder l .b true] else []))
      else b := by
    unfold Blocks.refuse
    rw [he, hl]
    simp only [engineOrder_detach, Bool.and_eq_true, Bool.not_eq_true', and_assoc]
  rw [judge]
  refine ⟨fun idle => if_neg idle, fun judged none => ?_, fun judged attached detaching => ?_,
    fun judged attached starts => ?_⟩
  · rw [if_pos judged, if_pos (Link.noneAttached_iff.mpr none)]
    obtain ⟨link, queue, deferred, -, raised⟩ := Blocks.defer_some t .refused hl
    obtain ⟨entry, backlog⟩ := Blocks.defer_leaves t .refused hl
    exact ⟨link, fun k hk => ⟨Blocks.link_defer_other t _ hk, Blocks.entry_defer_other t _ hk⟩, deferred, queue, entry,
      backlog, raised, by simp, by simp⟩
  · rw [if_pos judged, if_neg (fun h => Link.noneAttached_iff.mp h attached), if_pos detaching]
  · rw [if_pos judged, if_neg (fun h => Link.noneAttached_iff.mp h attached), if_neg starts]
    refine ⟨?_, Blocks.entry_modEntry_same (fun _ => rfl) he, fun k hk => Blocks.entry_modEntry_other (fun _ => rfl) hk⟩
    rw [List.append_assoc]
    rfl

/-! ### RELEASING links (R43, R45) -/

/-- R43: a DETACH is decided for an end. -/
def Blocks.wantsDetach (b : Blocks) (l : Link) (lend : LinkEnd) : Bool :=
  l.attached lend && (b.slot (l.endpoint lend).slot).state == .live
    && (b.bus.relinkQueue ++ b.engine.backlog).all (fun o => !(o.code == .detach && o.forEnd l.id lend))

theorem Blocks.decideDetach_eq (b : Blocks) (l : Link) (lend : LinkEnd) :
    b.decideDetach l lend = b.putBacklog (if b.wantsDetach l lend then [detachOrder l lend false] else []) := by
  have pending : (!b.detachPending l.id lend) =
      (b.bus.relinkQueue ++ b.engine.backlog).all (fun o => !(o.code == .detach && o.forEnd l.id lend)) := by
    rw [Blocks.detachPending, List.not_any_eq_all_not]
  rw [Blocks.decideDetach, pending, engineOrder_detach]
  change (if b.wantsDetach l lend = true then _ else b) = _
  split
  · rfl
  · simp [Blocks.putBacklog]

/-- R43: a DETACH for one end is none for the other. -/
theorem Blocks.wantsDetach_putBacklog {b : Blocks} {l : Link} {lend other : LinkEnd} (h : lend ≠ other) (current p : Bool) :
    (b.putBacklog (if p then [detachOrder l lend current] else [])).wantsDetach l other = b.wantsDetach l other := by
  have apart : (detachOrder l lend current).forEnd l.id other = false := by
    simp [BusOrder.forEnd, BusOrder.etag, detachOrder, h]
  cases p
  · simp [Blocks.wantsDetach, Blocks.putBacklog, Blocks.slot]
  · simp [Blocks.wantsDetach, Blocks.putBacklog, Blocks.slot, apart]

theorem Blocks.releaseOne_judged (b : Blocks) (id : Nat) : ReleaseJudged b (b.releaseOne id) id := by
  intro l hl
  obtain rfl := Blocks.link_id hl
  rw [← Blocks.outstanding_eq_false]
  have judge : b.releaseOne l.id = if l.state = .releasing then
      if l.attA = false ∧ l.attB = false ∧ b.outstanding l.id = false then { b with store := b.store.delete l.id }
      else (b.decideDetach l .a).decideDetach l .b
    else b := by
    unfold Blocks.releaseOne
    rw [hl]
    simp only [Link.noneAttached, Bool.and_eq_true, Bool.not_eq_true', and_assoc]
  rw [judge]
  refine ⟨fun other => if_neg other, fun releasing gone => ?_, fun releasing stays => ?_⟩
  · rw [if_pos releasing, if_pos gone]
    rfl
  · rw [if_pos releasing, if_neg stays, Blocks.decideDetach_eq, Blocks.decideDetach_eq,
      Blocks.wantsDetach_putBacklog (by decide)]
    rfl

/-! ### The placing of orders (R28) -/

theorem Blocks.placeBacklog_oldest (b : Blocks) :
    (∃ placed, b.placeBacklog = { b with bus := { b.bus with relinkQueue := b.bus.relinkQueue ++ placed }
                                         engine := { b.engine with backlog := b.placeBacklog.engine.backlog } }
        ∧ b.engine.backlog = placed ++ b.placeBacklog.engine.backlog
        ∧ (placed ≠ [] → b.placeBacklog.bus.relinkQueue.length ≤ 16))
      ∧ (b.placeBacklog.engine.backlog = [] ∨ 16 ≤ b.placeBacklog.bus.relinkQueue.length) := by
  simp only [Blocks.placeBacklog, Config.requesterPlaces, List.length_append, List.length_take, List.drop_eq_nil_iff]
  refine ⟨⟨b.engine.backlog.take (16 - b.bus.relinkQueue.length), rfl, (List.take_append_drop _ _).symm, fun placed => ?_⟩, ?_⟩
  · have room : 16 - b.bus.relinkQueue.length ≠ 0 := fun h => placed (by rw [h, List.take_zero])
    omega
  · omega

/-! ### The report of an order of another requester (R89, R92, R157) -/

/-- R92: a LIVE slot whose card restarted, whatever it holds. -/
theorem Blocks.cardRestart_identifying {b : Blocks} {i : SlotId} (live : (b.slot i).state = .live) :
    ((b.cardRestart i).slot i).state = .identifying ∧ ((b.cardRestart i).slot i).latestId = some .fresh := by
  have state : ((b.changeState i .identifying).slot i).state = .identifying := Blocks.changeState_state b i .identifying
  have left : (((b.changeState i .identifying).spareLeftLive i).slot i).state = .identifying := by
    unfold Blocks.spareLeftLive
    split
    · exact state
    next s _ =>
      split
      next covered =>
        have apart : i ≠ s := fun e => by rw [← e, state] at covered; cases covered
        rw [Blocks.slot_tally, Blocks.changeState_other _ _ apart, Blocks.slot_modSlot_other _ _ _ _ apart]
        exact state
      · exact state
  rw [Blocks.cardRestart_slot live, Blocks.startDeadline, Blocks.slot_modSlot_same, Blocks.slot_modSlot_same]
  exact ⟨left, rfl⟩

end Sys2Proof.Machine
end

section
/-! SUPPORT. The outcomes of the engine's orders (R29, R30, R32, R36, R64, R65): what they do to the ends, to the entry, and what
is then judged of the link's present step. -/

namespace Sys2Proof.Machine

/-! ### The report of an order of another requester (R89, R92, R157) -/

/-- R157: FRESH and NO_ANSWER of an order of another requester reach the slot registry as the slots stood. -/
theorem Blocks.deliver_reports {t : Nat} {b : Blocks} {o : BusOrder} (out : OrderOutcome) (given : List (List Byte))
    (other : ∀ use, o.purpose ≠ .registry use) :
    ∃ x : Blocks, Blocks.deliver t b o out given = x.busReport o.slot out ∧ x.reg = b.reg := by
  unfold Blocks.deliver
  dsimp only
  split
  next use hp => exact absurd hp (other use)
  next e _ => exact ⟨_, rfl, by simp⟩
  · exact ⟨_, rfl, rfl⟩

theorem Blocks.busReport_lost {b : Blocks} {i : SlotId} (inService : (b.slot i).state.inService = true) :
    LostFor (b.busReport i .noAnswer) i .silent := by
  have lost : b.busReport i .noAnswer = b.lose i .silent := if_pos inService
  rw [lost]
  exact b.lose_lostFor i .silent

theorem Blocks.busReport_fresh {b : Blocks} {i : SlotId} (live : (b.slot i).state = .live) :
    ((b.busReport i .fresh).slot i).state = .identifying ∧ ((b.busReport i .fresh).slot i).latestId = some .fresh
      ∧ EndsDetached (b.busReport i .fresh) i := by
  obtain ⟨state, latest⟩ := Blocks.cardRestart_identifying live
  refine ⟨state, latest, ?_⟩
  have restarts : b.cardRestart i = _ := if_pos (Blocks.isLive_iff.mpr live)
  rw [Blocks.busReport, restarts]
  exact Blocks.endsDetached_slotInPlace _ i

/-! ### Ends attached (R29) -/

/-- R29: a DONE ATTACH or ACTIVATE attaches the end, unless the switch was opened or the end stands elsewhere. -/
def EngineTag.Attaches (e : EngineTag) (o : BusOrder) (out : OrderOutcome) (l : Link) : Prop :=
  (o.code = .attach ∨ o.code = .activate) ∧ out = .done ∧ e.opened = false
    ∧ ((l.endpoint e.lend).slot = o.slot ∨ (l.endpoint e.lend).home = some o.slot)

/-- R29: the outcomes that leave the end detached. -/
def BusOrder.Detaches (o : BusOrder) (out : OrderOutcome) : Prop :=
  (o.code ∈ [OrderCode.attach, .activate, .survey] ∧ out = .fresh) ∨ (o.code = .detach ∧ out ≠ .noAnswer)

/-- R29: the record of a link after the outcome was accounted. -/
inductive Link.Accounted (l : Link) (o : BusOrder) (e : EngineTag) (out : OrderOutcome) : Link → Prop
  | attaches (h : e.Attaches o out l) : Accounted l o e out (l.setAttached e.lend true)
  | detaches (h : o.Detaches out) (h' : ¬e.Attaches o out l) : Accounted l o e out (l.setAttached e.lend false)
  | stays (h : ¬e.Attaches o out l) (h' : ¬o.Detaches out) : Accounted l o e out l

theorem Link.setAttached_attached (l : Link) (e : LinkEnd) (v : Bool) : (l.setAttached e v).attached e = v := by
  cases e <;> rfl

theorem Link.setAttached_other (l : Link) {e x : LinkEnd} (v : Bool) (h : x ≠ e) :
    (l.setAttached e v).attached x = l.attached x := by
  cases e <;> cases x
  case a.a | b.b => exact absurd rfl h
  case a.b | b.a => rfl

/-- Attaching or detaching an end changes nothing else of the record. -/
theorem Link.setAttached_eq (l : Link) (e : LinkEnd) (v : Bool) : l.setAttached e v =
    { l with attA := (l.setAttached e v).attA, attB := (l.setAttached e v).attB } := by
  cases e <;> rfl

theorem Link.Accounted.eq {l m : Link} {o : BusOrder} {e : EngineTag} {out : OrderOutcome} (h : l.Accounted o e out m) :
    m = { l with attA := m.attA, attB := m.attB } := by
  cases h
  case attaches | detaches => exact l.setAttached_eq _ _
  case stays => rfl

theorem OrderOutcome.answered {out : OrderOutcome} (h : out ≠ .noAnswer) : out = .done ∨ out = .refused ∨ out = .fresh := by
  cases out <;> simp at h ⊢

theorem Blocks.accountEnds_account {b : Blocks} {o : BusOrder} {e : EngineTag} {out : OrderOutcome} {l : Link}
    (hl : b.link e.link = some l) :
    ∃ m, (b.accountEnds o e out).link e.link = some m ∧ l.Accounted o e out m := by
  have detached : ∀ h : o.Detaches out, ¬e.Attaches o out l →
      ∃ m, (b.detachEnd e.link e.lend).link e.link = some m ∧ l.Accounted o e out m := fun h h' =>
    ⟨_, Blocks.link_modLink_same (b := b.filterBacklog _) (fun l => by cases e.lend <;> rfl) hl, .detaches h h'⟩
  have attached : ∀ {c : Blocks}, (o.code = .attach ∨ o.code = .activate) → out = .done →
      c = (if e.opened || (b.link e.link).any (fun l => !(l.endpoint e.lend).names o.slot) then b
        else b.modLink e.link (fun l => l.setAttached e.lend true)) →
      ∃ m, c.link e.link = some m ∧ l.Accounted o e out m := by
    rintro c code rfl rfl
    have stands : (e.opened || (b.link e.link).any (fun l => !(l.endpoint e.lend).names o.slot)) = false ↔
        e.opened = false ∧ ((l.endpoint e.lend).slot = o.slot ∨ (l.endpoint e.lend).home = some o.slot) := by
      rw [hl, Bool.or_eq_false_iff, Option.any_some, Bool.not_eq_false', Endpoint.names_iff]
    split
    next away =>
      refine ⟨l, hl, .stays (fun h => ?_) (fun h => ?_)⟩
      · rw [stands.mpr h.2.2] at away
        cases away
      · rcases h with ⟨-, h⟩ | ⟨h, -⟩
        · cases h
        · rcases code with c | c <;> rw [c] at h <;> cases h
    next here =>
      refine ⟨_, Blocks.link_modLink_same (fun l => by cases e.lend <;> rfl) hl, .attaches ⟨code, rfl, ?_⟩⟩
      exact stands.mp (by simpa using here)
  unfold Blocks.accountEnds
  split
  case h_1 code => exact attached (.inl code) rfl rfl
  case h_2 code => exact attached (.inr code) rfl rfl
  case h_3 code | h_4 code | h_5 code =>
    exact detached (.inl ⟨by simp [code], rfl⟩) fun h => by cases h.2.1
  case h_6 code | h_7 code | h_8 code =>
    refine detached (.inr ⟨code, by simp⟩) fun h => ?_
    rcases h.1 with c | c <;> rw [code] at c <;> cases c
  case h_9 n1 n2 n3 n4 n5 n6 n7 n8 =>
    refine ⟨l, hl, .stays (fun h => ?_) (fun h => ?_)⟩
    · obtain ⟨code | code, done, -⟩ := h
      · exact n1 code done
      · exact n2 code done
    · rcases h with ⟨code, fresh⟩ | ⟨code, answered⟩
      · simp only [List.mem_cons, List.not_mem_nil, or_false] at code
        rcases code with code | code | code
        · exact n3 code fresh
        · exact n4 code fresh
        · exact n5 code fresh
      · rcases OrderOutcome.answered answered with done | refused | fresh
        · exact n6 code done
        · exact n7 code refused
        · exact n8 code fresh

end Sys2Proof.Machine
end

section
/-! SUPPORT. An outcome that counts toward a link's present step: the entry that keeps it, and the judgement of the step (R22,
R30, R32, R36, R64, R65). -/

namespace Sys2Proof.Machine

/-! ### What accounting leaves (R29) -/

section
variable {b : Blocks} {o : BusOrder} {e : EngineTag} {out : OrderOutcome}

/-- R29, R44: the accounting moves a record and, with a detached end, the waiting DETACH orders. -/
theorem Blocks.accountEnds_engine :
    (b.accountEnds o e out).engine = { b.engine with backlog := (b.accountEnds o e out).engine.backlog } := by
  unfold Blocks.accountEnds
  split
  case h_1 | h_2 => split <;> rfl
  all_goals rfl

theorem Blocks.accountEnds_other {k : Nat} (hk : k ≠ e.link) : (b.accountEnds o e out).link k = b.link k := by
  have detached : (b.detachEnd e.link e.lend).link k = b.link k :=
    Blocks.link_modLink_other (b := b.filterBacklog _) (fun l => by cases e.lend <;> rfl) hk
  unfold Blocks.accountEnds
  split
  case h_1 | h_2 =>
    split
    · rfl
    · exact Blocks.link_modLink_other (fun l => by cases e.lend <;> rfl) hk
  case h_9 => rfl
  all_goals exact detached

/-- R29: a SURVEY that is not FRESH, and a REFUSED that is no DETACH's, account for nothing. -/
theorem Blocks.accountEnds_none (h : o.code = .survey ∧ out ≠ .fresh ∨ o.code ≠ .detach ∧ out = .refused) :
    b.accountEnds o e out = b := by
  unfold Blocks.accountEnds
  split
  case h_1 code | h_2 code | h_3 code | h_4 code | h_5 code | h_6 code | h_7 code | h_8 code => simp [code] at h
  case h_9 => rfl

theorem Blocks.accountEnds_attach (code : o.code = .attach ∨ o.code = .activate) :
    (b.accountEnds o e .done).engine = b.engine := by
  unfold Blocks.accountEnds
  rcases code with code | code
  · rw [code]; dsimp only; split <;> rfl
  · rw [code]; dsimp only; split <;> rfl

theorem Blocks.accountEnds_entry (k : Nat) : (b.accountEnds o e out).entry k = b.entry k := by
  rw [Blocks.entry, Blocks.accountEnds_engine]
  rfl

end

/-! ### The entry that keeps an outcome (R22, R36, R64) -/

/-- An end's outcome in the entry. -/
def InFlight.out (f : InFlight) : LinkEnd → Option OrderOutcome
  | .a => f.outA
  | .b => f.outB

/-- An end's survey record in the entry. -/
def InFlight.record (f : InFlight) : LinkEnd → Option (Option Attachment)
  | .a => f.recA
  | .b => f.recB

/-- R22, R36, R64: the entry after an outcome that counts. -/
def InFlight.counted (f : InFlight) (o : BusOrder) (lend : LinkEnd) (out : OrderOutcome) (answer : Option Attachment) :
    InFlight :=
  let f := f.note lend out
  let f := if o.code = .survey ∧ out = .done then f.noteRecord lend answer else f
  if (o.code = .attach ∨ o.code = .activate) ∧ out = .refused then { f with refused := true } else f

section
variable (f : InFlight) (o : BusOrder) (lend : LinkEnd) (out : OrderOutcome) (answer : Option Attachment)

/-- R22: an outcome that counts changes what the entry keeps of the answers alone. -/
theorem InFlight.counted_eq : f.counted o lend out answer =
    { f with
      outA := (f.counted o lend out answer).outA, outB := (f.counted o lend out answer).outB
      recA := (f.counted o lend out answer).recA, recB := (f.counted o lend out answer).recB
      refused := (f.counted o lend out answer).refused } := by
  unfold InFlight.counted
  cases lend <;> dsimp only <;> split <;> split <;> rfl

theorem InFlight.counted_step : (f.counted o lend out answer).step = f.step := by rw [InFlight.counted_eq]

theorem InFlight.counted_link : (f.counted o lend out answer).link = f.link := by rw [InFlight.counted_eq]

theorem InFlight.counted_origin : (f.counted o lend out answer).origin = f.origin := by rw [InFlight.counted_eq]

theorem InFlight.counted_refused (h : ¬((o.code = .attach ∨ o.code = .activate) ∧ out = .refused)) :
    (f.counted o lend out answer).refused = f.refused := by
  unfold InFlight.counted
  cases lend <;> dsimp only <;> rw [if_neg h] <;> split <;> rfl

theorem InFlight.counted_refusal (h : (o.code = .attach ∨ o.code = .activate) ∧ out = .refused) :
    (f.counted o lend out answer).refused = true := by
  unfold InFlight.counted
  dsimp only
  rw [if_pos h]

theorem InFlight.counted_out (x : LinkEnd) :
    (f.counted o lend out answer).out x = if x = lend then some out else f.out x := by
  unfold InFlight.counted
  cases lend <;> cases x <;> dsimp only <;> split <;> split <;> rfl

theorem InFlight.counted_record (survey : o.code = .survey) (x : LinkEnd) :
    (f.counted o lend .done answer).record x = if x = lend then some answer else f.record x := by
  unfold InFlight.counted
  dsimp only
  rw [if_neg (fun h => by cases h.2), if_pos ⟨survey, rfl⟩]
  cases lend <;> cases x <;> rfl

end

/-- R29, R36: the blocks once the entry keeps the outcome. -/
def Blocks.counted (b : Blocks) (o : BusOrder) (e : EngineTag) (out : OrderOutcome) (answer : Option Attachment) : Blocks :=
  let b := b.modEntry e.link (fun f => f.note e.lend out)
  let b := if o.code = .survey ∧ out = .done then b.modEntry e.link (fun f => f.noteRecord e.lend answer) else b
  if (o.code = .attach ∨ o.code = .activate) ∧ out = .refused then b.noteRefusal e.link else b

/-- R30, R32, R42, R65: the judgement of a link's present step. -/
def Blocks.judgeStep (t : Nat) (b : Blocks) (id : Nat) : Blocks :=
  match b.entry id, b.link id with
  | some f, some l =>
    if l.removal then b
    else
      match f.step with
      | .survey => b.judgeSurvey l f
      | .attach => b.judgeAttach l f
      | .activateA | .activateB => b.judgeActivate t l f
      | .detach | .idle => b
  | _, _ => b

theorem Blocks.countOutcome_eq (t : Nat) (b : Blocks) (o : BusOrder) (e : EngineTag) (out : OrderOutcome)
    (answer : Option Attachment) : b.countOutcome t o e out answer = (b.counted o e out answer).judgeStep t e.link := rfl

section
variable {b : Blocks} {o : BusOrder} {e : EngineTag} {out : OrderOutcome} {answer : Option Attachment}

/-- What counts moves the entries and, at a refusal, the backlog. -/
theorem Blocks.counted_eq : b.counted o e out answer = { b with engine := { b.engine with
    inFlight := (b.counted o e out answer).engine.inFlight
    backlog := if (o.code = .attach ∨ o.code = .activate) ∧ out = .refused then
      b.engine.backlog.filter (fun x => !x.forLink e.link) else b.engine.backlog } } := by
  unfold Blocks.counted
  dsimp only
  split <;> split <;> rfl

theorem Blocks.counted_entry {f : InFlight} (he : b.entry e.link = some f) :
    (b.counted o e out answer).entry e.link = some (f.counted o e.lend out answer) := by
  have noted := Blocks.entry_modEntry_same (g := fun f => f.note e.lend out) (fun f => f.note_link _ _) he
  have recorded : Blocks.entry (if o.code = .survey ∧ out = .done then
      (b.modEntry e.link (fun f => f.note e.lend out)).modEntry e.link (fun f => f.noteRecord e.lend answer)
      else b.modEntry e.link (fun f => f.note e.lend out)) e.link
      = some (if o.code = .survey ∧ out = .done then (f.note e.lend out).noteRecord e.lend answer else f.note e.lend out) := by
    split
    · exact Blocks.entry_modEntry_same (g := fun f => f.noteRecord e.lend answer) (fun f => f.noteRecord_link _ _) noted
    · exact noted
  unfold Blocks.counted InFlight.counted
  dsimp only
  by_cases refusal : (o.code = .attach ∨ o.code = .activate) ∧ out = .refused
  · rw [if_pos refusal, if_pos refusal]
    exact Blocks.entry_modEntry_same (g := fun f => { f with refused := true }) (fun _ => rfl) recorded
  · rw [if_neg refusal, if_neg refusal]
    exact recorded

theorem Blocks.counted_link (k : Nat) : (b.counted o e out answer).link k = b.link k :=
  Blocks.link_congr (by rw [Blocks.counted_eq]) k

end

/-! ### The judgement of a step -/

section
variable {t : Nat} {b : Blocks} {id : Nat} {l : Link} {f : InFlight}

theorem Blocks.judgeStep_survey (he : b.entry id = some f) (hl : b.link id = some l) (kept : l.removal = false)
    (step : f.step = .survey) : b.judgeStep t id = b.judgeSurvey l f := by
  simp [Blocks.judgeStep, he, hl, kept, step]

theorem Blocks.judgeStep_attach (he : b.entry id = some f) (hl : b.link id = some l) (kept : l.removal = false)
    (step : f.step = .attach) : b.judgeStep t id = b.judgeAttach l f := by
  simp [Blocks.judgeStep, he, hl, kept, step]

theorem Blocks.judgeStep_activate (he : b.entry id = some f) (hl : b.link id = some l) (kept : l.removal = false)
    (step : f.step = .activateA ∨ f.step = .activateB) : b.judgeStep t id = Blocks.judgeActivate t b l f := by
  rcases step with step | step <;> simp [Blocks.judgeStep, he, hl, kept, step]

/-- R36: once the start is refused, an ATTACH or ACTIVATE step is judged no further. -/
theorem Blocks.judgeStep_refused (he : b.entry id = some f) (hl : b.link id = some l) (refused : f.refused = true)
    (step : f.step ≠ .survey) : b.judgeStep t id = b := by
  unfold Blocks.judgeStep
  rw [he, hl]
  dsimp only
  split
  · rfl
  · cases hs : f.step
    case survey => exact absurd hs step
    case attach => simp [Blocks.judgeAttach, refused]
    case activateA | activateB => simp [Blocks.judgeActivate, refused]
    case detach | idle => rfl

/-- A condition on both ends, read from either one. -/
theorem LinkEnd.forall_iff {P : LinkEnd → Prop} {e other : LinkEnd} (h : other ≠ e) : (∀ x, P x) ↔ P e ∧ P other := by
  constructor
  · exact fun all => ⟨all e, all other⟩
  · rintro ⟨pe, po⟩ x
    cases e <;> cases other <;> cases x
    case a.a.a | a.a.b | b.b.a | b.b.b => exact absurd rfl h
    case a.b.a | b.a.b => exact pe
    case a.b.b | b.a.a => exact po

theorem surveyEnds_iff {out : Option OrderOutcome} : surveyEnds out = true ↔ out = some .done ∨ out = some .refused := by
  simp [surveyEnds]

/-- R65: what a matching survey asks of one end. -/
def Blocks.EndAgrees (b : Blocks) (l : Link) (f : InFlight) (x : LinkEnd) : Prop :=
  f.out x = some .done ∧ b.engine.mask.endMatches l x (f.record x) = true

theorem Blocks.judgeSurvey_awaits {x : LinkEnd} (waits : surveyEnds (f.out x) = false) : b.judgeSurvey l f = b := by
  unfold Blocks.judgeSurvey
  cases x
  case a => rw [show surveyEnds f.outA = false from waits]; rfl
  case b => rw [show surveyEnds f.outB = false from waits, Bool.and_false]; rfl

theorem Blocks.judgeSurvey_verified (agree : ∀ x, b.EndAgrees l f x) : b.judgeSurvey l f = b.verify l.id := by
  obtain ⟨outA, recA⟩ := agree .a
  obtain ⟨outB, recB⟩ := agree .b
  simp only [InFlight.out, InFlight.record] at outA recA outB recB
  simp [Blocks.judgeSurvey, surveyEnds, outA, outB, recA, recB]

theorem Blocks.judgeSurvey_failed (ended : ∀ x, surveyEnds (f.out x) = true) (fails : ¬∀ x, b.EndAgrees l f x) :
    b.judgeSurvey l f = (b.leaveInFlight l.id).setLinkState l.id .pending := by
  unfold Blocks.judgeSurvey
  rw [if_pos (by rw [Bool.and_eq_true]; exact ⟨ended .a, ended .b⟩), if_neg]
  simp only [Bool.and_eq_true, beq_iff_eq]
  rintro ⟨⟨⟨outA, outB⟩, recA⟩, recB⟩
  refine fails fun x => ?_
  cases x
  case a => exact ⟨outA, recA⟩
  case b => exact ⟨outB, recB⟩

theorem CompareMask.endMatches_iff {m : CompareMask} {l : Link} {x : LinkEnd} {r : Option (Option Attachment)} :
    m.endMatches l x r = true ↔ ∃ a, r = some (some a) ∧ a.active = true
      ∧ (m.hset = true → a.hset = l.hset) ∧ (m.index = true → a.index = l.index)
      ∧ (m.role = true → a.role = x) ∧ (m.tag = true → a.tag = l.id) := by
  have field : ∀ selected equal : Bool, maskMatch selected equal = true ↔ (selected = true → equal = true) := by decide
  unfold CompareMask.endMatches
  split
  next a => simp [field, and_assoc]
  next other => exact iff_of_false (by simp) fun ⟨a, ha, _⟩ => other a ha

end

end Sys2Proof.Machine
end

section
/-! CERTIFICATE. The outcomes of the engine's orders and of CARD PORTS, what the engine then judges, and the placing of its orders
(R28, R29, R36, R42 to R47, R65, R89, R92, R108). -/

namespace Sys2Proof.Machine

/-! ### Links that leave the in-flight set (R32, R33, R47, R65) -/

/-- R28, R29: the link has no entry, and no order of it waits in the backlog. -/
def Blocks.Away (b : Blocks) (id : Nat) : Prop := b.entry id = none ∧ ∀ o ∈ b.engine.backlog, o.forLink id = false

theorem Blocks.away_leaveInFlight (b : Blocks) (id : Nat) : (b.leaveInFlight id).Away id :=
  ⟨Blocks.entry_leaveInFlight_same, fun _ ho => (Blocks.backlog_leaveInFlight ho).2⟩

theorem Blocks.not_mem_leaveQueue (b : Blocks) (id : Nat) : id ∉ (b.leaveQueue id).engine.queue := by simp

section
variable {b : Blocks} {id : Nat} {l : Link}

theorem Blocks.verify_some (hl : b.link id = some l) :
    (b.verify id).link id = some { l with state := .carried, attA := true, attB := true }
    ∧ (b.verify id).Away id ∧ id ∉ (b.verify id).engine.queue
    ∧ (b.verify id).ep = b.ep.modOpen Episode.countVerified :=
  ⟨Blocks.link_modLink_same (b := (b.leaveInFlight id).leaveQueue id)
      (f := fun l => { l with state := .carried, attA := true, attB := true }) (fun _ => rfl) hl,
    b.away_leaveInFlight id, (b.leaveInFlight id).not_mem_leaveQueue id, rfl⟩

theorem Blocks.verify_other {k : Nat} (hk : k ≠ id) : (b.verify id).link k = b.link k :=
  Blocks.link_modLink_other (b := (b.leaveInFlight id).leaveQueue id)
    (f := fun l => { l with state := .carried, attA := true, attB := true }) (fun _ => rfl) hk

/-- What a carried link counts and raises (R47, R68, R69). -/
def Blocks.CarriedAs (b c : Blocks) (t : Nat) (l : Link) : Origin → Prop
  | .queue => c.ep = (b.ep.modOpen (Episode.noteActivation t)).modOpen Episode.countInOrder
      ∧ c.raised = if b.ep.isOpen then b.raised else b.raised ++ [.link .carried l.id l.cls none]
  | .deferred => c.ep = (b.ep.modOpen (Episode.noteActivation t)).modOpen Episode.countLate
      ∧ c.raised = b.raised ++ [.link .late l.id l.cls none]

theorem Blocks.carry_some (t : Nat) {f : InFlight} (hl : b.link f.link = some l) :
    (b.carry t f).link f.link = some { l with state := .carried } ∧ (b.carry t f).Away f.link
    ∧ f.link ∉ (b.carry t f).engine.queue ∧ (∀ k, k ≠ f.link → (b.carry t f).link k = b.link k)
    ∧ b.CarriedAs (b.carry t f) t l f.origin := by
  have own := Blocks.link_id hl
  have link := Blocks.link_setLinkState_same (b := (b.leaveInFlight f.link).leaveQueue f.link) .carried hl
  have away := b.away_leaveInFlight f.link
  have queue := (b.leaveInFlight f.link).not_mem_leaveQueue f.link
  have others : ∀ k, k ≠ f.link →
      (((b.leaveInFlight f.link).leaveQueue f.link).setLinkState f.link .carried).link k = b.link k :=
    fun k hk => Blocks.link_setLinkState_other (b := (b.leaveInFlight f.link).leaveQueue f.link) .carried hk
  rw [own] at link
  unfold Blocks.carry Blocks.CarriedAs
  rw [hl]
  dsimp only
  rw [own]
  cases f.origin with
  | queue =>
    dsimp only
    split
    · exact ⟨link, away, queue, others, rfl, rfl⟩
    · exact ⟨link, away, queue, others, rfl, rfl⟩
  | deferred => exact ⟨link, away, queue, others, rfl, rfl⟩

end

/-- R48: two changes of the open record that leave it open are one. -/
theorem EpisodeController.modOpen_modOpen (ep : EpisodeController) {f g : Episode → Episode}
    (hf : ∀ r, (f r).ended = r.ended) : (ep.modOpen f).modOpen g = ep.modOpen (fun r => g (f r)) := by
  obtain ⟨shelf, history, counter, supply⟩ := ep
  cases history with
  | nil => rfl
  | cons e rest => by_cases h : e.ended.isNone = true <;> simp [EpisodeController.modOpen, h, hf]

theorem EpisodeController.modOpen_inOrder (ep : EpisodeController) (t : Nat) :
    (ep.modOpen (Episode.noteActivation t)).modOpen Episode.countInOrder = ep.modOpen (fun r => { r with
      firstActivation := some (r.firstActivation.getD t), inOrder := min (r.inOrder + 1) 65535 }) :=
  ep.modOpen_modOpen fun _ => rfl

theorem EpisodeController.modOpen_late (ep : EpisodeController) (t : Nat) :
    (ep.modOpen (Episode.noteActivation t)).modOpen Episode.countLate = ep.modOpen (fun r => { r with
      firstActivation := some (r.firstActivation.getD t), late := min (r.late + 1) 65535 }) :=
  ep.modOpen_modOpen fun _ => rfl

/-! ### The steps of a start (R30, R32) -/

section
variable {t : Nat} {b : Blocks} {id : Nat} {l : Link} {f : InFlight}

theorem Blocks.judgeAttach_done (done : ∀ x, f.out x = some .done) (kept : f.refused = false) : b.judgeAttach l f =
    (b.setLinkState l.id .ready).modEntry l.id (fun f => { f with step := .idle, outA := none, outB := none }) := by
  have outA : f.outA = some .done := done .a
  have outB : f.outB = some .done := done .b
  exact if_pos (by simp [outA, outB, kept])

theorem Blocks.judgeActivate_first (step : f.step = .activateA) (done : f.out .a = some .done) (kept : f.refused = false) :
    Blocks.judgeActivate t b l f =
      (b.modEntry l.id (fun f => { f with step := .activateB, outA := none, outB := none })).putBacklog
        [engineOrder l .b .activate true] := by
  have outA : f.outA = some .done := done
  simp [Blocks.judgeActivate, kept, step, outA]

theorem Blocks.judgeActivate_second (step : f.step = .activateB) (done : f.out .b = some .done) (kept : f.refused = false) :
    Blocks.judgeActivate t b l f = b.carry t f := by
  have outB : f.outB = some .done := done
  simp [Blocks.judgeActivate, kept, step, outB]

theorem Blocks.judgeSurvey_other {k : Nat} (hk : k ≠ l.id) : (b.judgeSurvey l f).link k = b.link k := by
  unfold Blocks.judgeSurvey
  split
  · split
    · exact Blocks.verify_other hk
    · exact Blocks.link_setLinkState_other (b := b.leaveInFlight l.id) _ hk
  · rfl

theorem Blocks.judgeAttach_other {k : Nat} (hk : k ≠ l.id) : (b.judgeAttach l f).link k = b.link k := by
  unfold Blocks.judgeAttach
  split
  · exact Blocks.link_setLinkState_other _ hk
  · rfl

/-- R32: the ACTIVATE steps carry the link or leave every record. -/
theorem Blocks.judgeActivate_cases : (Blocks.judgeActivate t b l f).store = b.store ∨ Blocks.judgeActivate t b l f = b.carry t f := by
  unfold Blocks.judgeActivate
  split
  · exact .inl rfl
  · split
    · exact .inl rfl
    · split
      · exact .inr rfl
      · exact .inl rfl

/-- R30, R32, R65: the judgement of a step leaves every other link. -/
theorem Blocks.judgeStep_other {k : Nat} (hk : k ≠ id) : (b.judgeStep t id).link k = b.link k := by
  unfold Blocks.judgeStep
  split
  next f l he hl =>
    obtain rfl := Blocks.link_id hl
    have own := (Blocks.entry_mem he).2
    have activates : (Blocks.judgeActivate t b l f).link k = b.link k := by
      rcases Blocks.judgeActivate_cases (t := t) (b := b) (l := l) (f := f) with store | carries
      · exact Blocks.link_congr store k
      · obtain ⟨-, -, -, others, -⟩ := Blocks.carry_some (b := b) t (f := f) (by rw [own]; exact hl)
        rw [carries]
        exact others k (own ▸ hk)
    split
    · rfl
    · cases f.step
      case survey => exact Blocks.judgeSurvey_other hk
      case attach => exact Blocks.judgeAttach_other hk
      case activateA | activateB => exact activates
      case detach | idle => rfl
  · rfl

/-- R30, R32, R65: but for a verification, the judgement of a step moves the state of its link alone. -/
theorem Blocks.judgeStep_link (he : b.entry id = some f) (hl : b.link id = some l)
    (unverified : f.step = .survey → ∃ x, f.out x ≠ some .done) :
    ∃ st, (b.judgeStep t id).link id = some { l with state := st } := by
  obtain rfl := Blocks.link_id hl
  have own := (Blocks.entry_mem he).2
  have asBefore : ∃ st, b.link l.id = some { l with state := st } := ⟨l.state, hl⟩
  unfold Blocks.judgeStep
  rw [he, hl]
  dsimp only
  split
  · exact asBefore
  · cases hs : f.step
    case survey =>
      obtain ⟨x, undone⟩ := unverified hs
      by_cases ended : ∀ x, surveyEnds (f.out x) = true
      · have fails : ¬∀ x, b.EndAgrees l f x := fun all => undone (all x).1
        dsimp only
        rw [Blocks.judgeSurvey_failed ended fails]
        exact ⟨_, Blocks.link_setLinkState_same (b := b.leaveInFlight l.id) .pending hl⟩
      · obtain ⟨y, waits⟩ := not_forall.mp ended
        dsimp only
        rw [Blocks.judgeSurvey_awaits (by simpa using waits)]
        exact asBefore
    case attach =>
      dsimp only
      unfold Blocks.judgeAttach
      split
      · exact ⟨_, Blocks.link_setLinkState_same .ready hl⟩
      · exact asBefore
    case activateA | activateB =>
      dsimp only
      rcases Blocks.judgeActivate_cases (t := t) (b := b) (l := l) (f := f) with store | carries
      · rw [Blocks.link_congr store]; exact asBefore
      · obtain ⟨link, -⟩ := Blocks.carry_some (b := b) t (f := f) (by rw [own]; exact hl)
        rw [carries]
        exact ⟨_, own ▸ link⟩
    case detach | idle => exact asBefore

end

/-! ### An outcome of an engine order, whole (R29) -/

section
variable {t : Nat} {b : Blocks} {o : BusOrder} {e : EngineTag} {out : OrderOutcome} {given : List (List Byte)}

/-- R29: an outcome that is stale accounts for the ends and does nothing more. -/
theorem Blocks.engineOutcome_stale (stale : e.current = false ∨ b.entry e.link = none) :
    Blocks.engineOutcome t b o e out given = b.accountEnds o e out := by
  refine if_neg ?_
  rw [Blocks.accountEnds_entry]
  rcases stale with h | h <;> simp [h]

theorem Blocks.engineOutcome_counts {f : InFlight} (current : e.current = true) (he : b.entry e.link = some f) :
    Blocks.engineOutcome t b o e out given =
      ((b.accountEnds o e out).counted o e out ((given.head?.bind readAttachment).getD none)).judgeStep t e.link := by
  rw [← Blocks.countOutcome_eq]
  refine if_pos ?_
  rw [Blocks.accountEnds_entry]
  simp [current, he]

theorem Blocks.engineOutcome_other {k : Nat} (hk : k ≠ e.link) :
    (Blocks.engineOutcome t b o e out given).link k = b.link k := by
  unfold Blocks.engineOutcome
  dsimp only
  split
  · rw [Blocks.countOutcome_eq, Blocks.judgeStep_other hk, Blocks.counted_link, Blocks.accountEnds_other hk]
  · exact Blocks.accountEnds_other hk

/-- R29: but for a verification, an outcome leaves the ends of its link as the table accounts them. -/
theorem Blocks.engineOutcome_link {l : Link} (hl : b.link e.link = some l) (unverified : o.code ≠ .survey ∨ out ≠ .done)
    (surveys : ∀ f, b.entry e.link = some f → f.step = .survey → o.code = .survey) :
    ∃ m st, l.Accounted o e out m
      ∧ (Blocks.engineOutcome t b o e out given).link e.link = some { m with state := st } := by
  obtain ⟨m, hm, accounted⟩ := Blocks.accountEnds_account (o := o) (out := out) hl
  by_cases stale : e.current = false ∨ b.entry e.link = none
  · rw [Blocks.engineOutcome_stale stale]
    exact ⟨m, m.state, accounted, hm⟩
  · obtain ⟨current, entry⟩ := not_or.mp stale
    obtain ⟨f, he⟩ := Option.ne_none_iff_exists'.mp entry
    rw [Blocks.engineOutcome_counts (by simpa using current) he]
    have held : (b.accountEnds o e out).entry e.link = some f := (Blocks.accountEnds_entry e.link).trans he
    have counted := Blocks.counted_entry (o := o) (out := out) (answer := (given.head?.bind readAttachment).getD none) held
    have judged := Blocks.judgeStep_link (t := t) counted ((Blocks.counted_link e.link).trans hm) fun step => by
      rw [InFlight.counted_step] at step
      refine ⟨e.lend, ?_⟩
      rw [InFlight.counted_out, if_pos rfl, ne_eq, Option.some.injEq]
      exact unverified.resolve_left (fun h => h (surveys f he step))
    obtain ⟨st, link⟩ := judged
    exact ⟨m, st, accounted, link⟩

/-- R157: an outcome of an engine order that is not reported to the slot registry, and that counts. -/
theorem Blocks.deliver_counts {f : InFlight} (hp : o.purpose = .engine e) (current : e.current = true)
    (he : b.entry e.link = some f) (plain : out = .done ∨ out = .refused) :
    ∃ answer, (out = .done → answer = (given.head?.bind readAttachment).getD none)
      ∧ Blocks.deliver t b o out given =
        ((b.accountEnds o e out).counted o e out answer).judgeStep t e.link := by
  have reported : Blocks.deliver t b o out given = Blocks.engineOutcome t b o e out (if out = .done then given else []) := by
    unfold Blocks.deliver
    rw [hp]
    rcases plain with rfl | rfl <;> rfl
  rw [reported, Blocks.engineOutcome_counts current he]
  exact ⟨_, fun done => by rw [if_pos done], rfl⟩

end

/-! ### The counting clauses (R30, R32, R36, R65) -/

/-- A current outcome meets the entry f and the record l of its link. -/
structure Meets (b : Blocks) (o : BusOrder) (e : EngineTag) (l : Link) (f : InFlight) : Prop where
  purpose : o.purpose = .engine e
  current : e.current = true
  link : b.link e.link = some l
  entry : b.entry e.link = some f
  kept : l.removal = false

section
variable {t : Nat} {b : Blocks} {o : BusOrder} {e : EngineTag} {given : List (List Byte)} {l : Link} {f : InFlight}

/-- R64, R65: the judgement of a survey answer. -/
theorem Meets.survey {out : OrderOutcome} (h : Meets b o e l f) (code : o.code = .survey) (step : f.step = .survey)
    (plain : out = .done ∨ out = .refused) :
    ∃ answer, (out = .done → answer = (given.head?.bind readAttachment).getD none)
      ∧ Blocks.deliver t b o out given = (b.counted o e out answer).judgeSurvey l (f.counted o e.lend out answer) := by
  obtain ⟨answer, hanswer, delivered⟩ := Blocks.deliver_counts (t := t) (given := given) h.purpose h.current h.entry plain
  have none : b.accountEnds o e out = b :=
    Blocks.accountEnds_none (.inl ⟨code, by rcases plain with rfl | rfl <;> simp⟩)
  rw [none] at delivered
  refine ⟨answer, hanswer, delivered.trans ?_⟩
  exact Blocks.judgeStep_survey (Blocks.counted_entry h.entry) ((Blocks.counted_link _).trans h.link) h.kept
    ((InFlight.counted_step ..).trans step)

/-- R65: both ends answered, and not both agree. -/
theorem Meets.survey_fails {out : OrderOutcome} (h : Meets b o e l f) (code : o.code = .survey) (step : f.step = .survey)
    (plain : out = .done ∨ out = .refused)
    (ended : ∀ x, surveyEnds (if x = e.lend then some out else f.out x) = true)
    (fails : ∀ answer, (out = .done → answer = (given.head?.bind readAttachment).getD none) →
      ¬∀ x, (b.counted o e out answer).EndAgrees l (f.counted o e.lend out answer) x) :
    (Blocks.deliver t b o out given).link e.link = some { l with state := .pending }
    ∧ (Blocks.deliver t b o out given).Away e.link
    ∧ (Blocks.deliver t b o out given).engine.queue = b.engine.queue ∧ (Blocks.deliver t b o out given).ep = b.ep := by
  obtain ⟨answer, hanswer, delivered⟩ := h.survey (t := t) (given := given) code step plain
  have own := Blocks.link_id h.link
  rw [Blocks.judgeSurvey_failed (fun x => by rw [InFlight.counted_out]; exact ended x) (fails answer hanswer), own]
    at delivered
  rw [delivered]
  refine ⟨Blocks.link_setLinkState_same (b := (b.counted o e out answer).leaveInFlight e.link) .pending
      ((Blocks.counted_link _).trans h.link), Blocks.away_leaveInFlight _ _, ?_, ?_⟩
  · change (b.counted o e out answer).engine.queue = _
    rw [Blocks.counted_eq]
  · change (b.counted o e out answer).ep = _
    rw [Blocks.counted_eq]

/-- R64: an end is still awaited. -/
theorem Meets.survey_awaits {out : OrderOutcome} (h : Meets b o e l f) (code : o.code = .survey) (step : f.step = .survey)
    (plain : out = .done ∨ out = .refused) {x : LinkEnd} (hx : x ≠ e.lend) (waits : surveyEnds (f.out x) = false) :
    (Blocks.deliver t b o out given).link e.link = some l
    ∧ ∃ g, (Blocks.deliver t b o out given).entry e.link = some g := by
  obtain ⟨answer, -, delivered⟩ := h.survey (t := t) (given := given) code step plain
  rw [delivered, Blocks.judgeSurvey_awaits (x := x) (by rw [InFlight.counted_out, if_neg hx]; exact waits)]
  exact ⟨(Blocks.counted_link _).trans h.link, _, Blocks.counted_entry h.entry⟩

/-- R65: both ends answered DONE, with records that match. -/
theorem Meets.survey_verifies (h : Meets b o e l f) (code : o.code = .survey) (step : f.step = .survey)
    (agree : ∀ answer, answer = (given.head?.bind readAttachment).getD none →
      ∀ x, (b.counted o e .done answer).EndAgrees l (f.counted o e.lend .done answer) x) :
    (Blocks.deliver t b o .done given).link e.link = some { l with state := .carried, attA := true, attB := true }
    ∧ (Blocks.deliver t b o .done given).Away e.link ∧ e.link ∉ (Blocks.deliver t b o .done given).engine.queue
    ∧ (Blocks.deliver t b o .done given).ep = b.ep.modOpen Episode.countVerified := by
  obtain ⟨answer, hanswer, delivered⟩ := h.survey (t := t) (given := given) code step (.inl rfl)
  have own := Blocks.link_id h.link
  rw [Blocks.judgeSurvey_verified (agree answer (hanswer rfl)), own] at delivered
  rw [delivered]
  obtain ⟨link, away, queue, ep⟩ := Blocks.verify_some (b := b.counted o e .done answer)
    ((Blocks.counted_link _).trans h.link)
  refine ⟨link, away, queue, ep.trans ?_⟩
  rw [Blocks.counted_eq]

/-- R30: the second ATTACH answered DONE. -/
theorem Meets.attach_ready (h : Meets b o e l f) (step : f.step = .attach)
    (kept : f.refused = false) (done : ∀ x, x ≠ e.lend → f.out x = some .done) :
    ∃ m g, (Blocks.deliver t b o .done given).link e.link = some m ∧ m.state = .ready
      ∧ (Blocks.deliver t b o .done given).entry e.link = some g ∧ g.step = .idle := by
  obtain ⟨answer, -, delivered⟩ := Blocks.deliver_counts (t := t) (given := given) h.purpose h.current h.entry (.inl rfl)
  obtain ⟨m, hm, accounted⟩ := Blocks.accountEnds_account (o := o) (out := .done) h.link
  have held : (b.accountEnds o e .done).entry e.link = some f := (Blocks.accountEnds_entry e.link).trans h.entry
  have link : ((b.accountEnds o e .done).counted o e .done answer).link e.link = some m := (Blocks.counted_link _).trans hm
  have entry := Blocks.counted_entry (o := o) (out := .done) (answer := answer) held
  have own := Blocks.link_id hm
  rw [delivered, Blocks.judgeStep_attach entry link (by rw [accounted.eq]; exact h.kept)
    ((InFlight.counted_step ..).trans step), Blocks.judgeAttach_done (fun x => ?_)
    ((InFlight.counted_refused _ _ _ _ _ (by simp)).trans kept), own]
  · exact ⟨_, _, Blocks.link_setLinkState_same .ready link, rfl,
      Blocks.entry_modEntry_same (b := Blocks.setLinkState _ _ _) (fun _ => rfl) entry, rfl⟩
  · rw [InFlight.counted_out]
    split
    · rfl
    next hx => exact done x hx

/-- R32: what an ACTIVATE DONE of an unrefused start is judged on. -/
theorem Meets.activate (h : Meets b o e l f) (code : o.code = .activate) (step : f.step = .activateA ∨ f.step = .activateB) :
    ∃ answer m, l.Accounted o e .done m
      ∧ ((b.accountEnds o e .done).counted o e .done answer).link e.link = some m
      ∧ ((b.accountEnds o e .done).counted o e .done answer).entry e.link = some (f.counted o e.lend .done answer)
      ∧ ((b.accountEnds o e .done).counted o e .done answer).engine.backlog = b.engine.backlog
      ∧ Blocks.deliver t b o .done given =
          Blocks.judgeActivate t ((b.accountEnds o e .done).counted o e .done answer) m (f.counted o e.lend .done answer) := by
  obtain ⟨answer, -, delivered⟩ := Blocks.deliver_counts (t := t) (given := given) h.purpose h.current h.entry (.inl rfl)
  obtain ⟨m, hm, accounted⟩ := Blocks.accountEnds_account (o := o) (out := .done) h.link
  have held : (b.accountEnds o e .done).entry e.link = some f := (Blocks.accountEnds_entry e.link).trans h.entry
  have link : ((b.accountEnds o e .done).counted o e .done answer).link e.link = some m := (Blocks.counted_link _).trans hm
  have entry := Blocks.counted_entry (o := o) (out := .done) (answer := answer) held
  refine ⟨answer, m, accounted, link, entry, ?_, delivered.trans ?_⟩
  · rw [Blocks.counted_eq, Blocks.accountEnds_attach (.inr code), if_neg (fun refusal => by cases refusal.2)]
  · exact Blocks.judgeStep_activate entry link (by rw [accounted.eq]; exact h.kept) (by rwa [InFlight.counted_step])

/-- R36: a REFUSED ATTACH or ACTIVATE marks the entry and withdraws the link's waiting orders. -/
theorem Meets.refusal (h : Meets b o e l f) (code : o.code = .attach ∨ o.code = .activate) (step : f.step ≠ .survey) :
    ∃ g, (Blocks.deliver t b o .refused given).entry e.link = some g ∧ g.refused = true
      ∧ (∀ x ∈ (Blocks.deliver t b o .refused given).engine.backlog, x.forLink e.link = false)
      ∧ (Blocks.deliver t b o .refused given).link e.link = some l := by
  obtain ⟨answer, -, delivered⟩ := Blocks.deliver_counts (t := t) (given := given) h.purpose h.current h.entry (.inr rfl)
  have none : b.accountEnds o e .refused = b :=
    Blocks.accountEnds_none (.inr ⟨by rcases code with h | h <;> simp [h], rfl⟩)
  have entry := Blocks.counted_entry (o := o) (out := .refused) (answer := answer) h.entry
  have refused := InFlight.counted_refusal f o e.lend .refused answer ⟨code, rfl⟩
  have link := (Blocks.counted_link (o := o) (e := e) (out := .refused) (answer := answer) e.link).trans h.link
  rw [delivered, none, Blocks.judgeStep_refused entry link refused (by rwa [InFlight.counted_step])]
  refine ⟨_, entry, refused, fun x hx => ?_, link⟩
  rw [Blocks.counted_eq, if_pos ⟨code, rfl⟩] at hx
  simpa using (List.mem_filter.mp hx).2

end

/-! ### The obligation -/

theorem Link.attached_state (l : Link) (st : LinkState) (x : LinkEnd) : Link.attached { l with state := st } x = l.attached x := by
  cases x <;> rfl

/-- R29: no outcome both attaches and detaches. -/
theorem EngineTag.Attaches.not_detaches {e : EngineTag} {o : BusOrder} {out : OrderOutcome} {l : Link}
    (h : e.Attaches o out l) : ¬o.Detaches out := by
  obtain ⟨code, rfl, -⟩ := h
  rintro (⟨-, fresh⟩ | ⟨detach, -⟩)
  · cases fresh
  · rcases code with h | h <;> simp [h] at detach

/-- R29: ends attached, once the outcome is accounted. -/
theorem Link.Accounted.ends {l m : Link} {o : BusOrder} {e : EngineTag} {out : OrderOutcome} (h : l.Accounted o e out m) :
    (e.Attaches o out l → m.attached e.lend = true) ∧ (o.Detaches out → m.attached e.lend = false)
    ∧ (¬e.Attaches o out l → ¬o.Detaches out → m.attached e.lend = l.attached e.lend)
    ∧ ∀ other, other ≠ e.lend → m.attached other = l.attached other := by
  cases h with
  | attaches h =>
    exact ⟨fun _ => l.setAttached_attached _ _, fun d => absurd d h.not_detaches, fun n _ => absurd h n,
      fun _ hx => l.setAttached_other _ hx⟩
  | detaches h h' =>
    exact ⟨fun a => absurd a h', fun _ => l.setAttached_attached _ _, fun _ n => absurd h n,
      fun _ hx => l.setAttached_other _ hx⟩
  | stays h h' => exact ⟨fun a => absurd a h, fun d => absurd d h', fun _ _ => rfl, fun _ _ => rfl⟩

/-- R28, R36, R42, R43, R45: what the engine judges of its links. -/
theorem Blocks.engine_judges (t : Nat) (b : Blocks) : FlaggedLinksRelease b b.flagPass
    ∧ (∀ id, RefusalJudged t b (Blocks.refuse t b id) id) ∧ (∀ id, ReleaseJudged b (b.releaseOne id) id)
    ∧ Blocks.refusalPass t b = (b.engine.inFlight.map InFlight.link).foldl (Blocks.refuse t) b
    ∧ b.releasePass = ((b.store.links.filter (fun l => l.state == .releasing)).map Link.id).foldl Blocks.releaseOne b
    ∧ Blocks.judgeEngine t b =
        let c := (Blocks.refusalPass t b.flagPass).releasePass
        Blocks.judgeHead t (c.engine.queue.length + 1) c :=
  ⟨b.flagPass_releases, b.refuse_judged t, b.releaseOne_judged, rfl, rfl, rfl⟩

/-- R65: what an end's survey answer agrees in, with the outcomes and the records that the entry then keeps. -/
theorem Blocks.counted_agrees {b : Blocks} {o : BusOrder} {e : EngineTag} {f : InFlight} {l : Link} {answer : Option Attachment}
    (code : o.code = .survey) {x : LinkEnd} :
    (b.counted o e .done answer).EndAgrees l (f.counted o e.lend .done answer) x ↔
      (if x = e.lend then some OrderOutcome.done else f.out x) = some .done
      ∧ b.engine.mask.endMatches l x (if x = e.lend then some answer else f.record x) = true := by
  have mask : (b.counted o e .done answer).engine.mask = b.engine.mask := by rw [Blocks.counted_eq]
  rw [Blocks.EndAgrees, InFlight.counted_out, InFlight.counted_record _ _ _ _ code, mask]

/-- Settles O41, from the accounting of R29, the entry that keeps an outcome, and the judgement of each step. -/
theorem endsAndSurveysAreAccounted : Obligations.EndsAndSurveysAreAccounted := by
  unfold Obligations.EndsAndSurveysAreAccounted
  refine ⟨Blocks.engine_judges, Blocks.placeBacklog_oldest, fun t b o out given other => ?_,
    fun t b o e out given l hp hl => ?_, fun t b o e given l f hp current hl he kept => ?_⟩
  · obtain ⟨x, delivered, reg⟩ := Blocks.deliver_reports (t := t) (b := b) out given other
    dsimp only
    rw [delivered, ← Blocks.slot_congr reg]
    refine ⟨?_, ?_⟩
    · rintro rfl inService
      exact Blocks.busReport_lost inService
    · rintro rfl live
      exact Blocks.busReport_fresh live
  · refine ⟨fun unverified surveys => ?_, fun k hk => Blocks.engineOutcome_other hk, by simp, by simp, fun stale => ?_⟩
    · obtain ⟨m, st, accounted, link⟩ := Blocks.engineOutcome_link (t := t) (given := given) hl unverified surveys
      refine ⟨_, link, ?_⟩
      simp only [Link.attached_state]
      obtain ⟨attaches, detaches, stays, others⟩ := accounted.ends
      exact ⟨attaches, detaches, stays, others, by rw [accounted.eq], by rw [accounted.eq]⟩
    · obtain ⟨m, hm, accounted⟩ := Blocks.accountEnds_account (o := o) (out := out) hl
      dsimp only
      rw [Blocks.engineOutcome_stale stale]
      exact ⟨fun code nf => Blocks.accountEnds_none (.inl ⟨code, nf⟩), ⟨m, hm, by rw [accounted.eq]⟩,
        Blocks.accountEnds_engine, by simp, by simp, by simp⟩
  · have meets : Meets b o e l f := ⟨hp, current, hl, he, kept⟩
    have own := Blocks.link_id hl
    refine ⟨fun code step other hother => ⟨fun done agrees agrees' => ?_, fun fails => ?_, fun answered => ?_, fun waits => ?_⟩,
      fun code step refused other hother done => ?_, fun code refused => ⟨fun step lend => ?_, fun step lend => ?_⟩,
      fun code step => ?_⟩
    · have agree : ∀ answer, answer = (given.head?.bind readAttachment).getD none →
          ∀ x, (b.counted o e .done answer).EndAgrees l (f.counted o e.lend .done answer) x := by
        rintro answer rfl
        exact (LinkEnd.forall_iff hother).mpr
          ⟨(Blocks.counted_agrees code).mpr ⟨if_pos rfl, CompareMask.endMatches_iff.mpr agrees⟩,
            (Blocks.counted_agrees code).mpr ⟨done, CompareMask.endMatches_iff.mpr agrees'⟩⟩
      obtain ⟨link, away, queue, ep⟩ := meets.survey_verifies (t := t) (given := given) code step agree
      exact ⟨⟨_, link, rfl, rfl, rfl⟩, away, queue, ep⟩
    · have differ : ∀ answer, (OrderOutcome.done = .done → answer = (given.head?.bind readAttachment).getD none) →
          ¬∀ x, (b.counted o e .done answer).EndAgrees l (f.counted o e.lend .done answer) x := by
        intro answer hanswer all
        obtain ⟨-, matches_⟩ := (Blocks.counted_agrees code).mp (all e.lend)
        obtain ⟨done, matches'⟩ := (Blocks.counted_agrees code).mp (all other)
        rw [hanswer rfl] at matches_ matches'
        rcases fails with refused | ⟨-, apart⟩
        · exact absurd (done.symm.trans refused) (by decide)
        · exact apart ⟨CompareMask.endMatches_iff.mp matches_, CompareMask.endMatches_iff.mp matches'⟩
      have ended : ∀ x, surveyEnds (if x = e.lend then some OrderOutcome.done else f.out x) = true :=
        (LinkEnd.forall_iff hother).mpr ⟨by rw [if_pos rfl]; rfl, surveyEnds_iff.mpr (fails.elim .inr fun h => .inl h.1)⟩
      obtain ⟨link, away, queue, ep⟩ := meets.survey_fails (t := t) (given := given) code step (.inl rfl) ended differ
      exact ⟨⟨_, link, rfl, rfl, rfl⟩, away, queue, ep⟩
    · have differ : ∀ answer, (OrderOutcome.refused = .done → answer = (given.head?.bind readAttachment).getD none) →
          ¬∀ x, (b.counted o e .refused answer).EndAgrees l (f.counted o e.lend .refused answer) x := by
        intro answer _ all
        have done := (all e.lend).1
        rw [InFlight.counted_out, if_pos rfl] at done
        cases done
      have ended : ∀ x, surveyEnds (if x = e.lend then some OrderOutcome.refused else f.out x) = true :=
        (LinkEnd.forall_iff hother).mpr ⟨by rw [if_pos rfl]; rfl, surveyEnds_iff.mpr answered⟩
      obtain ⟨link, away, queue, ep⟩ := meets.survey_fails (t := t) (given := given) code step (.inr rfl) ended differ
      exact ⟨⟨_, link, rfl, rfl, rfl⟩, away, queue, ep⟩
    · have same : (if other = e.lend then some OrderOutcome.done else f.out other) = f.out other := if_neg hother
      have awaited : surveyEnds (f.out other) = false := by
        rcases waits with h | h | h <;> rw [same.symm.trans h] <;> rfl
      obtain ⟨link, g, entry⟩ := meets.survey_awaits (t := t) (given := given) code step (.inl rfl) hother awaited
      exact ⟨l, link, rfl, by rw [entry]; simp⟩
    · have answered : f.out other = some .done := (if_neg hother).symm.trans done
      obtain ⟨m, g, link, ready, entry, idle⟩ := meets.attach_ready (t := t) (given := given) step refused
        ((LinkEnd.forall_iff (P := fun x => x ≠ e.lend → f.out x = some .done) hother).mpr
          ⟨fun h => absurd rfl h, fun _ => answered⟩)
      exact ⟨m, link, ready, by rw [entry]; exact congrArg some idle⟩
    · obtain ⟨answer, m, accounted, link, entry, backlog, delivered⟩ := meets.activate (t := t) (given := given) code (.inl step)
      have at_ : m.id = e.link := Blocks.link_id link
      rw [Blocks.judgeActivate_first ((InFlight.counted_step ..).trans step)
        (by rw [InFlight.counted_out, lend, if_pos rfl]) ((InFlight.counted_refused _ _ _ _ _ (by simp)).trans refused),
        at_] at delivered
      dsimp only
      rw [delivered]
      refine ⟨?_, engineOrder m .b .activate true, congrArg (· ++ _) backlog, rfl, ?_, ?_, ?_⟩
      · have second := Blocks.entry_modEntry_same (g := fun f => { f with step := .activateB, outA := none, outB := none })
          (fun _ => rfl) entry
        exact congrArg (Option.map InFlight.step) second
      · exact congrArg Endpoint.slot (by rw [accounted.eq] : m.epB = l.epB)
      · exact congrArg (fun e : Endpoint => e.port.val) (by rw [accounted.eq] : m.epB = l.epB)
      · rw [own, ← at_]
        rfl
    · obtain ⟨answer, m, accounted, link, entry, backlog, delivered⟩ := meets.activate (t := t) (given := given) code (.inr step)
      rw [Blocks.judgeActivate_second ((InFlight.counted_step ..).trans step)
        (by rw [InFlight.counted_out, lend, if_pos rfl]) ((InFlight.counted_refused _ _ _ _ _ (by simp)).trans refused)]
        at delivered
      have at_ : (f.counted o e.lend .done answer).link = e.link := (Blocks.entry_mem entry).2
      obtain ⟨carried, away, queue, -, counts⟩ := Blocks.carry_some t
        (b := (b.accountEnds o e .done).counted o e .done answer) (f := f.counted o e.lend .done answer) (at_ ▸ link)
      rw [at_] at carried away queue
      have origin : (f.counted o e.lend .done answer).origin = f.origin := InFlight.counted_origin ..
      have ep : ((b.accountEnds o e .done).counted o e .done answer).ep = b.ep := by rw [Blocks.counted_eq]; simp
      have raised : ((b.accountEnds o e .done).counted o e .done answer).raised = b.raised := by
        rw [Blocks.counted_eq]; simp
      have cls : m.cls = l.cls := by rw [accounted.eq]
      have named : m.id = e.link := Blocks.link_id link
      dsimp only
      rw [delivered]
      refine ⟨⟨_, carried, rfl⟩, away, queue, fun queued => ?_, fun deferred => ?_⟩
      · rw [origin, queued, Blocks.CarriedAs, ep, raised, cls, named, EpisodeController.modOpen_inOrder] at counts
        exact ⟨counts.1, fun opened => counts.2.trans (if_pos opened),
          fun shut => counts.2.trans (if_neg (by simp [shut]))⟩
      · rw [origin, deferred, Blocks.CarriedAs, ep, raised, cls, named, EpisodeController.modOpen_late] at counts
        exact counts
    · obtain ⟨g, entry, refused, backlog, link⟩ := meets.refusal (t := t) (given := given) code step
      exact ⟨by rw [entry]; exact congrArg some refused, backlog, l, link, rfl⟩

end Sys2Proof.Machine
end

section
/-! SUPPORT. Links that leave every collection: the drops of a loss without cover (R46), and the links that the report of cover
returns to the restore queue (R40, R111). -/

namespace Sys2Proof.Machine

/-! ### In no collection (R20) -/

/-- The link has no entry and stands neither in the restore queue nor in the deferred list. -/
def Blocks.Uncollected (b : Blocks) (id : Nat) : Prop :=
  b.entry id = none ∧ id ∉ b.engine.queue ∧ id ∉ b.engine.deferred

section
variable {b : Blocks} {id k : Nat} {l : Link}

theorem Blocks.entry_leaveInFlight_none (h : b.entry k = none) : (b.leaveInFlight id).entry k = none := by
  by_cases hk : k = id
  · exact hk ▸ Blocks.entry_leaveInFlight_same
  · exact (Blocks.entry_leaveInFlight_other hk).trans h

theorem Blocks.uncollected_release (b : Blocks) (id : Nat) : (b.release id).Uncollected id :=
  ⟨Blocks.entry_leaveInFlight_same, by simp [Blocks.release, Blocks.leaveDeferred, Blocks.modLink, Blocks.mapLinks],
    by simp [Blocks.release, Blocks.leaveDeferred, Blocks.modLink, Blocks.mapLinks]⟩

theorem Blocks.Uncollected.release (h : b.Uncollected k) : (b.release id).Uncollected k := by
  obtain ⟨entry, queue, deferred⟩ := h
  exact ⟨Blocks.entry_leaveInFlight_none entry, fun hq => queue (List.mem_of_mem_filter (by exact hq)),
    fun hd => deferred (List.mem_of_mem_filter (by exact hd))⟩

/-! ### One drop (R46) -/

theorem Blocks.dropLink_some (hl : b.link id = some l) :
    b.dropLink id = ((b.release id).raise (.link .dropped id l.cls none)).tally Episode.countDropped := by
  unfold Blocks.dropLink
  rw [hl]

theorem Blocks.dropLink_other (hk : k ≠ id) : (b.dropLink id).link k = b.link k := by
  unfold Blocks.dropLink
  split
  · rfl
  · exact Blocks.link_release_other hk

theorem Blocks.Uncollected.dropLink (h : b.Uncollected k) : (b.dropLink id).Uncollected k := by
  unfold Blocks.dropLink
  split
  · exact h
  · exact h.release

end

/-! ### Several drops (R46) -/

/-- The notices of links dropped. -/
def dropNotices (links : List Link) : List Event := links.map (fun l => .link .dropped l.id l.cls none)

/-- The episode controller once links are counted as dropped. -/
def EpisodeController.dropped (ep : EpisodeController) (links : List Link) : EpisodeController :=
  links.foldl (fun ep _ => ep.modOpen Episode.countDropped) ep

theorem Blocks.drops_other {ids : List Nat} {b : Blocks} {k : Nat} (hk : k ∉ ids) :
    (ids.foldl Blocks.dropLink b).link k = b.link k := by
  induction ids generalizing b with
  | nil => rfl
  | cons id ids ih =>
    rw [List.mem_cons, not_or] at hk
    exact (ih hk.2).trans (Blocks.dropLink_other hk.1)

theorem Blocks.Uncollected.drops {ids : List Nat} {b : Blocks} {k : Nat} (h : b.Uncollected k) :
    (ids.foldl Blocks.dropLink b).Uncollected k := by
  induction ids generalizing b with
  | nil => exact h
  | cons id ids ih => exact ih h.dropLink

/-- R46: records of different links are dropped, in their order. -/
theorem Blocks.drops {links : List Link} {b : Blocks} (found : ∀ l ∈ links, b.link l.id = some l)
    (nodup : (links.map Link.id).Nodup) :
    let c := (links.map Link.id).foldl Blocks.dropLink b
    c.raised = b.raised ++ dropNotices links ∧ c.ep = b.ep.dropped links
    ∧ ∀ l ∈ links, c.link l.id = some { l with state := .releasing, deferral := none } ∧ c.Uncollected l.id := by
  induction links generalizing b with
  | nil => exact ⟨(List.append_nil _).symm, rfl, fun l hl => nomatch hl⟩
  | cons l links ih =>
    rw [List.map_cons, List.nodup_cons] at nodup
    obtain ⟨fresh, nodup⟩ := nodup
    have hl := found l (List.mem_cons_self ..)
    have apart : ∀ m ∈ links, m.id ≠ l.id := fun m hm e => fresh (e ▸ List.mem_map_of_mem hm)
    obtain ⟨raised, ep, rest⟩ := ih (b := b.dropLink l.id)
      (fun m hm => (Blocks.dropLink_other (apart m hm)).trans (found m (List.mem_cons_of_mem _ hm))) nodup
    dsimp only
    rw [List.map_cons, List.foldl_cons]
    refine ⟨raised.trans ?_, ep.trans ?_, fun m hm => ?_⟩
    · rw [Blocks.dropLink_some hl]
      exact List.append_assoc ..
    · rw [Blocks.dropLink_some hl]
      rfl
    · rcases List.mem_cons.mp hm with rfl | hm
      · have released : (b.dropLink m.id).link m.id = some { m with state := .releasing, deferral := none }
            ∧ (b.dropLink m.id).Uncollected m.id := by
          rw [Blocks.dropLink_some hl]
          exact ⟨Blocks.link_release_same hl, b.uncollected_release m.id⟩
        exact ⟨(Blocks.drops_other fresh).trans released.1, released.2.drops⟩
      · exact rest m hm

/-! ### The drops of a loss (R44, R46) -/

/-- R44: a record once the ends on the slot count as detached. -/
def Link.detachedFrom (l : Link) (i : SlotId) : Link :=
  { l with attA := l.attA && !(l.epA.slot == i), attB := l.attB && !(l.epB.slot == i) }

theorem Blocks.detachSlot_store (b : Blocks) (i : SlotId) :
    (b.detachSlot i).store = { b.store with links := b.store.links.map (Link.detachedFrom · i) } := rfl

theorem Link.detachedFrom_detachedFrom (l : Link) (i : SlotId) : (l.detachedFrom i).detachedFrom i = l.detachedFrom i := by
  simp [Link.detachedFrom]

/-- R44: the ends on a slot count as detached, once. -/
theorem Blocks.detachSlot_store_idem {b c : Blocks} {i : SlotId} (h : c.store = (b.detachSlot i).store) :
    (c.detachSlot i).store = (b.detachSlot i).store := by
  rw [Blocks.detachSlot_store, h, Blocks.detachSlot_store]
  simp only [List.map_map, Function.comp_def, Link.detachedFrom_detachedFrom]

/-- R46: the links with an end on the slot that are not RELEASING. -/
def Blocks.droppable (b : Blocks) (i : SlotId) : List Link :=
  b.store.links.filter (fun l => (l.epA.slot == i || l.epB.slot == i) && l.state != .releasing)

theorem Blocks.dropLinks_eq (b : Blocks) (i : SlotId) :
    b.dropLinks (fun l => l.endsOn i) = ((b.droppable i).map Link.id).foldl Blocks.dropLink b := rfl

theorem Blocks.droppable_detached {b c : Blocks} {i : SlotId} (h : c.store = (b.detachSlot i).store) :
    c.droppable i = (b.droppable i).map (Link.detachedFrom · i) := by
  unfold Blocks.droppable
  rw [h, Blocks.detachSlot_store, List.filter_map]
  rfl

/-- R44, R46: what the drops of a loss do, once the ends on the slot are detached. -/
theorem Blocks.dropLinks_detached {b y : Blocks} {i : SlotId} (store : y.store = (b.detachSlot i).store)
    (law : b.store.Law) :
    let c := y.dropLinks (fun l => l.endsOn i)
    c.raised = y.raised ++ dropNotices (b.droppable i) ∧ c.ep = y.ep.dropped (b.droppable i)
    ∧ ∀ k l, b.link k = some l →
      (l ∈ b.droppable i → c.link k = some { l.detachedFrom i with state := .releasing, deferral := none }
        ∧ c.entry k = none ∧ k ∉ c.engine.queue ∧ k ∉ c.engine.deferred)
      ∧ (l ∉ b.droppable i → c.link k = some (l.detachedFrom i)) := by
  have lawY : y.store.Law := by
    rw [store, Blocks.detachSlot_store]
    exact law.mapLinks (fun _ => rfl) (fun _ => rfl) (fun _ => rfl) (fun _ => rfl)
  have read : ∀ {k l}, b.link k = some l → y.link k = some (l.detachedFrom i) := fun hl =>
    (Blocks.link_congr store _).trans (Blocks.link_detachSlot i hl)
  have ids : (y.store.links.map Link.id).Nodup := List.pairwise_map.mpr (lawY.1.imp fun h => h.ne)
  obtain ⟨raised, ep, dropped⟩ := Blocks.drops (b := y) (links := y.droppable i)
    (fun l hl => lawY.link_of_mem (List.mem_of_mem_filter hl)) (ids.sublist (List.filter_sublist.map _))
  rw [← Blocks.dropLinks_eq, Blocks.droppable_detached store] at raised ep dropped
  refine ⟨raised.trans ?_, ep.trans ?_, fun k l hl => ⟨fun hd => ?_, fun hd => ?_⟩⟩
  · simp [dropNotices, Function.comp_def, Link.detachedFrom]
  · simp [EpisodeController.dropped, List.foldl_map]
  · obtain ⟨link, entry, queue, deferred⟩ := dropped (l.detachedFrom i) (List.mem_map_of_mem hd)
    have own : (l.detachedFrom i).id = k := Blocks.link_id (read hl)
    subst own
    exact ⟨link, entry, queue, deferred⟩
  · rw [Blocks.dropLinks_eq, Blocks.drops_other, read hl]
    rw [Blocks.droppable_detached store, List.map_map]
    intro hk
    obtain ⟨m, hm, hid⟩ := List.mem_map.mp hk
    exact hd (law.link_eq hl (List.mem_of_mem_filter hm) hid ▸ hm)

/-! ### The report of cover (R111) -/

section
variable {b : Blocks} {id k : Nat} {l : Link}

/-- R40, R111, R118: what a return does, by the state of its link. -/
theorem Blocks.returnLink_eq (hl : b.link id = some l) : b.returnLink id =
    if l.state.flying then
      if l.removal then b.release id else ((b.leaveInFlight id).setLinkState id .pending).joinQueue id
    else if l.state = .carried then (b.setLinkState id .pending).joinQueue id
    else if l.state = .suspect then b.setLinkState id .pending
    else b := by
  unfold Blocks.returnLink
  rw [hl]
  dsimp only
  cases l.state <;> rfl

theorem Blocks.entry_joinQueue (b : Blocks) (id k : Nat) : (b.joinQueue id).entry k = b.entry k := by
  rw [Blocks.entry, Blocks.joinQueue_engine]
  rfl

theorem Blocks.returnLink_entry_none (h : b.entry k = none) : (b.returnLink id).entry k = none := by
  cases hl : b.link id with
  | none => unfold Blocks.returnLink; rw [hl]; exact h
  | some l =>
    rw [Blocks.returnLink_eq hl]
    split
    · split
      · exact Blocks.entry_leaveInFlight_none h
      · rw [Blocks.entry_joinQueue]; exact Blocks.entry_leaveInFlight_none h
    · split
      · rw [Blocks.entry_joinQueue]; exact h
      · split <;> exact h

theorem Blocks.returnLink_entry_flying (hl : b.link id = some l) (fl : l.state.flying = true) :
    (b.returnLink id).entry id = none := by
  rw [Blocks.returnLink_eq hl, if_pos fl]
  split
  · exact Blocks.entry_leaveInFlight_same
  · rw [Blocks.entry_joinQueue]; exact Blocks.entry_leaveInFlight_same

/-- R40: a link that was CARRIED, or in flight and wanted, is back in the restore queue. -/
theorem Blocks.returnLink_queued (hl : b.link id = some l)
    (back : l.state = .carried ∨ (l.state.flying = true ∧ l.removal = false)) : id ∈ (b.returnLink id).engine.queue := by
  have joined : ∀ {c : Blocks}, c.link id = some l → id ∈ ((c.setLinkState id .pending).joinQueue id).engine.queue :=
    fun h => Blocks.mem_joinQueue.mpr (.inr ⟨rfl, by rw [Blocks.link_setLinkState_same _ h]; rfl⟩)
  rw [Blocks.returnLink_eq hl]
  rcases back with carried | ⟨fl, kept⟩
  · rw [if_neg (by simp [carried, LinkState.flying]), if_pos carried]
    exact joined hl
  · rw [if_pos fl, if_neg (by simp [kept])]
    exact joined (c := b.leaveInFlight id) hl

/-- A PENDING link stays in the restore queue, whatever link returns. -/
theorem Blocks.returnLink_keeps_queued {m : Link} (hm : b.link k = some m) (waits : m.state = .pending)
    (hk : k ∈ b.engine.queue) : k ∈ (b.returnLink id).engine.queue := by
  cases hl : b.link id with
  | none => unfold Blocks.returnLink; rw [hl]; exact hk
  | some l =>
    rw [Blocks.returnLink_eq hl]
    split
    next fl =>
      split
      · refine Blocks.mem_leaveQueue.mpr ⟨hk, ?_⟩
        rintro rfl
        obtain rfl := Option.some.inj (hm.symm.trans hl)
        rw [waits] at fl
        cases fl
      · exact Blocks.mem_joinQueue.mpr (.inl hk)
    · split
      · exact Blocks.mem_joinQueue.mpr (.inl hk)
      · split <;> exact hk

end

theorem Blocks.returns_entry_none {ids : List Nat} {b : Blocks} {k : Nat} (h : b.entry k = none) :
    (ids.foldl Blocks.returnLink b).entry k = none := by
  induction ids generalizing b with
  | nil => exact h
  | cons id ids ih => exact ih (Blocks.returnLink_entry_none h)

theorem Blocks.returns_entry {ids : List Nat} {b : Blocks} {k : Nat} {l : Link} (hk : k ∈ ids) (hl : b.link k = some l)
    (fl : l.state.flying = true) : (ids.foldl Blocks.returnLink b).entry k = none := by
  induction ids generalizing b with
  | nil => cases hk
  | cons id ids ih =>
    by_cases here : k = id
    · subst here
      exact Blocks.returns_entry_none (b := b.returnLink k) (Blocks.returnLink_entry_flying hl fl)
    · exact ih ((List.mem_cons.mp hk).resolve_left here) ((Blocks.link_returnLink_other here).trans hl)

theorem Blocks.returns_keep_queued {ids : List Nat} {b : Blocks} {k : Nat} {m : Link} (hm : b.link k = some m)
    (waits : m.state = .pending) (hk : k ∈ b.engine.queue) : k ∈ (ids.foldl Blocks.returnLink b).engine.queue := by
  induction ids generalizing b with
  | nil => exact hk
  | cons id ids ih =>
    have rests : m.returned = m := by simp [Link.returned, waits, LinkState.flying]
    refine ih ?_ (Blocks.returnLink_keeps_queued hm waits hk)
    by_cases here : k = id
    · subst here
      rw [Blocks.link_returnLink_same hm, rests]
    · exact (Blocks.link_returnLink_other here).trans hm

theorem Blocks.returns_queued {ids : List Nat} {b : Blocks} {k : Nat} {l : Link} (hk : k ∈ ids) (hl : b.link k = some l)
    (back : l.state = .carried ∨ (l.state.flying = true ∧ l.removal = false)) :
    k ∈ (ids.foldl Blocks.returnLink b).engine.queue := by
  induction ids generalizing b with
  | nil => cases hk
  | cons id ids ih =>
    by_cases here : k = id
    · subst here
      have pending : l.returned.state = .pending := by
        rw [Link.returned_state]
        rcases back with h | ⟨fl, kept⟩
        · simp [h, LinkState.flying]
        · simp [fl, kept]
      exact Blocks.returns_keep_queued (b := b.returnLink k) (Blocks.link_returnLink_same hl) pending
        (Blocks.returnLink_queued hl back)
    · exact ih ((List.mem_cons.mp hk).resolve_left here) ((Blocks.link_returnLink_other here).trans hl)

end Sys2Proof.Machine
end

section
/-! CERTIFICATE. What the loss of a slot does: cover taken, its links dropped, or the slot it held settled (R46, R90, R110, R111,
R115). -/

namespace Sys2Proof.Machine

/-! ### The entry to LOST (R90) -/

section
variable {b : Blocks} {i : SlotId} {reason : LossReason}

/-- R83, R169: the notice of a change of state, with the lost reason that then stands. -/
theorem Blocks.changeState_raised {st : SlotState} (h : (b.slot i).state ≠ st) :
    (b.changeState i st).raised =
      b.raised ++ [.slotState i (b.slot i).state st ((b.changeState i st).slot i).lostReason] := by
  unfold Blocks.changeState
  dsimp only
  rw [if_neg h, Blocks.slot_raise]
  exact congrArg (· ++ _) (b.abandonOrder_frame i).2.2.2.2.1

/-- R83, R78: a state entered, when it is not LOST, leaves no lost reason. -/
theorem Blocks.changeState_unlost {st : SlotState} (h : (b.slot i).state ≠ st) (hst : st ≠ .lost) :
    ((b.changeState i st).slot i).lostReason = none := by
  unfold Blocks.changeState
  dsimp only
  rw [if_neg h, Blocks.slot_raise, Blocks.slot_modSlot_same]
  exact if_neg hst

theorem Blocks.changeState_deadline {st : SlotState} (h : (b.slot i).state ≠ st) (hst : st.timed = false) :
    ((b.changeState i st).slot i).deadline = none := by
  unfold Blocks.changeState
  dsimp only
  rw [if_neg h, Blocks.slot_raise, Blocks.slot_modSlot_same]
  simp [SlotRec.enter, hst]

/-- R44, R137: the links once the power sequencer has switched a slot off. -/
theorem Blocks.powerOff_store (b : Blocks) (i : SlotId) :
    (b.powerOff i).store = if (b.powerRec i).closed then (b.detachSlot i).store else b.store := by
  unfold Blocks.powerOff Blocks.openSwitch
  split <;> rfl

theorem Blocks.powerRec_congr {c : Blocks} (h : c.power = b.power) (j : SlotId) : c.powerRec j = b.powerRec j := by
  rw [Blocks.powerRec, h, Blocks.powerRec]

/-- R137: the power of a slot that was switched off. -/
theorem Blocks.powerOff_powerRec (b : Blocks) (i : SlotId) :
    (b.powerOff i).powerRec i = { b.powerRec i with
      closed := false, charge := if (b.powerRec i).closed then 0 else (b.powerRec i).charge, ramp := none, dark := none } := by
  unfold Blocks.powerOff
  rw [Blocks.powerRec_modPower_same]
  change { (b.openSwitch i).powerRec i with ramp := none, dark := none } = _
  unfold Blocks.openSwitch
  split
  next => rw [Blocks.powerRec_congr (Blocks.switchOpened_frame _ _).1, Blocks.powerRec_modPower_same]
  next opened => simp [Bool.eq_false_iff.mpr opened]

theorem Blocks.powerOff_queue (b : Blocks) (i : SlotId) : i ∉ (b.powerOff i).power.queue := by
  have left : i ∉ ((b.openSwitch i).leaveAdmission i).power.queue := by
    simp [Blocks.leaveAdmission, Blocks.setPowerQueue]
  exact left

/-- R90: up to its switching off, the entry to LOST touches neither the power nor the links. -/
theorem Blocks.enterLost_off (b : Blocks) (i : SlotId) (reason : LossReason) :
    ∃ c : Blocks, b.enterLost i reason = (c.powerOff i).tally Episode.countSlotLost ∧ c.store = b.store
      ∧ ∀ j, c.powerRec j = b.powerRec j :=
  ⟨_, rfl, by simp, Blocks.powerRec_congr (by simp)⟩

theorem Blocks.enterLost_store (b : Blocks) (i : SlotId) (reason : LossReason) :
    (b.enterLost i reason).store = if (b.powerRec i).closed then (b.detachSlot i).store else b.store := by
  obtain ⟨c, lost, store, power⟩ := b.enterLost_off i reason
  rw [lost, ← power i]
  refine (Blocks.powerOff_store c i).trans ?_
  rw [Blocks.detachSlot_store, Blocks.detachSlot_store, store]

theorem Blocks.enterLost_power (b : Blocks) (i : SlotId) (reason : LossReason) :
    (b.enterLost i reason).powerRec i = { b.powerRec i with
      closed := false, charge := if (b.powerRec i).closed then 0 else (b.powerRec i).charge, ramp := none, dark := none }
    ∧ i ∉ (b.enterLost i reason).power.queue := by
  obtain ⟨c, lost, -, power⟩ := b.enterLost_off i reason
  rw [lost, ← power i]
  exact ⟨c.powerOff_powerRec i, c.powerOff_queue i⟩

theorem Blocks.enterLost_detached (b : Blocks) (i : SlotId) (reason : LossReason) :
    ((b.enterLost i reason).detachSlot i).store = (b.detachSlot i).store := by
  have store := b.enterLost_store i reason
  split at store
  · exact Blocks.detachSlot_store_idem store
  · rw [Blocks.detachSlot_store, store, Blocks.detachSlot_store]

/-- R44: a record once its slot was switched off: an end on it is detached where the switch was closed. -/
def Link.switchedOff (l : Link) (closed : Bool) (i : SlotId) : Link :=
  { l with attA := l.attA && !(closed && l.epA.slot == i), attB := l.attB && !(closed && l.epB.slot == i) }

theorem Link.switchedOff_eq (l : Link) (closed : Bool) (i : SlotId) :
    l.switchedOff closed i = if closed then l.detachedFrom i else l := by
  cases closed <;> simp [Link.switchedOff, Link.detachedFrom]

theorem Blocks.enterLost_link {k : Nat} {l : Link} (hl : b.link k = some l) :
    (b.enterLost i reason).link k = some (l.switchedOff (b.powerRec i).closed i) := by
  have store := b.enterLost_store i reason
  rw [Link.switchedOff_eq]
  split at store
  next closed => rw [Blocks.link_congr store, if_pos closed]; exact Blocks.link_detachSlot i hl
  next opened => rw [Blocks.link_congr store, if_neg opened, hl]

theorem Blocks.enterLost_ep (b : Blocks) (i : SlotId) (reason : LossReason) :
    (b.enterLost i reason).ep = b.ep.modOpen Episode.countSlotLost := by
  simp [Blocks.enterLost, Blocks.tally]

theorem Blocks.enterLost_raised (h : (b.slot i).state ≠ .lost) :
    (b.enterLost i reason).raised = b.raised ++ [.slotState i (b.slot i).state .lost (some reason)] := by
  have state : ((b.modSlot i (fun r => { r with lostReason := some reason, attention := false })).slot i).state
      = (b.slot i).state :=
    Blocks.modSlot_keeps SlotRec.state b i i
  have raised := Blocks.changeState_raised (b := b.modSlot i _) (state.symm ▸ h)
  rw [state, Blocks.changeState_lostReason, Blocks.slot_modSlot_same] at raised
  simpa [Blocks.enterLost] using raised

theorem Blocks.enterLost_evolves (b : Blocks) (i : SlotId) (reason : LossReason) : b.Evolves (b.enterLost i reason) :=
  ((((Blocks.Evolves.refl b).modSlot i).changeState i .lost).powerOff i).tally _

theorem Blocks.enterLost_plan (b : Blocks) (i j : SlotId) (reason : LossReason) :
    ((b.enterLost i reason).slot j).plan = (b.slot j).plan := congrFun (b.enterLost_evolves i reason).1 j

/-- The entry to LOST leaves the ends of every link on their slots. -/
theorem Blocks.enterLost_ends {i j : SlotId} :
    (∀ l ∈ (b.enterLost i reason).store.links, l.epA.slot ≠ j ∧ l.epB.slot ≠ j)
      ↔ ∀ l ∈ b.store.links, l.epA.slot ≠ j ∧ l.epB.slot ≠ j := by
  have store := b.enterLost_store i reason
  split at store
  · rw [store, Blocks.detachSlot_store]
    exact List.forall_mem_map
  · rw [store]

end

/-! ### Who covers (R110) -/

theorem Blocks.plannedSpare_iff {b : Blocks} {t : SlotId} : b.plannedSpare = some t ↔
    (∃ q, (b.slot t).plan = some q ∧ q.role = .spare)
      ∧ ∀ u, u < t → ∀ r, (b.slot u).plan = some r → r.role = .working := by
  have spare : ∀ {u}, ((b.slot u).plan.any fun p => p.role == .spare) = true ↔
      ∃ q, (b.slot u).plan = some q ∧ q.role = .spare := by simp [Option.any_eq_true]
  have apart : ∀ {u}, ((b.slot u).plan.any fun p => p.role == .spare) = false ↔
      ∀ r, (b.slot u).plan = some r → r.role = .working := by
    intro u
    have roles : ∀ r : Plan, r.role ≠ .spare ↔ r.role = .working := fun r => by cases r.role <;> simp
    simp [Option.any_eq_false, roles]
  unfold Blocks.plannedSpare
  rw [allSlots, List.find?_eq_some_iff_getElem]
  constructor
  · rintro ⟨ht, u, hu, rfl, hlow⟩
    refine ⟨spare.mp ht, fun v hv => apart.mp ?_⟩
    simpa using hlow v.val (by simpa [Fin.lt_def] using hv)
  · rintro ⟨ht, hlow⟩
    refine ⟨spare.mpr ht, t.val, by simp, by simp, fun j hj => ?_⟩
    simpa using apart.mpr (hlow ⟨j, by omega⟩ hj)

theorem Blocks.coverTarget_iff {b : Blocks} {i t : SlotId} {reason : LossReason} :
    b.coverTarget i reason = some t ↔ Coverable b i reason t := by
  unfold Blocks.coverTarget
  constructor
  · intro h
    split at h
    next p u hp hu =>
      split at h
      next c =>
        obtain ⟨role, enabled, kept, card, live, free, clear⟩ := c
        obtain rfl := Option.some.inj h
        obtain ⟨⟨q, hq, isSpare⟩, lowest⟩ := Blocks.plannedSpare_iff.mp hu
        exact ⟨p, q, hp, role, enabled, kept, hq, isSpare, by simpa [hq] using card, lowest, live, free,
          by simpa [Link.endsOn] using clear⟩
      · cases h
    · cases h
  · rintro ⟨p, q, hp, role, enabled, kept, hq, isSpare, card, lowest, live, free, clear⟩
    rw [hp, Blocks.plannedSpare_iff.mpr ⟨⟨q, hq, isSpare⟩, lowest⟩]
    exact if_pos ⟨role, enabled, kept, by simp [hq, card], live, free, by simpa [Link.endsOn] using clear⟩

/-- R110: the spare is not the slot it covers. -/
theorem coverable_apart {b : Blocks} {i t : SlotId} {reason : LossReason} (h : Coverable b i reason t) : t ≠ i := by
  obtain ⟨p, q, hp, role, -, -, hq, isSpare, -⟩ := h
  rintro rfl
  obtain rfl := Option.some.inj (hp.symm.trans hq)
  rw [role] at isSpare
  cases isSpare

/-- R110: the entry of a slot to LOST leaves who can cover it. -/
theorem Blocks.enterLost_coverable {b : Blocks} {i t : SlotId} {reason : LossReason} :
    Coverable (b.enterLost i reason) i reason t ↔ Coverable b i reason t := by
  have state : t ≠ i → (b.enterLost i reason).slot t = b.slot t := b.enterLost_other reason
  constructor
  · intro h
    have same := state (coverable_apart h)
    unfold Coverable at h
    unfold Coverable
    simpa only [Blocks.enterLost_plan, same, Blocks.enterLost_ends] using h
  · intro h
    have same := state (coverable_apart h)
    unfold Coverable at h ⊢
    simpa only [Blocks.enterLost_plan, same, Blocks.enterLost_ends] using h

/-! ### Cover (R110, R111) -/

/-- R110: the slot with its cover reason, COVERED. -/
def Blocks.coveredFor (b : Blocks) (i : SlotId) (reason : LossReason) : Blocks :=
  (b.modSlot i (fun r => { r with coverReason := some reason })).changeState i .covered

/-- R110: cover taken, before the engine is told. -/
def Blocks.taken (b : Blocks) (i t : SlotId) (reason : LossReason) : Blocks :=
  (((b.coveredFor i reason).modSlot t (fun r =>
    { r with coveredSlot := some i, coverLoad := some { runs := 0, done := false }, writeSet := [] })).remapLinks i t).tally
      Episode.countSlotCovered

theorem Blocks.takeCover_eq (b : Blocks) (i t : SlotId) (reason : LossReason) :
    b.takeCover i t reason = (b.taken i t reason).coverReport i := rfl

/-- R11: a record once its ends on the slot were moved to the spare. -/
def Link.remapped (l : Link) (i t : SlotId) : Link := { l with epA := l.epA.remap i t, epB := l.epB.remap i t }

/-- R111: a record with an end at home in the slot. -/
def Link.homedIn (l : Link) (i : SlotId) : Bool := l.epA.home == some i || l.epB.home == some i

section
variable {b : Blocks} {i t : SlotId} {reason : LossReason}

theorem Blocks.coveredFor_store (b : Blocks) (i : SlotId) (reason : LossReason) :
    (b.coveredFor i reason).store = b.store := by
  simp [Blocks.coveredFor]

theorem Blocks.coveredFor_other {j : SlotId} (h : j ≠ i) : (b.coveredFor i reason).slot j = b.slot j :=
  (Blocks.changeState_other _ _ h).trans (Blocks.slot_modSlot_other _ _ _ _ h)

/-- R78: a LOST slot that is COVERED has no lost reason. -/
theorem Blocks.coveredFor_lost (lost : (b.slot i).state = .lost) :
    ((b.coveredFor i reason).slot i).lostReason = none
    ∧ (b.coveredFor i reason).raised = b.raised ++ [.slotState i .lost .covered none] := by
  have state : ((b.modSlot i (fun r => { r with coverReason := some reason })).slot i).state = .lost := by
    rw [Blocks.slot_modSlot_same]; exact lost
  have apart : ((b.modSlot i (fun r => { r with coverReason := some reason })).slot i).state ≠ .covered := by
    rw [state]; decide
  have unlost := Blocks.changeState_unlost apart (by decide)
  have raised := Blocks.changeState_raised apart
  rw [state, unlost] at raised
  exact ⟨unlost, raised⟩

theorem Blocks.taken_store (b : Blocks) (i t : SlotId) (reason : LossReason) :
    (b.taken i t reason).store = { b.store with links := b.store.links.map (Link.remapped · i t) } := by
  have moved : (b.taken i t reason).store
      = { (b.coveredFor i reason).store with links := (b.coveredFor i reason).store.links.map (Link.remapped · i t) } := rfl
  rw [moved, Blocks.coveredFor_store]

theorem Blocks.taken_link {k : Nat} {l : Link} (hl : b.link k = some l) :
    (b.taken i t reason).link k = some (l.remapped i t) := by
  have moved := Blocks.link_mapLinks (b := b) (f := (Link.remapped · i t)) (fun _ => rfl) k
  rw [hl] at moved
  exact (Blocks.link_congr (b.taken_store i t reason) k).trans moved

/-- R110: the notice and the count of cover. -/
theorem Blocks.takeCover_told (lost : (b.slot i).state = .lost) :
    (b.takeCover i t reason).raised = b.raised ++ [.slotState i .lost .covered none]
    ∧ (b.takeCover i t reason).ep = b.ep.modOpen Episode.countSlotCovered := by
  obtain ⟨-, -, ep, told, -⟩ := Blocks.coverReport_frame (b.taken i t reason) i
  rw [Blocks.takeCover_eq]
  refine ⟨told.trans (Blocks.coveredFor_lost lost).2, ep.trans ?_⟩
  simp [Blocks.taken, Blocks.coveredFor, Blocks.tally, Blocks.remapLinks]

/-- R110: the slot records once cover is taken. -/
theorem Blocks.takeCover_slots (lost : (b.slot i).state = .lost) (apart : t ≠ i) :
    ((b.takeCover i t reason).slot i).lostReason = none
    ∧ (b.takeCover i t reason).slot t
        = { b.slot t with coveredSlot := some i, coverLoad := some { runs := 0, done := false }, writeSet := [] }
    ∧ ∀ j, j ≠ i → j ≠ t → (b.takeCover i t reason).slot j = b.slot j := by
  have slots : ∀ j, (b.takeCover i t reason).slot j = ((b.coveredFor i reason).modSlot t (fun r =>
      { r with coveredSlot := some i, coverLoad := some { runs := 0, done := false }, writeSet := [] })).slot j :=
    Blocks.slot_congr (by rw [Blocks.takeCover_eq]; simp [Blocks.taken])
  refine ⟨?_, ?_, fun j hi ht => ?_⟩
  · rw [slots, Blocks.slot_modSlot_other _ _ _ _ apart.symm]
    exact (Blocks.coveredFor_lost lost).1
  · rw [slots, Blocks.slot_modSlot_same, Blocks.coveredFor_other apart]
  · rw [slots, Blocks.slot_modSlot_other _ _ _ _ ht, Blocks.coveredFor_other hi]

/-- R111: every link once cover is taken. -/
theorem Blocks.takeCover_link (law : b.store.Law) {k : Nat} {l : Link} (hl : b.link k = some l) :
    (b.takeCover i t reason).link k =
      some (if (l.remapped i t).homedIn i then (l.remapped i t).returned else l.remapped i t)
    ∧ ((l.remapped i t).homedIn i = true →
        (l.state.flying = true → (b.takeCover i t reason).entry k = none)
        ∧ (l.state = .carried ∨ (l.state.flying = true ∧ l.removal = false) →
            k ∈ (b.takeCover i t reason).engine.queue)) := by
  have link := Blocks.taken_link (i := i) (t := t) (reason := reason) hl
  have lawT : (b.taken i t reason).store.Law := by
    rw [Blocks.taken_store]
    exact law.mapLinks (fun _ => rfl) (fun _ => rfl) (fun _ => rfl) (fun _ => rfl)
  have named := lawT.mem_linkIds link (fun l => l.epA.home == some i || l.epB.home == some i)
  rw [Blocks.takeCover_eq]
  refine ⟨?_, fun homed => ⟨fun fl => ?_, fun back => ?_⟩⟩
  · refine (Blocks.link_foldl_returnLink _ link).trans ?_
    simp only [named]
    rfl
  · exact Blocks.returns_entry (named.mpr homed) link fl
  · exact Blocks.returns_queued (named.mpr homed) link back

theorem Link.homedIn_iff {l : Link} : l.homedIn i = true ↔ l.epA.home = some i ∨ l.epB.home = some i := by
  simp [Link.homedIn]

/-- R111: the report of cover changes the state and the deferral of a record alone. -/
theorem Link.reported_eq (l : Link) (i : SlotId) :
    ∃ st d, (if l.homedIn i then l.returned else l) = { l with state := st, deferral := d }
      ∧ st = if l.homedIn i then l.returned.state else l.state := by
  split
  · exact ⟨_, _, l.returned_eq, rfl⟩
  · exact ⟨_, _, rfl, rfl⟩

/-- R110, R111: a loss that the spare covers. -/
theorem Blocks.lose_covered (inService : (b.slot i).state ≠ .lost) (free : (b.slot i).coveredSlot = none)
    (steady : (b.slot i).revertMark = false) (covers : Coverable b i reason t) :
    CoverTaken b (b.lose i reason) i reason t := by
  have apart := coverable_apart covers
  have taken : b.lose i reason = (b.enterLost i reason).takeCover i t reason := by
    rw [Blocks.lose_eq, Blocks.settleLoss, Blocks.enterLost_coveredSlot, free, Blocks.enterLost_revertMark, steady,
      Blocks.coverTarget_iff.mpr (Blocks.enterLost_coverable.mpr covers)]
    rfl
  rw [taken]
  have lost := b.enterLost_state i reason
  obtain ⟨state, coverReason⟩ := (b.enterLost i reason).takeCover_covered i t reason
  obtain ⟨lostReason, spare, others⟩ := Blocks.takeCover_slots (reason := reason) lost apart
  obtain ⟨raised, ep⟩ := Blocks.takeCover_told (t := t) (reason := reason) lost
  rw [Blocks.enterLost_raised inService, List.append_assoc] at raised
  rw [Blocks.enterLost_ep] at ep
  rw [b.enterLost_other reason apart] at spare
  refine ⟨state, coverReason, lostReason, spare,
    fun j hi ht => (others j hi ht).trans (b.enterLost_other reason hi), raised, ep, fun law k l hl => ?_⟩
  have lawX := law.evolves (b.enterLost_evolves i reason).2
  obtain ⟨link, told⟩ := Blocks.takeCover_link (i := i) (t := t) (reason := reason) lawX (Blocks.enterLost_link hl)
  generalize hr : (l.switchedOff (b.powerRec i).closed i).remapped i t = r at link told
  obtain ⟨st, d, reported, hst⟩ := r.reported_eq i
  rw [reported] at link
  rw [Link.returned_state] at hst
  have was : r.state = l.state ∧ r.removal = l.removal := hr ▸ ⟨rfl, rfl⟩
  rw [was.1, was.2] at hst
  refine ⟨_, link, by subst hr; rfl, by subst hr; rfl, by subst hr; rfl, by subst hr; rfl, by subst hr; rfl, ?_⟩
  dsimp only
  rw [← Link.homedIn_iff]
  refine ⟨fun homed fl removal => ?_, fun homed back => ⟨?_, (told homed).2 back⟩, fun homed suspect => ?_,
    fun homed fl => (told homed).1 fl, fun stays => ?_⟩
  · rw [hst, if_pos homed, if_pos fl, if_pos removal]
  · rw [hst, if_pos homed]
    rcases back with carried | ⟨fl, kept⟩
    · rw [if_neg (by simp [carried, LinkState.flying]), if_pos (.inl carried)]
    · rw [if_pos fl, if_neg (by simp [kept])]
  · rw [hst, if_pos homed, if_neg (by simp [suspect, LinkState.flying]), if_pos (.inr suspect)]
  · rcases stays with away | rests
    · rw [hst, if_neg away]
    · obtain ⟨grounded, idle⟩ : ¬l.state.flying = true ∧ ¬(l.state = .carried ∨ l.state = .suspect) := by
        rcases rests with h | h | h <;> simp [h, LinkState.flying]
      rw [hst, if_neg grounded, if_neg idle, ite_self]

/-! ### No cover (R46) -/

theorem Blocks.detachSlot_raised (b : Blocks) (i : SlotId) : (b.detachSlot i).raised = b.raised := rfl

theorem Blocks.detachSlot_ep (b : Blocks) (i : SlotId) : (b.detachSlot i).ep = b.ep := rfl

/-- R46, R90: a loss that no spare covers. -/
theorem Blocks.lose_uncovered (inService : (b.slot i).state ≠ .lost) (free : (b.slot i).coveredSlot = none)
    (steady : (b.slot i).revertMark = false) (bare : ∀ t, ¬Coverable b i reason t) :
    LossUncovered b (b.lose i reason) i reason := by
  have uncovered : (b.enterLost i reason).coverTarget i reason = none :=
    Option.eq_none_iff_forall_ne_some.mpr fun t ht => bare t (Blocks.enterLost_coverable.mp (Blocks.coverTarget_iff.mp ht))
  have dropped : b.lose i reason = ((b.enterLost i reason).detachSlot i).dropLinks (fun l => l.endsOn i) := by
    rw [Blocks.lose_eq, Blocks.settleLoss, Blocks.enterLost_coveredSlot, free, Blocks.enterLost_revertMark, steady, uncovered]
    rfl
  rw [dropped]
  refine ⟨by simp, by simp, fun j hj => ?_, fun law => ?_⟩
  · rw [Blocks.slot_dropLinks, Blocks.slot_detachSlot, b.enterLost_other reason hj]
  · obtain ⟨raised, ep, links⟩ := Blocks.dropLinks_detached (b.enterLost_detached i reason) law
    rw [Blocks.detachSlot_raised, Blocks.enterLost_raised inService, List.append_assoc] at raised
    rw [Blocks.detachSlot_ep, Blocks.enterLost_ep] at ep
    exact ⟨raised, ep, links⟩

/-! ### The loss of a spare that holds a slot (R115) -/

/-- R115: the slot the lost spare held, settled. -/
def Blocks.heldSettled (b : Blocks) (s : SlotId) (reason : LossReason) : Blocks :=
  if (b.slot s).revertMark then b.modSlot s (fun r => { r with revertMark := false, coverReason := none })
  else if (b.slot s).state = .lost then b.modSlot s (fun r => { r with lostReason := some reason, coverReason := none })
  else ((b.modSlot s (fun r => { r with lostReason := some reason, coverReason := none })).changeState s .lost).tally
    Episode.countSlotLost

theorem Blocks.spareLost_eq (b : Blocks) (i s : SlotId) (reason : LossReason) : b.spareLost i s reason =
    (((b.heldSettled s reason).endHold i).detachSlot i).dropLinks (fun l => l.endsOn i) := by
  unfold Blocks.spareLost Blocks.heldSettled
  by_cases mark : (b.slot s).revertMark = true
  · simp only [mark, if_true]
  · by_cases lost : (b.slot s).state = .lost
    · simp [mark, lost]
    · simp [mark, lost]

theorem Blocks.heldSettled_other {s j : SlotId} (h : j ≠ s) : (b.heldSettled s reason).slot j = b.slot j := by
  unfold Blocks.heldSettled
  split
  · exact Blocks.slot_modSlot_other _ _ _ _ h
  · split
    · exact Blocks.slot_modSlot_other _ _ _ _ h
    · exact (Blocks.changeState_other _ _ h).trans (Blocks.slot_modSlot_other _ _ _ _ h)

theorem Blocks.heldSettled_store (b : Blocks) (s : SlotId) (reason : LossReason) :
    (b.heldSettled s reason).store = b.store := by
  unfold Blocks.heldSettled
  split
  · rfl
  · split
    · rfl
    · simp

theorem Blocks.heldSettled_reverting {s : SlotId} (mark : (b.slot s).revertMark = true) :
    (b.heldSettled s reason).slot s = { b.slot s with revertMark := false, coverReason := none } := by
  unfold Blocks.heldSettled
  rw [if_pos mark, Blocks.slot_modSlot_same]

theorem Blocks.heldSettled_lost {s : SlotId} (mark : (b.slot s).revertMark = false) :
    ((b.heldSettled s reason).slot s).state = .lost ∧ ((b.heldSettled s reason).slot s).lostReason = some reason
    ∧ ((b.heldSettled s reason).slot s).coverReason = none ∧ ((b.heldSettled s reason).slot s).revertMark = false := by
  unfold Blocks.heldSettled
  rw [if_neg (by simp [mark])]
  split
  next lost =>
    rw [Blocks.slot_modSlot_same]
    exact ⟨lost, rfl, rfl, mark⟩
  next =>
    rw [Blocks.slot_tally]
    refine ⟨Blocks.changeState_state _ s .lost, (Blocks.changeState_lostReason _ s).trans ?_,
      (Blocks.changeState_keeps SlotRec.coverReason (fun _ _ => rfl) (fun _ _ => rfl) _ s s .lost).trans ?_,
      (Blocks.changeState_keeps SlotRec.revertMark (fun _ _ => rfl) (fun _ _ => rfl) _ s s .lost).trans ?_⟩
    · rw [Blocks.slot_modSlot_same]
    · rw [Blocks.slot_modSlot_same]
    · rw [Blocks.slot_modSlot_same]; exact mark

theorem Blocks.heldSettled_enters {s : SlotId} (mark : (b.slot s).revertMark = false) (enters : (b.slot s).state ≠ .lost) :
    (b.heldSettled s reason).raised = b.raised ++ [.slotState s (b.slot s).state .lost (some reason)]
    ∧ (b.heldSettled s reason).ep = b.ep.modOpen Episode.countSlotLost := by
  have state : ((b.modSlot s (fun r => { r with lostReason := some reason, coverReason := none })).slot s).state
      = (b.slot s).state := Blocks.modSlot_keeps SlotRec.state b s s
  have raised := Blocks.changeState_raised (b := b.modSlot s _) (state.symm ▸ enters)
  rw [state, Blocks.changeState_lostReason, Blocks.slot_modSlot_same] at raised
  unfold Blocks.heldSettled
  rw [if_neg (by simp [mark]), if_neg enters]
  exact ⟨raised, by simp [Blocks.tally]⟩

theorem Blocks.heldSettled_stays {s : SlotId} (stays : ¬((b.slot s).revertMark = false ∧ (b.slot s).state ≠ .lost)) :
    (b.heldSettled s reason).raised = b.raised ∧ (b.heldSettled s reason).ep = b.ep := by
  unfold Blocks.heldSettled
  split
  · exact ⟨rfl, rfl⟩
  next mark =>
    rw [if_pos (not_not.mp fun lost => stays ⟨by simpa using mark, lost⟩)]
    exact ⟨rfl, rfl⟩

/-- R46, R115: the loss of a spare that holds a slot. -/
theorem Blocks.lose_spare {s : SlotId} (inService : (b.slot i).state ≠ .lost) (holds : (b.slot i).coveredSlot = some s)
    (apart : s ≠ i) : SpareLost b (b.lose i reason) i s reason := by
  have settled : b.lose i reason =
      ((((b.enterLost i reason).heldSettled s reason).endHold i).detachSlot i).dropLinks (fun l => l.endsOn i) := by
    rw [Blocks.lose_eq, Blocks.settleLoss, Blocks.enterLost_coveredSlot, holds]
    exact Blocks.spareLost_eq ..
  rw [settled]
  have held : (b.enterLost i reason).slot s = b.slot s := b.enterLost_other reason apart
  have spare : ∀ {f : SlotRec → SlotRec}, ((((b.enterLost i reason).heldSettled s reason).modSlot i f).slot i)
      = f ((b.enterLost i reason).slot i) := fun {f} => by
    rw [Blocks.slot_modSlot_same, Blocks.heldSettled_other apart.symm]
  have others : ∀ {f : SlotRec → SlotRec} {j}, j ≠ i → (((b.enterLost i reason).heldSettled s reason).modSlot i f).slot j
      = ((b.enterLost i reason).heldSettled s reason).slot j := fun h => Blocks.slot_modSlot_other _ _ _ _ h
  unfold SpareLost
  dsimp only
  simp only [Blocks.slot_dropLinks, Blocks.slot_detachSlot, Blocks.endHold, spare]
  refine ⟨b.enterLost_state i reason, b.enterLost_lostReason i reason, trivial, trivial, trivial, trivial,
    fun j hi hs => ?_, fun mark => ?_, fun mark => ?_, fun law => ?_⟩
  · rw [others hi, Blocks.heldSettled_other hs, b.enterLost_other reason hi]
  · rw [others apart, Blocks.heldSettled_reverting (held ▸ mark), held]
  · rw [others apart]
    exact Blocks.heldSettled_lost (held ▸ mark)
  · have store : ((((b.enterLost i reason).heldSettled s reason).modSlot i (fun r =>
        { r with coveredSlot := none, coverLoad := none, writeSet := [], clearWanted := false })).detachSlot i).store
        = (b.detachSlot i).store := by
      rw [← b.enterLost_detached i reason, Blocks.detachSlot_store, Blocks.detachSlot_store]
      exact congrArg (fun st : LinkStore => { st with links := st.links.map (Link.detachedFrom · i) })
        (Blocks.heldSettled_store ..)
    obtain ⟨raised, ep, links⟩ := Blocks.dropLinks_detached store law
    rw [Blocks.detachSlot_raised, (Blocks.modSlot_frame _ _ _).2.2.2.2.2.1] at raised
    rw [Blocks.detachSlot_ep, (Blocks.modSlot_frame _ _ _).2.2.2.2.1] at ep
    refine ⟨fun ⟨mark, enters⟩ => ?_, fun stays => ?_, links⟩
    · obtain ⟨told, counted⟩ := Blocks.heldSettled_enters (reason := reason) (held ▸ mark) (held ▸ enters)
      rw [told, Blocks.enterLost_raised inService, held, List.append_assoc, List.append_assoc] at raised
      rw [counted, Blocks.enterLost_ep] at ep
      exact ⟨raised, ep⟩
    · obtain ⟨told, counted⟩ := Blocks.heldSettled_stays (reason := reason) (held ▸ stays)
      rw [told, Blocks.enterLost_raised inService, List.append_assoc] at raised
      rw [counted, Blocks.enterLost_ep] at ep
      exact ⟨raised, ep⟩

end

end Sys2Proof.Machine
end

section
/-! CERTIFICATE. The end of a cover load, and the expiry of a return deadline (R46, R88 to R90, R112). -/

namespace Sys2Proof.Machine

/-! ### The end of a cover load (R112) -/

theorem runsOf_le {ports runs : Nat} : runsOf ports ≤ runs ↔ ports ≤ 8 * runs := by
  unfold runsOf
  omega

section
variable {b : Blocks} {i : SlotId}

/-- R112: the last run of the cover load has completed, its write set is empty and no write is outstanding. -/
def Blocks.LoadEnds (b : Blocks) (i : SlotId) (cl : CoverLoad) : Prop :=
  (b.slot i).state = .live ∧ (b.slot i).coverLoad = some cl ∧ cl.done = false ∧ (b.slot i).writeSet = []
    ∧ (∀ o, (b.slot i).order = some o → o.code ≠ .writePorts)
    ∧ ∃ s p, (b.slot i).coveredSlot = some s ∧ (b.slot s).plan = some p ∧ p.portCount ≤ 8 * cl.runs

/-- R112: the end of a cover load, where the slot held has its plan. -/
theorem Blocks.coverLoadEnds_iff {s : SlotId} {p : Plan} (held : (b.slot i).coveredSlot = some s)
    (plan : (b.slot s).plan = some p) : b.coverLoadEnds i = true ↔ ∃ cl, b.LoadEnds i cl := by
  have ports : b.sourcePorts i = p.portCount := by
    simp [Blocks.sourcePorts, Blocks.sourcePlan, Blocks.recordSource, held, plan]
  have unwritten : ((b.slot i).order.any fun o => o.code == .writePorts) = false ↔
      ∀ o, (b.slot i).order = some o → o.code ≠ .writePorts := by simp [Option.any_eq_false]
  unfold Blocks.coverLoadEnds Blocks.LoadEnds
  dsimp only
  rw [ports, held]
  simp only [Bool.and_eq_true, beq_iff_eq, Option.isSome_some, Bool.not_eq_true', unwritten, List.isEmpty_iff,
    Option.any_eq_true, decide_eq_true_eq, runsOf_le]
  constructor
  · rintro ⟨⟨⟨⟨live, -⟩, cl, load, undone, runs⟩, empty⟩, idle⟩
    exact ⟨cl, live, load, undone, empty, idle, s, p, rfl, plan, runs⟩
  · rintro ⟨cl, live, load, undone, empty, idle, s', p', hs, hp, runs⟩
    obtain rfl := Option.some.inj hs
    obtain rfl := Option.some.inj (plan.symm.trans hp)
    exact ⟨⟨⟨⟨live, trivial⟩, cl, load, undone, runs⟩, empty⟩, idle⟩

theorem Blocks.modSlot_of_record {f g : SlotRec → SlotRec} (h : f (b.slot i) = g (b.slot i)) :
    b.modSlot i f = b.modSlot i g := by
  have read : f b.reg.slots[i] = g b.reg.slots[i] := h
  rw [Blocks.modSlot, read, Blocks.modSlot]

theorem Blocks.finishCoverLoad_ends {cl : CoverLoad} (ends : b.LoadEnds i cl) :
    b.finishCoverLoad i = b.modSlot i (fun r => { r with coverLoad := some { cl with done := true } }) := by
  have ⟨_, load, _, _, _, s, p, held, plan, _⟩ := ends
  unfold Blocks.finishCoverLoad
  rw [if_pos ((Blocks.coverLoadEnds_iff held plan).mpr ⟨cl, ends⟩)]
  exact Blocks.modSlot_of_record (by simp [load])

theorem Blocks.finishCoverLoad_idle (planned : ∀ s, (b.slot i).coveredSlot = some s → (b.slot s).plan.isSome = true)
    (idle : ∀ cl, ¬b.LoadEnds i cl) : b.finishCoverLoad i = b := by
  refine if_neg fun ends => ?_
  cases held : (b.slot i).coveredSlot with
  | none => simp [Blocks.coverLoadEnds, held] at ends
  | some s =>
    obtain ⟨p, plan⟩ := Option.isSome_iff_exists.mp (planned s held)
    obtain ⟨cl, load⟩ := (Blocks.coverLoadEnds_iff held plan).mp ends
    exact idle cl load

end

/-! ### A slot that is out of service (R79, R88 to R90) -/

/-- What a slot record shows of a loss, and its return deadline. -/
def SlotRec.standing (r : SlotRec) : SlotState × Option LossReason × Option LossReason × Option Nat :=
  (r.state, r.lostReason, r.coverReason, r.deadline)

/-- The slot is lost for the reason, or covered, with no deadline running, its power as given, and not to be admitted. -/
structure Blocks.Down (b : Blocks) (i : SlotId) (reason : LossReason) (p : PowerRec) : Prop where
  lost : LostFor b i reason
  stopped : (b.slot i).deadline = none
  power : b.powerRec i = p
  out : i ∉ b.power.queue

theorem Blocks.admissible_mem {b : Blocks} {j : SlotId} (h : b.admissible = some j) : j ∈ b.power.queue := by
  unfold Blocks.admissible at h
  split at h
  · cases h
  next k _ hq =>
    split at h
    · cases h
    · split at h
      · cases h; rw [hq]; exact List.mem_cons_self ..
      · cases h

namespace Blocks.Down

variable {b : Blocks} {i : SlotId} {reason : LossReason} {p : PowerRec}

theorem keeps {c : Blocks} (h : b.Down i reason p) (slot : (c.slot i).standing = (b.slot i).standing)
    (power : c.power = b.power) : c.Down i reason p := by
  obtain ⟨lost, stopped, rec, out⟩ := h
  simp only [SlotRec.standing, Prod.mk.injEq] at slot
  obtain ⟨state, lostReason, coverReason, deadline⟩ := slot
  refine ⟨?_, deadline.trans stopped, (Blocks.powerRec_congr power i).trans rec, power ▸ out⟩
  unfold LostFor
  rw [state, lostReason, coverReason]
  exact lost

theorem same {c : Blocks} (h : b.Down i reason p) (reg : c.reg = b.reg) (power : c.power = b.power) : c.Down i reason p :=
  h.keeps (congrArg SlotRec.standing (Blocks.slot_congr reg i)) power

theorem ite {q : Prop} [Decidable q] {x y : Blocks} (hx : x.Down i reason p) (hy : y.Down i reason p) :
    (if q then x else y).Down i reason p := by
  split
  · exact hx
  · exact hy

theorem foldl {α : Type} {f : Blocks → α → Blocks} (hf : ∀ b x, b.Down i reason p → (f b x).Down i reason p) (xs : List α)
    (h : b.Down i reason p) : (xs.foldl f b).Down i reason p := by
  induction xs generalizing b with
  | nil => exact h
  | cons x xs ih => exact ih (hf b x h)

theorem modSlot (j : SlotId) {f : SlotRec → SlotRec} (h : b.Down i reason p)
    (hf : ∀ r, (f r).standing = r.standing := by intro _; rfl) : (b.modSlot j f).Down i reason p :=
  h.keeps (Blocks.modSlot_keeps SlotRec.standing b j i hf) rfl

theorem tally (f : Episode → Episode) (h : b.Down i reason p) : (b.tally f).Down i reason p := h.same rfl rfl

theorem setShelf (st : ShelfState) (h : b.Down i reason p) : (b.setShelf st).Down i reason p := h.same rfl rfl

theorem onBus (bus : CardBus) (h : b.Down i reason p) : Blocks.Down { b with bus } i reason p := h.same rfl rfl

theorem modPort (j : SlotId) (q : Fin 32) (f : PortRec → PortRec) (h : b.Down i reason p) :
    (b.modPort j q f).Down i reason p := h.keeps rfl rfl

theorem stopDeadline (j : SlotId) (h : b.Down i reason p) :
    (b.modSlot j (fun r => { r with deadline := none })).Down i reason p := by
  by_cases hj : i = j
  · subst hj
    obtain ⟨lost, -, power, out⟩ := h
    refine ⟨?_, by rw [Blocks.slot_modSlot_same], power, out⟩
    unfold LostFor
    rw [Blocks.slot_modSlot_same]
    exact lost
  · exact h.keeps (congrArg SlotRec.standing (Blocks.slot_modSlot_other _ _ _ _ hj)) rfl

/-- R88: no timer starts for the slot where one starts for another. -/
theorem startDeadline {j : SlotId} (hj : i ≠ j) (h : b.Down i reason p) : (b.startDeadline j).Down i reason p :=
  h.keeps (congrArg SlotRec.standing (Blocks.slot_modSlot_other _ _ _ _ hj)) rfl

theorem not_inService (h : b.Down i reason p) : (b.slot i).state.inService = false := by
  rcases h.lost with ⟨state, -⟩ | ⟨state, -⟩ <;> rw [state] <;> rfl

/-- R113: a COVERED slot whose spare leaves LIVE is LOST with its cover reason. -/
theorem spareLeftLive (j : SlotId) (h : b.Down i reason p) : (b.spareLeftLive j).Down i reason p := by
  unfold Blocks.spareLeftLive
  split
  · exact h
  next s _ =>
    split
    next covered =>
      by_cases hs : i = s
      · subst hs
        have why : (b.slot i).coverReason = some reason := by
          rcases h.lost with ⟨state, -⟩ | ⟨-, why⟩
          · rw [state] at covered; cases covered
          · exact why
        have apart : ((b.modSlot i (fun r => { r with lostReason := r.coverReason })).slot i).state ≠ .lost := by
          rw [Blocks.slot_modSlot_same]; simp [covered]
        refine ⟨.inl ⟨Blocks.changeState_state _ i .lost, ?_⟩, Blocks.changeState_deadline apart rfl,
          (Blocks.powerRec_congr (by simp) i).trans h.power, by simpa using h.out⟩
        rw [Blocks.slot_tally, Blocks.changeState_lostReason, Blocks.slot_modSlot_same, why]
      · refine h.keeps (congrArg SlotRec.standing ?_) (by simp)
        rw [Blocks.slot_tally, Blocks.changeState_other _ _ hs, Blocks.slot_modSlot_other _ _ _ _ hs]
    · exact h

/-- R83, R113: another slot enters a state that is not LIVE. -/
theorem enterState {j : SlotId} {st : SlotState} (hj : i ≠ j) (hst : st ≠ .live) (h : b.Down i reason p) :
    (b.enterState j st).Down i reason p := by
  have moved : (b.changeState j st).Down i reason p :=
    h.keeps (congrArg SlotRec.standing (Blocks.changeState_other _ _ hj)) (by simp)
  unfold Blocks.enterState
  dsimp only
  rw [if_neg hst]
  exact ite (moved.spareLeftLive j) moved

/-- R137: what the power sequencer does to another slot. -/
theorem modPower {j : SlotId} (f : PowerRec → PowerRec) (hj : i ≠ j) (h : b.Down i reason p) :
    (b.modPower j f).Down i reason p :=
  ⟨h.lost, h.stopped, (Blocks.powerRec_modPower_other _ _ _ _ hj).trans h.power, h.out⟩

theorem leaveAdmission (j : SlotId) (h : b.Down i reason p) : (b.leaveAdmission j).Down i reason p :=
  ⟨h.lost, h.stopped, h.power, fun hi => h.out (List.mem_of_mem_filter hi)⟩

theorem openSwitch {j : SlotId} (hj : i ≠ j) (h : b.Down i reason p) : (b.openSwitch j).Down i reason p := by
  have opened := h.modPower (fun r => { r with closed := false, charge := 0, ramp := none }) hj
  exact ite (opened.keeps (congrArg SlotRec.standing (Blocks.slot_modSlot_other _ _ _ _ hj)) rfl) h

theorem powerShed {j : SlotId} (hj : i ≠ j) (h : b.Down i reason p) : (b.powerShed j).Down i reason p :=
  ((h.openSwitch hj).leaveAdmission j).modPower _ hj

/-! ### What every event judges -/

theorem admitSlot {j : SlotId} (hj : i ≠ j) (h : b.Down i reason p) : (b.admitSlot j).Down i reason p := by
  unfold Blocks.admitSlot
  split
  · exact h
  · have closed := fun f => (h.leaveAdmission j).modPower f hj
    exact ite (((closed _).enterState hj (by decide)).startDeadline hj) (closed _)

/-- R139: the slot is in no place to be admitted. -/
theorem judgeAdmission (h : b.Down i reason p) : b.judgeAdmission.Down i reason p := by
  suffices loop : ∀ n (b : Blocks), b.Down i reason p → (Blocks.admitLoop n b).Down i reason p from loop 16 b h
  intro n
  induction n with
  | zero => exact fun _ h => h
  | succ n ih =>
    intro b h
    unfold Blocks.admitLoop
    split
    next j hj =>
      exact ih _ (h.admitSlot fun e => h.out (e ▸ Blocks.admissible_mem hj))
    · exact h

/-- R55, R143: the freeze sheds and holds what is in service or has power. -/
theorem freezeSlot (j : SlotId) (opened : p.closed = false) (h : b.Down i reason p) : (b.freezeSlot j).Down i reason p := by
  unfold Blocks.freezeSlot
  split
  · exact h
  · split
    · split
      next powered =>
        have hj : i ≠ j := by
          rintro rfl
          rcases powered with closed | queued
          · rw [h.power, opened] at closed; cases closed
          · exact h.out queued
        exact (h.powerShed hj).enterState hj (by decide)
      · exact h
    · split
      next serves =>
        have hj : i ≠ j := by rintro rfl; rw [h.not_inService] at serves; cases serves
        exact h.enterState hj (by decide)
      · exact h

/-- R62: recovery takes up the HELD and the RAMPING slots. -/
theorem recoverSlot (j : SlotId) (h : b.Down i reason p) : (b.recoverSlot j).Down i reason p := by
  have apart : ∀ {st : SlotState}, st = .held ∨ st = .ramping → (b.slot j).state = st → i ≠ j := by
    rintro st hst state rfl
    rcases h.lost with ⟨hi, -⟩ | ⟨hi, -⟩ <;> rw [hi] at state <;> rcases hst with rfl | rfl <;> cases state
  unfold Blocks.recoverSlot
  split
  next state => exact (h.enterState (apart (.inl rfl) state) (by decide)).startDeadline (apart (.inl rfl) state)
  next state => exact h.startDeadline (apart (.inr rfl) state)
  · exact h

theorem recover (h : b.Down i reason p) : b.recover.Down i reason p :=
  foldl (fun _ j h => h.recoverSlot j) _ ((h.onBus { b.bus with paused := false }).setShelf .recovering)

theorem freeze (opened : p.closed = false) (h : b.Down i reason p) : b.freeze.Down i reason p := by
  have orders : b.cutBus.endRegistryOrders.Down i reason p :=
    foldl (fun _ j h => h.modSlot j) _ (h.same (by simp) (by simp))
  have frozen : (allSlots.foldl Blocks.freezeSlot b.cutBus.endRegistryOrders.freezeLinks).Down i reason p :=
    foldl (fun _ j h => h.freezeSlot j opened) _ (orders.same (by simp) (by simp))
  have stopped : (allSlots.foldl Blocks.freezeSlot b.cutBus.endRegistryOrders.freezeLinks).stopDeadlines.Down i reason p :=
    foldl (fun _ j h => h.stopDeadline j) _ frozen
  unfold Blocks.freeze
  dsimp only
  split
  · exact ((stopped.tally _).setShelf .holdup).recover
  · exact (stopped.tally _).setShelf .holdup

theorem judgeEngine (t : Nat) (h : b.Down i reason p) : (b.judgeEngine t).Down i reason p := h.same (by simp) (by simp)

theorem judgeSettled (t : Nat) (opened : p.closed = false) (h : b.Down i reason p) : (b.judgeSettled t).Down i reason p :=
  ite ((h.freeze opened).judgeEngine t) h

theorem judgeClose (t : Nat) (h : b.Down i reason p) : (b.judgeClose t).Down i reason p := h.same (by simp) (by simp)

theorem finishCoverLoads (h : b.Down i reason p) : b.finishCoverLoads.Down i reason p :=
  foldl (fun _ j h => ite (h.modSlot j) h) _ h

/-- R83: the placement of an order. -/
theorem notePlacement (j : SlotId) (o : BusOrder) (h : b.Down i reason p) : (b.notePlacement j o).Down i reason p := by
  have placed := h.modSlot j (f := fun r => { r with order := some { code := o.code, abandoned := false } })
  have tests : ∀ {c : Blocks} (s : SlotId), c.Down i reason p → (c.resetHeldTests s).Down i reason p := fun s h =>
    foldl (fun _ q h => h.modPort s q _) _ h
  unfold Blocks.notePlacement
  dsimp only
  split
  · split
    · exact ite (tests _ (placed.modSlot j)) (placed.modSlot j)
    · exact placed.modSlot j
  · exact placed.modSlot j
  · exact placed.modSlot j
  · exact placed

theorem placeRegistry (h : b.Down i reason p) : b.placeRegistry.Down i reason p := by
  refine foldl (fun b j h => ?_) _ h
  unfold Blocks.placeWanted
  split
  · exact h
  next o _ => exact (h.onBus { b.bus with registryQueue := b.bus.registryQueue ++ [o] }).notePlacement j o

theorem placeBacklog (h : b.Down i reason p) : b.placeBacklog.Down i reason p := h.same (by simp) (by simp)

theorem grant (h : b.Down i reason p) : b.grant.Down i reason p := h.same (by simp) (by simp)

/-- R79, R89: what every event judges leaves a lost slot as it is, but for a covered one whose spare left LIVE. -/
theorem settle (t : Nat) (opened : p.closed = false) (h : b.Down i reason p) : (b.settle t).Down i reason p := by
  have engine := h.finishCoverLoads.judgeEngine t
  have stood : (Blocks.judgeEngine t b.finishCoverLoads).standDown.Down i reason p := engine.same (by simp) (by simp)
  have admitted := (stood.judgeSettled t opened).judgeAdmission
  exact (admitted.judgeClose t).placeRegistry.placeBacklog.grant

end Blocks.Down

/-! ### The deadline of a lost slot (R78) -/

section
variable {b : Blocks} {i : SlotId} {reason : LossReason}

/-- R78: a change of state starts no timer. -/
theorem Blocks.changeState_stopped (j : SlotId) (st : SlotState) (h : (b.slot i).deadline = none) :
    ((b.changeState j st).slot i).deadline = none := by
  unfold Blocks.changeState
  dsimp only
  split
  · exact h
  · rw [Blocks.slot_raise]
    have abandoned : ((b.abandonOrder j).slot i).deadline = none :=
      (Blocks.abandonOrder_keeps SlotRec.deadline (fun _ _ => rfl) b j i).trans h
    by_cases hj : i = j
    · subst hj
      rw [Blocks.slot_modSlot_same]
      exact ite_eq_right_iff.mpr fun _ => abandoned
    · rw [Blocks.slot_modSlot_other _ _ _ _ hj]
      exact abandoned

theorem Blocks.modSlot_stopped (j : SlotId) {f : SlotRec → SlotRec} (h : (b.slot i).deadline = none)
    (hf : ∀ r, (f r).deadline = r.deadline := by intro _; rfl) : ((b.modSlot j f).slot i).deadline = none :=
  (Blocks.modSlot_keeps SlotRec.deadline b j i hf).trans h

theorem Blocks.heldSettled_stopped (s : SlotId) (h : (b.slot i).deadline = none) :
    ((b.heldSettled s reason).slot i).deadline = none := by
  unfold Blocks.heldSettled
  split
  · exact Blocks.modSlot_stopped s h
  · split
    · exact Blocks.modSlot_stopped s h
    · exact Blocks.changeState_stopped s .lost (Blocks.modSlot_stopped s h)

theorem Blocks.retireHeld_stopped (s : SlotId) (h : (b.slot i).deadline = none) :
    ((b.retireHeld s).slot i).deadline = none := by
  have marked := Blocks.modSlot_stopped s h (f := fun r => { r with revertMark := false, coverReason := none })
  unfold Blocks.retireHeld
  dsimp only
  rw [Blocks.slot_dropLinks]
  split
  · split
    · exact Blocks.modSlot_stopped _ ((Blocks.abandonOrder_keeps SlotRec.deadline (fun _ _ => rfl) _ _ i).trans marked)
    · exact Blocks.modSlot_stopped _ marked
  · exact marked

theorem Blocks.revertingLost_stopped (s : SlotId) (h : (b.slot i).deadline = none) :
    ((b.revertingLost s reason).slot i).deadline = none := by
  have marked := Blocks.modSlot_stopped s h (f := fun r => { r with coverReason := some reason, revertMark := false })
  unfold Blocks.revertingLost
  split
  · exact Blocks.retireHeld_stopped s h
  · dsimp only
    split
    next t _ =>
      have cleared := Blocks.modSlot_stopped t marked (f := fun r => { r with clearWanted := false })
      split
      · exact Blocks.changeState_stopped (b := Blocks.endClearRevert _ t) s .covered cleared
      · exact cleared
    · exact marked

theorem Blocks.takeCover_stopped (t : SlotId) (h : (b.slot i).deadline = none) :
    ((b.takeCover i t reason).slot i).deadline = none := by
  have reg : (b.takeCover i t reason).reg = ((b.coveredFor i reason).modSlot t (fun r =>
      { r with coveredSlot := some i, coverLoad := some { runs := 0, done := false }, writeSet := [] })).reg := by
    rw [Blocks.takeCover_eq]; simp [Blocks.taken]
  rw [Blocks.slot_congr reg]
  exact Blocks.modSlot_stopped t (Blocks.changeState_stopped i .covered (Blocks.modSlot_stopped i h))

theorem Blocks.settleLoss_stopped (h : (b.slot i).deadline = none) :
    ((b.settleLoss i reason).slot i).deadline = none := by
  unfold Blocks.settleLoss
  split
  next s _ =>
    rw [Blocks.spareLost_eq, Blocks.slot_dropLinks, Blocks.slot_detachSlot]
    exact Blocks.modSlot_stopped i (Blocks.heldSettled_stopped s h)
  · split
    · exact Blocks.revertingLost_stopped i h
    · split
      next t _ => exact Blocks.takeCover_stopped t h
      · rw [Blocks.slot_dropLinks, Blocks.slot_detachSlot]
        exact h

/-- R79, R90: a slot that is lost is out of service, its power off. -/
theorem Blocks.lose_down (inService : (b.slot i).state ≠ .lost)
    (discharged : (b.powerRec i).closed = false → (b.powerRec i).charge = 0) : (b.lose i reason).Down i reason
      { closed := false, charge := 0, ramp := none, dark := none, trips := (b.powerRec i).trips } := by
  have power : (b.lose i reason).power = (b.enterLost i reason).power := (Blocks.settleLoss_frame _ i reason).1
  obtain ⟨rec, out⟩ := b.enterLost_power i reason
  have state : ((b.modSlot i (fun r => { r with lostReason := some reason, attention := false })).slot i).state ≠ .lost := by
    rw [Blocks.slot_modSlot_same]; exact inService
  have stopped : ((b.enterLost i reason).slot i).deadline = none :=
    (Blocks.powerOff_keeps SlotRec.deadline (fun _ _ => rfl) _ i i).trans (Blocks.changeState_deadline state rfl)
  refine ⟨b.lose_lostFor i reason, Blocks.settleLoss_stopped stopped, ?_, power ▸ out⟩
  rw [Blocks.powerRec_congr power, rec]
  split
  next => rfl
  next opened => rw [discharged (by simpa using opened)]

end

/-- R79, R89: a slot that an event takes out of service stays so to the end of the event. -/
theorem State.event_down (s : State) {f : Blocks → Blocks} {i : SlotId} {reason : LossReason} {p : PowerRec}
    (opened : p.closed = false) (h : (f s.blk).Down i reason p) : (s.event f).blk.Down i reason p := by
  obtain ⟨-, -, -, -, blk⟩ := s.event_frame f
  rw [blk]
  exact (h.settle s.time opened).same (Blocks.told_frame _).1 (Blocks.told_frame _).2.1

/-- Settles O43, from what a loss does in each case, the end of a cover load, and the standing of a lost slot, which what every
event judges keeps. -/
theorem returnDeadlineLosesTheSlot : Obligations.ReturnDeadlineLosesTheSlot := by
  unfold Obligations.ReturnDeadlineLosesTheSlot
  refine ⟨fun b i reason inService free steady =>
      ⟨fun t covers => Blocks.lose_covered inService free steady covers, Blocks.lose_uncovered inService free steady⟩,
    fun b i s reason inService holds apart => Blocks.lose_spare inService holds apart,
    fun b i => ⟨fun cl ends => Blocks.finishCoverLoad_ends ends, Blocks.finishCoverLoad_idle⟩,
    fun t b => rfl, fun s i awake => ?_⟩
  rw [exec, execReturnDeadlineExpiry, State.running_awake awake]
  refine ⟨fun stopped => by rw [if_neg stopped], fun runs timed discharged => ?_⟩
  rw [if_pos ⟨runs, timed⟩]
  have inService : (s.blk.slot i).state ≠ .lost := fun lost => by rw [lost] at timed; cases timed
  obtain ⟨feed, time, -, pending, -⟩ := s.event_frame (fun b => b.lose i .late)
  obtain ⟨lost, stopped, power, out⟩ := State.event_down s (f := fun b => b.lose i .late) rfl
    (Blocks.lose_down inService discharged)
  exact ⟨_, rfl, rfl, lost, stopped, power, out, feed, time, pending⟩

end Sys2Proof.Machine
end

section
/-! CERTIFICATE. DRILL, the record an episode opens, SETTLING, the reports of the supply and the close (R49 to R54, R60, R63,
R70, R71, R73). -/

namespace Sys2Proof.Machine

/-! ### The open record (R48, R60) -/

theorem EpisodeController.modOpen_open {ep : EpisodeController} {f : Episode → Episode} {e : Episode} {rest : List Episode}
    (h : ep.history = e :: rest) (opened : e.ended = none) : ep.modOpen f = { ep with history := f e :: rest } := by
  simp [EpisodeController.modOpen, h, opened]

theorem EpisodeController.modOpen_closed {ep : EpisodeController} {f : Episode → Episode}
    (h : ∀ e rest, ep.history = e :: rest → e.ended ≠ none) : ep.modOpen f = ep := by
  unfold EpisodeController.modOpen
  split
  next e rest he => exact if_neg (by simpa using h e rest he)
  · rfl

/-! ### DRILL (R50, R51) -/

theorem judgeRequest_drill (tag form : Byte) (s : State) :
    judgeRequest { kind := 0x07, tag, body := [form] } s = ownDrill [form] s := rfl

/-- R50: what DRILL asks of the shelf and of the supply. -/
def State.DrillAllowed (s : State) : Prop := s.blk.ep.shelf = .standby ∧ s.feed.armed = true ∧ s.feed.supply = .up

theorem ownDrill_badForm {form : Byte} (h : 1 < form.toNat) (s : State) : ownDrill [form] s = s.refuse .badArg := if_pos h

theorem ownDrill_goodForm {form : Byte} (h : form.toNat ≤ 1) (s : State) : ownDrill [form] s =
    if s.blk.ep.shelf ≠ .standby then s.refuse .state
    else if s.feed.armed = false ∨ s.feed.supply = .down then s.refuse .state
    else if form = 1 then (s.settled (Blocks.drillNow s.time s.feed.fmin)).accept false []
    else (s.settled (Blocks.drillSettled s.time s.feed.fmin)).accept false [] :=
  if_neg (Nat.not_lt.mpr h)

theorem ownDrill_refused {form : Byte} {s : State} (h : form.toNat ≤ 1) (refused : ¬s.DrillAllowed) :
    ownDrill [form] s = s.refuse .state := by
  rw [ownDrill_goodForm h]
  split
  · rfl
  next shelf =>
    refine if_pos (or_iff_not_imp_left.mpr fun armed => ?_)
    cases supply : s.feed.supply
    · rfl
    · exact absurd ⟨not_not.mp shelf, by simpa using armed, supply⟩ refused

theorem ownDrill_allowed {form : Byte} {s : State} (h : form.toNat ≤ 1) (allowed : s.DrillAllowed) : ownDrill [form] s =
    if form = 1 then (s.settled (Blocks.drillNow s.time s.feed.fmin)).accept false []
    else (s.settled (Blocks.drillSettled s.time s.feed.fmin)).accept false [] := by
  obtain ⟨shelf, armed, supply⟩ := allowed
  rw [ownDrill_goodForm h, if_neg (not_not.mpr shelf), if_neg (by simp [armed, supply])]

/-! ### Standing down in SETTLING (R51, R52) -/

/-- R51, R52: a link that is stood down, where its entry is of origin QUEUE. -/
def Blocks.StandsBack (b : Blocks) (id : Nat) (l : Link) : Prop :=
  l.state = .ready ∧ l.removal = false ∧ b.engine.queue.head? ≠ some id

/-- R51, R52: one link judged. -/
def Blocks.standOne (b : Blocks) (id : Nat) : Blocks :=
  if (b.link id).any (fun l => l.state == .ready && !l.removal) && b.engine.queue.head? != some id then
    (b.leaveInFlight id).setLinkState id .pending else b

/-- R51, R52: the links judged, in the order of their start. -/
def Blocks.fromQueue (b : Blocks) : List Nat := (b.engine.inFlight.filter (fun f => f.origin == .queue)).map InFlight.link

theorem Blocks.mem_fromQueue {b : Blocks} {id : Nat} :
    id ∈ b.fromQueue ↔ ∃ f ∈ b.engine.inFlight, f.link = id ∧ f.origin = .queue := by
  simp only [Blocks.fromQueue, List.mem_map, List.mem_filter, beq_iff_eq]
  exact ⟨fun ⟨f, ⟨hf, origin⟩, link⟩ => ⟨f, hf, link, origin⟩, fun ⟨f, hf, link, origin⟩ => ⟨f, ⟨hf, origin⟩, link⟩⟩

theorem Blocks.standDown_settling {b : Blocks} (h : b.ep.shelf = .settling) :
    b.standDown = b.fromQueue.foldl Blocks.standOne b := if_pos h

section
variable {b : Blocks} {id k : Nat} {l : Link}

theorem Blocks.standOne_back (hl : b.link id = some l) (back : b.StandsBack id l) :
    b.standOne id = (b.leaveInFlight id).setLinkState id .pending := by
  obtain ⟨ready, kept, behind⟩ := back
  exact if_pos (by simp [hl, ready, kept, behind])

theorem Blocks.standOne_idle (hl : b.link id = some l) (idle : ¬b.StandsBack id l) : b.standOne id = b := by
  refine if_neg fun h => idle ?_
  simpa [hl, Blocks.StandsBack, and_assoc] using h

/-- Standing down moves the links, the in-flight set, the backlog and the marks of the placed orders alone. -/
theorem Blocks.standOne_frame (b : Blocks) (id : Nat) : b.standOne id = { b with
    store := { b.store with links := (b.standOne id).store.links }
    engine := { b.engine with inFlight := (b.standOne id).engine.inFlight, backlog := (b.standOne id).engine.backlog }
    bus := { b.bus with relinkQueue := (b.standOne id).bus.relinkQueue } } := by
  unfold Blocks.standOne
  split <;> rfl

theorem Blocks.standOne_queue (b : Blocks) (id : Nat) : (b.standOne id).engine.queue = b.engine.queue := by
  rw [Blocks.standOne_frame]

theorem Blocks.standOne_other (hk : k ≠ id) :
    (b.standOne id).link k = b.link k ∧ (b.standOne id).entry k = b.entry k := by
  unfold Blocks.standOne
  split
  · exact ⟨Blocks.link_setLinkState_other (b := b.leaveInFlight id) .pending hk, Blocks.entry_leaveInFlight_other hk⟩
  · exact ⟨rfl, rfl⟩

theorem Blocks.Away.standOne (h : b.Away k) : (b.standOne id).Away k := by
  obtain ⟨entry, backlog⟩ := h
  unfold Blocks.standOne
  split
  · exact ⟨Blocks.entry_leaveInFlight_none entry, fun o ho => backlog o (Blocks.backlog_leaveInFlight ho).1⟩
  · exact ⟨entry, backlog⟩

end

theorem Blocks.stands_frame (ids : List Nat) (b : Blocks) :
    let c := ids.foldl Blocks.standOne b
    c = { b with
      store := { b.store with links := c.store.links }
      engine := { b.engine with inFlight := c.engine.inFlight, backlog := c.engine.backlog }
      bus := { b.bus with relinkQueue := c.bus.relinkQueue } } := by
  induction ids generalizing b with
  | nil => rfl
  | cons id ids ih =>
    dsimp only at ih ⊢
    rw [List.foldl_cons, ih (b.standOne id), Blocks.standOne_frame b id]

theorem Blocks.Away.stands {b : Blocks} {k : Nat} (h : b.Away k) (ids : List Nat) :
    (ids.foldl Blocks.standOne b).Away k := by
  induction ids generalizing b with
  | nil => exact h
  | cons id ids ih => exact ih h.standOne

theorem Blocks.stands_idle {ids : List Nat} {b : Blocks} {id : Nat} {l : Link} (hl : b.link id = some l)
    (idle : ¬b.StandsBack id l ∨ id ∉ ids) :
    (ids.foldl Blocks.standOne b).link id = some l ∧ (ids.foldl Blocks.standOne b).entry id = b.entry id := by
  induction ids generalizing b with
  | nil => exact ⟨hl, rfl⟩
  | cons x ids ih =>
    rw [List.foldl_cons]
    by_cases hx : id = x
    · subst hx
      have idle := idle.resolve_right (fun h => h (List.mem_cons_self ..))
      rw [Blocks.standOne_idle hl idle]
      exact ih hl (.inl idle)
    · obtain ⟨link, entry⟩ := Blocks.standOne_other (b := b) hx
      rw [← entry]
      refine ih (link.trans hl) (idle.imp (fun h => ?_) fun h hm => h (List.mem_cons_of_mem _ hm))
      rwa [Blocks.StandsBack, Blocks.standOne_queue]

theorem Blocks.stands_back {ids : List Nat} {b : Blocks} {id : Nat} {l : Link} (hl : b.link id = some l)
    (back : b.StandsBack id l) (hid : id ∈ ids) :
    (ids.foldl Blocks.standOne b).link id = some { l with state := .pending } ∧ (ids.foldl Blocks.standOne b).Away id := by
  induction ids generalizing b with
  | nil => cases hid
  | cons x ids ih =>
    rw [List.foldl_cons]
    by_cases hx : id = x
    · subst hx
      have stood := Blocks.standOne_back hl back
      have link : (b.standOne id).link id = some { l with state := .pending } := by
        rw [stood]
        exact Blocks.link_setLinkState_same (b := b.leaveInFlight id) .pending hl
      have away : (b.standOne id).Away id := stood ▸ b.away_leaveInFlight id
      refine ⟨(Blocks.stands_idle link (.inl fun h => ?_)).1, away.stands ids⟩
      cases h.1
    · obtain ⟨link, -⟩ := Blocks.standOne_other (b := b) hx
      refine ih (link.trans hl) ?_ ((List.mem_cons.mp hid).resolve_left hx)
      rwa [Blocks.StandsBack, Blocks.standOne_queue]

/-! ### The close (R70, R71) -/

theorem SlotState.holdsOpen_iff {st : SlotState} :
    st.holdsOpen = true ↔ st ∈ [SlotState.dark, .queued, .ramping, .held, .identifying, .loading] := by
  cases st <;> decide

theorem Blocks.closes_iff {b : Blocks} : b.closes = true ↔ b.ep.shelf = .recovering ∧ b.engine.queue = []
    ∧ ¬∃ i, (b.slot i).state ∈ [SlotState.dark, .queued, .ramping, .held, .identifying, .loading] := by
  simp only [Blocks.closes, ← SlotState.holdsOpen_iff, Bool.and_eq_true, beq_iff_eq, List.isEmpty_iff, List.all_eq_true,
    allSlots, List.mem_finRange, true_imp_iff, Bool.not_eq_true', not_exists, Bool.not_eq_true, and_assoc]

theorem Blocks.judgeClose_closes {b : Blocks} {e : Episode} {rest : List Episode} (t : Nat) (h : b.ep.history = e :: rest)
    (opened : e.ended = none) (closes : b.closes = true) : Blocks.judgeClose t b = { b with
      ep := { b.ep with
        shelf := .standby
        history := { e with ended := some t, deferredAtEnd := some b.engine.deferred.length } :: rest }
      raised := b.raised ++ [.episode .ended e.number e.cause e.redips] } := by
  have record : b.ep.openRecord = some e := by simp [EpisodeController.openRecord, h, opened]
  unfold Blocks.judgeClose Blocks.tally
  rw [if_pos closes, record, EpisodeController.modOpen_open h opened]
  rfl

/-! ### The obligation -/

/-- R49, R53, R63: what a report of the supply does in each shelf state. -/
theorem Blocks.supplyReport_cases (t : Nat) (fmin : Option Nat) (b : Blocks) :
    let told := fun (status : Supply) => { b with ep := { b.ep with supply := status } }
    let redip := fun (e : Episode) => { e with redips := min (e.redips + 1) 65535 }
    let down := Blocks.supplyReport t .down fmin b
    let up := Blocks.supplyReport t .up fmin b
    (b.ep.shelf = .standby → down = (Blocks.openEpisode t .feed fmin (told .down)).freeze)
    ∧ (b.ep.shelf = .settling → down = Blocks.freeze { told .down with
        ep := (told .down).ep.modOpen (fun e => { redip e with cause := .feed }) })
    ∧ (b.ep.shelf = .recovering → down = Blocks.freeze { told .down with ep := (told .down).ep.modOpen redip })
    ∧ (b.ep.shelf = .cold ∨ b.ep.shelf = .holdup → down = told .down)
    ∧ (b.ep.shelf = .holdup → up = (told .up).recover) ∧ (b.ep.shelf ≠ .holdup → up = told .up) := by
  intro told redip down up
  refine ⟨fun h => ?_, fun h => ?_, fun h => ?_, fun h => ?_, fun h => ?_, fun h => ?_⟩
  case refine_4 => rcases h with h | h <;> simp only [down, told, Blocks.supplyReport, h]
  case refine_6 =>
    simp only [up, told, Blocks.supplyReport]
    split
    next holdup => exact absurd holdup h
    all_goals rfl
  case refine_1 | refine_5 => simp only [down, up, told, Blocks.supplyReport, h]
  all_goals
    simp only [down, told, redip, Blocks.supplyReport, h]
    rfl

/-- Settles O16, from what the owner of DRILL answers, the links stood down one by one, and the conditions of the close. -/
theorem drillOpensAnEpisode : Obligations.DrillOpensAnEpisode := by
  unfold Obligations.DrillOpensAnEpisode
  refine ⟨fun s tag form ready => ⟨fun bad => ?_, fun good refused => ?_, fun one allowed => ?_, fun zero allowed => ?_⟩,
    fun t cause fmin b => rfl,
    fun ep f => ⟨fun e rest h opened => EpisodeController.modOpen_open h opened, EpisodeController.modOpen_closed⟩,
    fun t fmin b => Blocks.supplyReport_cases t fmin b,
    fun b => ⟨fun h => if_neg h, fun settling => ?_⟩,
    fun t b => ⟨fun settling empty => if_pos ⟨settling, empty⟩,
      fun h => if_neg fun ⟨settling, empty⟩ => h.elim (· settling) (· empty)⟩,
    fun t b => ⟨fun e rest h opened shelf queue quiet => ?_, fun h => if_neg fun closes => ?_⟩⟩
  · exact exec_answers ready rfl (by rw [judgeRequest_drill, ownDrill_badForm bad]; rfl)
  · exact exec_answers ready rfl (by rw [judgeRequest_drill, ownDrill_refused (s := s.holding _) good refused]; rfl)
  · subst one
    exact exec_carriedOut ready rfl (by
      rw [judgeRequest_drill, ownDrill_allowed (s := s.holding _) (by decide) allowed, if_pos rfl]
      rfl)
  · subst zero
    exact exec_carriedOut ready rfl (by
      rw [judgeRequest_drill, ownDrill_allowed (s := s.holding _) (by decide) allowed, if_neg (by decide)]
      rfl)
  · rw [Blocks.standDown_settling settling]
    refine ⟨Blocks.stands_frame b.fromQueue b, fun id l hl => ⟨fun ⟨ready, kept, behind, entry⟩ => ?_, fun idle => ?_⟩⟩
    · exact Blocks.stands_back hl ⟨ready, kept, behind⟩ (Blocks.mem_fromQueue.mpr entry)
    · refine Blocks.stands_idle hl (not_and_or.mp fun ⟨back, entry⟩ => idle ?_)
      obtain ⟨ready, kept, behind⟩ := back
      exact ⟨ready, kept, behind, Blocks.mem_fromQueue.mp entry⟩
  · exact Blocks.judgeClose_closes t h opened (Blocks.closes_iff.mpr ⟨shelf, queue, quiet⟩)
  · obtain ⟨shelf, queue, quiet⟩ := Blocks.closes_iff.mp closes
    rcases h with h | h | h
    · exact h shelf
    · exact h queue
    · exact quiet h

end Sys2Proof.Machine
end

section
/-! SUPPORT. A fold over the sixteen slots, and what a freeze makes of the links (R56, R57). -/

namespace Sys2Proof.Machine

/-! ### Folds over the slots -/

/-- A fold that takes each element once, by what holds of the elements taken so far. -/
theorem foldl_done {α β : Type} {f : β → α → β} {P : List α → β → Prop}
    (step : ∀ done b x, x ∉ done → P done b → P (done ++ [x]) (f b x)) {l : List α} (once : l.Nodup) {b : β}
    (start : P [] b) : P l (l.foldl f b) := by
  induction l using List.reverseRecOn with
  | nil => exact start
  | append_singleton l x ih =>
    obtain ⟨first, -, apart⟩ := List.nodup_append.mp once
    rw [List.foldl_append]
    exact step l _ x (fun h => apart x h x (List.mem_singleton_self x) rfl) (ih first)

theorem allSlots_nodup : allSlots.Nodup := List.nodup_finRange 16

theorem mem_allSlots (i : SlotId) : i ∈ allSlots := List.mem_finRange i

/-- One change made to every slot record. -/
theorem Blocks.slot_modSlots (f : SlotRec → SlotRec) (b : Blocks) (i : SlotId) :
    (allSlots.foldl (fun b j => b.modSlot j f) b).slot i = f (b.slot i) := by
  suffices h : (allSlots.foldl (fun b j => b.modSlot j f) b).slot i
      = if i ∈ allSlots then f (b.slot i) else b.slot i from h.trans (if_pos (mem_allSlots i))
  refine foldl_done (P := fun done (c : Blocks) => c.slot i = if i ∈ done then f (b.slot i) else b.slot i)
    (fun done c j fresh h => ?_) allSlots_nodup (by simp)
  by_cases hij : i = j
  · subst hij
    rw [Blocks.slot_modSlot_same, h, if_neg fresh, if_pos (by simp)]
  · rw [Blocks.slot_modSlot_other _ _ _ _ hij, h]
    simp [hij]

theorem Blocks.ports_modSlots (f : SlotRec → SlotRec) (b : Blocks) :
    (allSlots.foldl (fun b j => b.modSlot j f) b).reg.ports = b.reg.ports :=
  foldl_keeps (f := fun b j => b.modSlot j f) (fun b => b.reg.ports) (fun _ _ => rfl) allSlots b

/-! ### The links of a freeze (R56, R57) -/

theorem Blocks.freezeLinks_store (b : Blocks) : b.freezeLinks.store = b.thawed.store :=
  foldl_keeps Blocks.store (fun c id => by simp) _ _

theorem Blocks.freezeLinks_engine (b : Blocks) : b.freezeLinks.engine = { b.engine with
    queue := b.freezeLinks.engine.queue, deferred := [], inFlight := [], backlog := [], hold := none } :=
  Blocks.joinQueues_engine _ b.thawed

/-- R57: the restore queue of a freeze holds the links that are not RELEASING. -/
theorem Blocks.mem_freezeLinks_queue {b : Blocks} {id : Nat} : id ∈ b.freezeLinks.engine.queue ↔
    ∃ m ∈ b.freezeLinks.store.links, m.id = id ∧ m.state ≠ .releasing := by
  rw [Blocks.freezeLinks_store, Blocks.freezeLinks_eq, Blocks.mem_joinQueues]
  constructor
  · rintro (kept | ⟨joins, -⟩)
    · obtain ⟨m, hm, stays⟩ := (Option.any_eq_true _ _).mp (List.mem_filter.mp kept).2
      exact ⟨m, List.mem_of_find?_eq_some hm, Blocks.link_id hm, by simpa using stays⟩
    · obtain ⟨m, hm, rfl⟩ := List.mem_map.mp joins
      obtain ⟨hm, stays⟩ := List.mem_filter.mp hm
      exact ⟨m, hm, rfl, by simpa using stays⟩
  · rintro ⟨m, hm, rfl, stays⟩
    exact .inr ⟨List.mem_map.mpr ⟨m, List.mem_filter.mpr ⟨hm, by simpa using stays⟩, rfl⟩,
      Blocks.link_isSome.mpr ⟨m, hm, rfl⟩⟩

theorem Blocks.joinQueue_congr {b c : Blocks} (store : c.store = b.store) (engine : c.engine = b.engine) (id : Nat) :
    (c.joinQueue id).engine = (b.joinQueue id).engine := by
  have link : c.link id = b.link id := Blocks.link_congr store id
  unfold Blocks.joinQueue
  rw [engine, link, store]
  split
  · exact engine
  · split
    · rfl
    · exact engine

/-- What a freeze makes of the links and of the engine rests on these and on the plans alone. -/
theorem Blocks.freezeLinks_congr {b c : Blocks} (store : c.store = b.store) (engine : c.engine = b.engine)
    (keeps : ∀ i, c.isKeep i = b.isKeep i) :
    c.freezeLinks.store = b.freezeLinks.store ∧ c.freezeLinks.engine = b.freezeLinks.engine := by
  have joins : ∀ (ids : List Nat) {b c : Blocks}, c.store = b.store → c.engine = b.engine →
      (ids.foldl Blocks.joinQueue c).engine = (ids.foldl Blocks.joinQueue b).engine := by
    intro ids
    induction ids with
    | nil => exact fun _ engine => engine
    | cons id ids ih => exact fun store engine => ih (by simp [store]) (Blocks.joinQueue_congr store engine id)
  have state : c.frozenState = b.frozenState := by
    funext l
    rw [Blocks.frozenState, Blocks.keepsBoth, keeps, keeps]
    rfl
  have link : c.frozenLink = b.frozenLink := by
    funext l
    unfold Blocks.frozenLink
    rw [state]
  have links : (c.mapLinks c.frozenLink).store = (b.mapLinks b.frozenLink).store := by
    rw [link, Blocks.mapLinks, store, Blocks.mapLinks]
  have thawedStore : c.thawed.store = b.thawed.store := links
  have thawedEngine : c.thawed.engine = b.thawed.engine := by
    simp only [Blocks.thawed, Blocks.link_congr links, engine]
  refine ⟨?_, ?_⟩
  · rw [Blocks.freezeLinks_store, thawedStore, Blocks.freezeLinks_store]
  · rw [Blocks.freezeLinks_eq, Blocks.freezeLinks_eq, Blocks.linkIds, thawedStore]
    exact joins _ thawedStore thawedEngine

/-- R56: a freeze keeps a link's identity, cells, ends and attachments, and clears its late mark. -/
theorem Blocks.frozenLink_same (b : Blocks) (l : Link) : b.frozenLink l = { l with
    late := false, state := (b.frozenLink l).state, deferral := (b.frozenLink l).deferral } := by
  unfold Blocks.frozenLink
  split
  case h_2 | h_3 | h_4 | h_5 => split <;> rfl
  all_goals rfl

/-- R56: a link that is SUSPECT or PENDING after a freeze, by the shed policies of its two slots. -/
theorem Blocks.frozenLink_returns {b : Blocks} {l : Link}
    (h : l.state = .carried ∨ (l.state.flying = true ∧ l.removal = false)) : (b.frozenLink l).state = b.frozenState l := by
  unfold Blocks.frozenLink
  rcases h with h | ⟨flies, kept⟩
  · rw [h]
  · cases hs : l.state <;> simp_all [LinkState.flying]

theorem Blocks.frozenLink_releases {b : Blocks} {l : Link} (flies : l.state.flying = true) (removal : l.removal = true) :
    (b.frozenLink l).state = .releasing := by
  unfold Blocks.frozenLink
  cases hs : l.state <;> simp_all [LinkState.flying]

end Sys2Proof.Machine
end

section
/-! SUPPORT. What a freeze does with one slot (R55, R113, R143), read off each record: the slot's own state and power, and the
slot that a spare which leaves LIVE held. -/

namespace Sys2Proof.Machine

/-! ### Who is shed and who is held (R55) -/

/-- R55: the slot's plan gives SHED. -/
def Blocks.plansShed (b : Blocks) (i : SlotId) : Bool := (b.slot i).plan.any (fun p => p.policy == .shed)

/-- R137, R143: the freeze opens the slot's switch. -/
def Blocks.opensAt (b : Blocks) (i : SlotId) : Bool := b.plansShed i && (b.powerRec i).closed

/-- R55, R143: the freeze sheds the slot. -/
def Blocks.shedsAt (b : Blocks) (i : SlotId) : Bool :=
  b.plansShed i && ((b.powerRec i).closed || decide (i ∈ b.power.queue))

/-- R55: the freeze holds the slot. -/
def Blocks.holdsAt (b : Blocks) (i : SlotId) : Bool := b.isKeep i && (b.slot i).state.inService

/-- R113: the freeze takes the slot out of LIVE. -/
def Blocks.leavesLive (b : Blocks) (i : SlotId) : Bool := b.isLive i && (b.shedsAt i || b.holdsAt i)

theorem Blocks.shedsAt_iff {b : Blocks} {i : SlotId} : b.shedsAt i = true ↔ Sheds b i := by
  simp [Blocks.shedsAt, Blocks.plansShed, Sheds, Option.any_eq_true]

theorem Blocks.holdsAt_iff {b : Blocks} {i : SlotId} : b.holdsAt i = true ↔ Holds b i := by
  have serves : ∀ st : SlotState, st.inService = true ↔ st ∈ [SlotState.identifying, .loading, .live] := by
    intro st; cases st <;> decide
  simp only [Blocks.holdsAt, Blocks.isKeep, Holds, Bool.and_eq_true, Option.any_eq_true, beq_iff_eq, serves]

theorem Blocks.leavesLive_iff {b : Blocks} {i : SlotId} :
    b.leavesLive i = true ↔ (b.slot i).state = .live ∧ (Sheds b i ∨ Holds b i) := by
  simp only [Blocks.leavesLive, Bool.and_eq_true, Bool.or_eq_true, Blocks.isLive_iff, Blocks.shedsAt_iff, Blocks.holdsAt_iff]

theorem Blocks.holdsAt_shedsAt {b : Blocks} {i : SlotId} (h : b.holdsAt i = true) : b.shedsAt i = false := by
  obtain ⟨⟨p, plan, keep⟩, -⟩ := Blocks.holdsAt_iff.mp h
  simp [Blocks.shedsAt, Blocks.plansShed, plan, keep]

/-- R55, R143: what a freeze does with one slot, in its three cases. -/
theorem Blocks.freezeSlot_eq (b : Blocks) (i : SlotId) : b.freezeSlot i =
    if b.shedsAt i = true then (b.powerShed i).enterState i .dark
    else if b.holdsAt i = true then b.enterState i .held else b := by
  unfold Blocks.freezeSlot
  cases plan : (b.slot i).plan with
  | none => simp [Blocks.shedsAt, Blocks.plansShed, Blocks.holdsAt, Blocks.isKeep, plan]
  | some p =>
    cases policy : p.policy <;>
      simp [Blocks.shedsAt, Blocks.plansShed, Blocks.holdsAt, Blocks.isKeep, plan, policy]

/-! ### The registry without orders -/

/-- R55, R83: no slot has an order of the registry outstanding. -/
def Blocks.Orderless (b : Blocks) : Prop := ∀ i, (b.slot i).order = none

/-- R78, R79: a record once its slot has gone to a state, where it is not in it already. -/
def SlotRec.moved (r : SlotRec) (st : SlotState) : SlotRec := if r.state = st then r else r.enter st

/-- R113: the record of a COVERED slot whose spare has left LIVE. -/
def SlotRec.uncovered (r : SlotRec) : SlotRec := { r with lostReason := r.coverReason }.enter .lost

@[simp] theorem SlotRec.moved_state (r : SlotRec) (st : SlotState) : (r.moved st).state = st := by
  unfold SlotRec.moved
  split
  next h => exact h
  · rfl

/-- A reading of a record that a change of state does not touch. -/
theorem SlotRec.moved_keeps {α : Type} (g : SlotRec → α) (henter : ∀ r st, g (r.enter st) = g r) (r : SlotRec)
    (st : SlotState) : g (r.moved st) = g r := by
  unfold SlotRec.moved
  split
  · rfl
  · exact henter r st

/-- R113: whether the slot was lost before it is shed is not seen in the end. -/
theorem SlotRec.uncovered_dark {r : SlotRec} (covered : r.state = .covered) (writeSet : List (Fin 32)) :
    { r.uncovered with writeSet }.moved .dark = { r with writeSet }.moved .dark := by
  simp [SlotRec.moved, SlotRec.uncovered, SlotRec.enter, covered, SlotState.powered, SlotState.timed]

section
variable {b : Blocks} {i j : SlotId} {st : SlotState}

theorem Blocks.abandonOrder_none (h : (b.slot i).order = none) : b.abandonOrder i = b := by
  unfold Blocks.abandonOrder
  rw [h]

/-- R83: a slot without an order changes its state and tells of it, and nothing more. -/
theorem Blocks.changeState_orderless (h : (b.slot i).order = none) :
    ((b.changeState i st).slot i) = (b.slot i).moved st ∧ (b.changeState i st).bus = b.bus := by
  unfold Blocks.changeState SlotRec.moved
  dsimp only
  rw [Blocks.abandonOrder_none h]
  split
  · exact ⟨rfl, rfl⟩
  · exact ⟨by rw [Blocks.slot_raise, Blocks.slot_modSlot_same], rfl⟩

theorem Blocks.changeState_ports (b : Blocks) (i : SlotId) (st : SlotState) :
    (b.changeState i st).reg.ports = b.reg.ports := by
  unfold Blocks.changeState Blocks.abandonOrder
  dsimp only
  split
  · rfl
  · split
    · rfl
    · split <;> rfl

/-- R113: the spare leaves LIVE, and the COVERED slot it holds becomes LOST. -/
theorem Blocks.spareLeftLive_slot (idle : b.Orderless) (j : SlotId) : (b.spareLeftLive i).slot j =
    if (b.slot i).coveredSlot = some j ∧ (b.slot j).state = .covered then (b.slot j).uncovered else b.slot j := by
  unfold Blocks.spareLeftLive
  cases held : (b.slot i).coveredSlot with
  | none => simp
  | some s =>
    dsimp only
    by_cases covered : (b.slot s).state = .covered
    · rw [if_pos covered, Blocks.slot_tally]
      by_cases hj : j = s
      · subst hj
        have still : ((b.modSlot j (fun r => { r with lostReason := r.coverReason })).slot j).order = none := by
          rw [Blocks.slot_modSlot_same]; exact idle j
        rw [(Blocks.changeState_orderless still).1, Blocks.slot_modSlot_same, SlotRec.moved, if_neg (by simp [covered]),
          if_pos ⟨rfl, covered⟩, SlotRec.uncovered]
      · rw [Blocks.changeState_other _ _ hj, Blocks.slot_modSlot_other _ _ _ _ hj,
          if_neg fun h => hj (Option.some.inj h.1).symm]
    · rw [if_neg covered, if_neg]
      rintro ⟨same, hcov⟩
      exact covered (Option.some.inj same ▸ hcov)

theorem Blocks.spareLeftLive_bus (idle : b.Orderless) : (b.spareLeftLive i).bus = b.bus := by
  unfold Blocks.spareLeftLive
  split
  · rfl
  next s _ =>
    split
    · refine (Blocks.changeState_orderless (b := b.modSlot s _) ?_).2
      rw [Blocks.slot_modSlot_same]
      exact idle s
    · rfl

theorem Blocks.spareLeftLive_ports (b : Blocks) (i : SlotId) : (b.spareLeftLive i).reg.ports = b.reg.ports := by
  unfold Blocks.spareLeftLive
  split
  · rfl
  · split
    · exact Blocks.changeState_ports _ _ _
    · rfl

/-- R113: a slot that goes to a state other than LIVE, and the slot it held where it was LIVE. -/
theorem Blocks.enterState_away (hst : st ≠ .live) : b.enterState i st =
    if (b.slot i).state = .live then (b.changeState i st).spareLeftLive i else b.changeState i st := by
  unfold Blocks.enterState
  simp only [if_neg hst, and_iff_left hst]

theorem Blocks.Orderless.changeState (idle : b.Orderless) : (b.changeState i st).Orderless := by
  intro j
  by_cases hj : j = i
  · subst hj
    rw [(Blocks.changeState_orderless (idle j)).1, SlotRec.moved_keeps SlotRec.order (fun _ _ => rfl), idle j]
  · rw [Blocks.changeState_other _ _ hj, idle j]

theorem Blocks.enterState_own (idle : b.Orderless) (hst : st ≠ .live) (hcov : st ≠ .covered) :
    (b.enterState i st).slot i = (b.slot i).moved st := by
  have own := (Blocks.changeState_orderless (st := st) (idle i)).1
  rw [Blocks.enterState_away hst]
  split
  · rw [Blocks.spareLeftLive_slot idle.changeState, own, if_neg]
    rintro ⟨-, covered⟩
    exact hcov ((SlotRec.moved_state _ _).symm.trans covered)
  · exact own

theorem Blocks.enterState_other (idle : b.Orderless) (hst : st ≠ .live) (hj : j ≠ i) : (b.enterState i st).slot j =
    if (b.slot i).state = .live ∧ (b.slot i).coveredSlot = some j ∧ (b.slot j).state = .covered then (b.slot j).uncovered
    else b.slot j := by
  have other := b.changeState_other st hj
  have held : ((b.changeState i st).slot i).coveredSlot = (b.slot i).coveredSlot :=
    Blocks.changeState_keeps SlotRec.coveredSlot (fun _ _ => rfl) (fun _ _ => rfl) b i i st
  rw [Blocks.enterState_away hst]
  split
  next live => rw [Blocks.spareLeftLive_slot idle.changeState, held, other]; simp [live]
  next stays => rw [other, if_neg fun h => stays h.1]

theorem Blocks.enterState_bus (idle : b.Orderless) (hst : st ≠ .live) : (b.enterState i st).bus = b.bus := by
  have moved := (Blocks.changeState_orderless (st := st) (idle i)).2
  rw [Blocks.enterState_away hst]
  split
  · exact (Blocks.spareLeftLive_bus idle.changeState).trans moved
  · exact moved

theorem Blocks.enterState_ports (hst : st ≠ .live) : (b.enterState i st).reg.ports = b.reg.ports := by
  rw [Blocks.enterState_away hst]
  split
  · exact (Blocks.spareLeftLive_ports _ i).trans (b.changeState_ports i st)
  · exact b.changeState_ports i st

/-! ### What is counted and told -/

/-- R69: of the open record nothing moves but the count of slots lost. -/
def EpisodeController.Counts (ep ep' : EpisodeController) : Prop :=
  ∃ f : Nat → Nat, ep' = ep.modOpen (fun e => { e with slotsLost := f e.slotsLost })

theorem EpisodeController.Counts.refl (ep : EpisodeController) : ep.Counts ep := by
  refine ⟨id, ?_⟩
  unfold EpisodeController.modOpen
  split
  next h => split <;> simp [← h]
  · rfl

theorem EpisodeController.Counts.trans {ep ep' ep'' : EpisodeController} (h : ep.Counts ep') (h' : ep'.Counts ep'') :
    ep.Counts ep'' := by
  obtain ⟨f, rfl⟩ := h
  obtain ⟨g, rfl⟩ := h'
  exact ⟨fun n => g (f n), ep.modOpen_modOpen fun _ => rfl⟩

theorem Blocks.spareLeftLive_counts (b : Blocks) (i : SlotId) : b.ep.Counts (b.spareLeftLive i).ep := by
  unfold Blocks.spareLeftLive
  split
  · exact .refl _
  next s _ =>
    split
    · refine ⟨satAdd 65535, ?_⟩
      change ((b.modSlot s _).changeState s .lost).ep.modOpen Episode.countSlotLost = _
      rw [((b.modSlot s _).changeState_frame s .lost).2.2.2.1]
      rfl
    · exact .refl _

theorem Blocks.enterState_counts (hst : st ≠ .live) : b.ep.Counts (b.enterState i st).ep := by
  have moved : (b.changeState i st).ep = b.ep := (b.changeState_frame i st).2.2.2.1
  rw [Blocks.enterState_away hst]
  split
  · exact moved ▸ Blocks.spareLeftLive_counts _ i
  · rw [moved]; exact .refl _

theorem Blocks.changeState_tells {e : Event} (h : e ∈ b.raised) : e ∈ (b.changeState i st).raised := by
  by_cases same : (b.slot i).state = st
  · unfold Blocks.changeState
    rwa [if_pos same]
  · rw [Blocks.changeState_raised same]
    exact List.mem_append_left _ h

theorem Blocks.spareLeftLive_tells {e : Event} (h : e ∈ b.raised) : e ∈ (b.spareLeftLive i).raised := by
  unfold Blocks.spareLeftLive
  split
  · exact h
  next s _ =>
    split
    · exact Blocks.changeState_tells (b := b.modSlot s _) h
    · exact h

/-- R113: the notice of a slot whose spare has left LIVE. -/
theorem Blocks.spareLeftLive_notice (held : (b.slot i).coveredSlot = some j) (covered : (b.slot j).state = .covered) :
    .slotState j .covered .lost (b.slot j).coverReason ∈ (b.spareLeftLive i).raised := by
  have before : ((b.modSlot j (fun r => { r with lostReason := r.coverReason })).slot j).state = .covered := by
    rw [Blocks.slot_modSlot_same]; exact covered
  unfold Blocks.spareLeftLive
  rw [held]
  dsimp only
  rw [if_pos covered]
  change _ ∈ ((b.modSlot j _).changeState j .lost).raised
  rw [Blocks.changeState_raised (by rw [before]; decide), before, Blocks.changeState_lostReason, Blocks.slot_modSlot_same]
  exact List.mem_append_right _ (List.mem_singleton_self _)

theorem Blocks.enterState_tells {e : Event} (hst : st ≠ .live) (h : e ∈ b.raised) : e ∈ (b.enterState i st).raised := by
  rw [Blocks.enterState_away hst]
  split
  · exact Blocks.spareLeftLive_tells (Blocks.changeState_tells h)
  · exact Blocks.changeState_tells h

theorem Blocks.enterState_notice (hst : st ≠ .live) (lost : st ≠ .lost) (moves : (b.slot i).state ≠ st) :
    .slotState i (b.slot i).state st none ∈ (b.enterState i st).raised := by
  have told : .slotState i (b.slot i).state st none ∈ (b.changeState i st).raised := by
    rw [Blocks.changeState_raised moves, Blocks.changeState_unlost moves lost]
    exact List.mem_append_right _ (List.mem_singleton_self _)
  rw [Blocks.enterState_away hst]
  split
  · exact Blocks.spareLeftLive_tells told
  · exact told

theorem Blocks.enterState_notice_held (hst : st ≠ .live) (live : (b.slot i).state = .live) (hj : j ≠ i)
    (held : (b.slot i).coveredSlot = some j) (covered : (b.slot j).state = .covered) :
    .slotState j .covered .lost (b.slot j).coverReason ∈ (b.enterState i st).raised := by
  have other := b.changeState_other st hj
  rw [Blocks.enterState_away hst, if_pos live, ← other]
  refine Blocks.spareLeftLive_notice ?_ (other ▸ covered)
  exact (Blocks.changeState_keeps SlotRec.coveredSlot (fun _ _ => rfl) (fun _ _ => rfl) b i i st).trans held

/-! ### The shed request (R137) -/

theorem Blocks.openSwitch_opened (h : (b.powerRec i).closed = true) : b.openSwitch i =
    (b.modPower i (fun r => { r with closed := false, charge := 0, ramp := none })).switchOpened i := if_pos h

theorem Blocks.openSwitch_open (h : (b.powerRec i).closed = false) : b.openSwitch i = b := if_neg (by simp [h])

/-- R98, R137: an opened switch empties the write set of its slot. -/
theorem Blocks.powerShed_own (b : Blocks) (i : SlotId) : (b.powerShed i).slot i =
    { b.slot i with writeSet := if (b.powerRec i).closed then [] else (b.slot i).writeSet } := by
  change (b.openSwitch i).slot i = _
  cases closed : (b.powerRec i).closed
  · rw [Blocks.openSwitch_open closed]; rfl
  · rw [Blocks.openSwitch_opened closed]
    exact Blocks.slot_modSlot_same (((b.modPower i _).detachSlot i).markOpened i) i _

theorem Blocks.powerShed_other (hj : j ≠ i) : (b.powerShed i).slot j = b.slot j := by
  change (b.openSwitch i).slot j = _
  cases closed : (b.powerRec i).closed
  · rw [Blocks.openSwitch_open closed]
  · rw [Blocks.openSwitch_opened closed]
    exact Blocks.slot_modSlot_other (((b.modPower i _).detachSlot i).markOpened i) i j _ hj

/-- R137: the power record of a slot that was shed. -/
def PowerRec.shed (r : PowerRec) (darkTime : Nat) : PowerRec :=
  { r with closed := false, charge := if r.closed then 0 else r.charge, ramp := none, dark := some darkTime }

theorem Blocks.openSwitch_power (b : Blocks) (i : SlotId) :
    (b.openSwitch i).power = { b.power with recs := (b.openSwitch i).power.recs } := by
  unfold Blocks.openSwitch
  split <;> rfl

theorem Blocks.powerShed_power (b : Blocks) (i : SlotId) : (b.powerShed i).power = { b.power with
    recs := (b.powerShed i).power.recs, queue := b.power.queue.filter (fun j => j != i) } := by
  have opened := b.openSwitch_power i
  unfold Blocks.powerShed Blocks.leaveAdmission Blocks.setPowerQueue Blocks.modPower
  dsimp only
  rw [opened]

theorem Blocks.powerShed_rec_own (b : Blocks) (i : SlotId) :
    (b.powerShed i).powerRec i = (b.powerRec i).shed b.power.darkTime := by
  unfold Blocks.powerShed
  rw [Blocks.powerRec_modPower_same]
  change { (b.openSwitch i).powerRec i with ramp := none, dark := some b.power.darkTime } = _
  cases closed : (b.powerRec i).closed
  · rw [Blocks.openSwitch_open closed]; simp [PowerRec.shed, closed]
  · rw [Blocks.openSwitch_opened closed, Blocks.powerRec_congr (Blocks.switchOpened_frame _ _).1,
      Blocks.powerRec_modPower_same]
    simp [PowerRec.shed, closed]

theorem Blocks.powerShed_rec_other (hj : j ≠ i) : (b.powerShed i).powerRec j = b.powerRec j := by
  unfold Blocks.powerShed
  rw [Blocks.powerRec_modPower_other _ _ _ _ hj]
  change (b.openSwitch i).powerRec j = _
  cases closed : (b.powerRec i).closed
  · rw [Blocks.openSwitch_open closed]
  · rw [Blocks.openSwitch_opened closed, Blocks.powerRec_congr (Blocks.switchOpened_frame _ _).1,
      Blocks.powerRec_modPower_other _ _ _ _ hj]

/-- R44: the links once a slot was shed. -/
theorem Blocks.powerShed_store (b : Blocks) (i : SlotId) :
    (b.powerShed i).store = if (b.powerRec i).closed then (b.detachSlot i).store else b.store := by
  unfold Blocks.powerShed Blocks.openSwitch
  split <;> rfl

/-- With no order of the engine waiting or placed, a slot that is shed moves neither the bus nor the engine. -/
theorem Blocks.powerShed_unplaced (backlog : b.engine.backlog = []) (placed : b.bus.relinkQueue = []) :
    (b.powerShed i).bus = b.bus ∧ (b.powerShed i).engine = b.engine := by
  change (b.openSwitch i).bus = _ ∧ (b.openSwitch i).engine = _
  cases closed : (b.powerRec i).closed
  · rw [Blocks.openSwitch_open closed]; exact ⟨rfl, rfl⟩
  · rw [Blocks.openSwitch_opened closed]
    have bus : ∀ f, { b.bus with relinkQueue := b.bus.relinkQueue.map f } = b.bus := fun f => by
      rw [placed, List.map_nil, ← placed]
    have engine : ∀ keep, { b.engine with backlog := b.engine.backlog.filter keep } = b.engine := fun keep => by
      rw [backlog, List.filter_nil, ← backlog]
    exact ⟨bus _, engine _⟩

theorem Blocks.powerShed_ports (b : Blocks) (i : SlotId) : (b.powerShed i).reg.ports = b.reg.ports := by
  change (b.openSwitch i).reg.ports = _
  unfold Blocks.openSwitch
  split <;> rfl

theorem Blocks.Orderless.powerShed (idle : b.Orderless) : (b.powerShed i).Orderless := by
  intro j
  by_cases hj : j = i
  · subst hj
    rw [Blocks.powerShed_own]
    exact idle j
  · rw [Blocks.powerShed_other hj]
    exact idle j

end

end Sys2Proof.Machine
end

section
/-! SUPPORT. What a freeze does with one slot, part by part, and what it has done once it has taken some of the slots (R55, R113,
R137, R143). -/

namespace Sys2Proof.Machine

/-! ### One slot -/

/-- R44: a record with the ends on some slots detached. -/
def Link.detachedOn (l : Link) (p : SlotId → Bool) : Link :=
  { l with attA := l.attA && !p l.epA.slot, attB := l.attB && !p l.epB.slot }

theorem Link.detachedOn_detachedOn (l : Link) (p q : SlotId → Bool) :
    (l.detachedOn p).detachedOn q = l.detachedOn (fun i => p i || q i) := by
  simp [Link.detachedOn, Bool.and_assoc]

theorem Link.detachedOn_none (l : Link) : l.detachedOn (fun _ => false) = l := by simp [Link.detachedOn]

/-- R55: nothing of the registry or of the engine is waiting or placed, so the parts of a freeze that follow find no order. -/
structure Blocks.Still (b : Blocks) : Prop where
  orderless : b.Orderless
  backlog : b.engine.backlog = []
  placed : b.bus.relinkQueue = []

/-- R55: the record of a slot that the freeze has taken. -/
def Blocks.frozenRec (b : Blocks) (i : SlotId) : SlotRec :=
  if b.shedsAt i = true then
    { b.slot i with writeSet := if (b.powerRec i).closed then [] else (b.slot i).writeSet }.moved .dark
  else if b.holdsAt i = true then (b.slot i).moved .held else b.slot i

section
variable {b : Blocks} {i j : SlotId}

theorem Blocks.opensAt_shedsAt (h : b.opensAt i = true) : b.shedsAt i = true := by
  obtain ⟨shed, closed⟩ := (Bool.and_eq_true _ _).mp h
  simp [Blocks.shedsAt, shed, closed]

theorem Blocks.freezeSlot_shed (h : b.shedsAt i = true) : b.freezeSlot i = (b.powerShed i).enterState i .dark := by
  rw [Blocks.freezeSlot_eq, if_pos h]

theorem Blocks.freezeSlot_held (h : b.holdsAt i = true) : b.freezeSlot i = b.enterState i .held := by
  rw [Blocks.freezeSlot_eq, if_neg (by simp [Blocks.holdsAt_shedsAt h]), if_pos h]

/-- R55: the slot the freeze takes. -/
theorem Blocks.freezeSlot_own (still : b.Still) : (b.freezeSlot i).slot i = b.frozenRec i := by
  rw [Blocks.freezeSlot_eq]
  unfold Blocks.frozenRec
  split
  · rw [Blocks.enterState_own still.orderless.powerShed (by decide) (by decide), Blocks.powerShed_own]
  · split
    · rw [Blocks.enterState_own still.orderless (by decide) (by decide)]
    · rfl

/-- R113: another slot, where the spare that held it leaves LIVE. -/
theorem Blocks.freezeSlot_other (still : b.Still) (hj : j ≠ i) : (b.freezeSlot i).slot j =
    if b.leavesLive i = true ∧ (b.slot i).coveredSlot = some j ∧ (b.slot j).state = .covered then (b.slot j).uncovered
    else b.slot j := by
  rw [Blocks.freezeSlot_eq]
  split
  next sheds =>
    rw [Blocks.enterState_other still.orderless.powerShed (by decide) hj, Blocks.powerShed_own, Blocks.powerShed_other hj]
    simp only [Blocks.leavesLive, Bool.and_eq_true, Blocks.isLive_iff, sheds, Bool.true_or, and_true]
  next keeps =>
    split
    next holds =>
      rw [Blocks.enterState_other still.orderless (by decide) hj]
      simp only [Blocks.leavesLive, Bool.and_eq_true, Blocks.isLive_iff, holds, Bool.or_true, and_true]
    next stays => rw [if_neg]; simp [Blocks.leavesLive, keeps, stays]

/-- R137, R143: the power records. -/
theorem Blocks.freezeSlot_rec : (b.freezeSlot i).powerRec j =
    if j = i ∧ b.shedsAt i = true then (b.powerRec j).shed b.power.darkTime else b.powerRec j := by
  have entered : ∀ (c : Blocks) (st : SlotState), (c.enterState i st).powerRec j = c.powerRec j :=
    fun c st => Blocks.powerRec_congr (by simp) j
  rw [Blocks.freezeSlot_eq]
  split
  next sheds =>
    rw [entered]
    by_cases hj : j = i
    · rw [if_pos ⟨hj, sheds⟩, hj, Blocks.powerShed_rec_own]
    · rw [if_neg fun h => hj h.1, Blocks.powerShed_rec_other hj]
  next keeps =>
    rw [if_neg fun h : j = i ∧ b.shedsAt i = true => keeps h.2]
    split
    · rw [entered]
    · rfl

theorem Blocks.freezeSlot_power (b : Blocks) (i : SlotId) : (b.freezeSlot i).power = { b.power with
    recs := (b.freezeSlot i).power.recs, queue := b.power.queue.filter (fun j => !(j == i && b.shedsAt i)) } := by
  have entered : ∀ (c : Blocks) (st : SlotState), (c.enterState i st).power = c.power := fun c st => by simp
  rw [Blocks.freezeSlot_eq]
  split
  next sheds =>
    rw [entered, Blocks.powerShed_power]
    simp [sheds, bne]
  next keeps =>
    have same : (if b.holdsAt i = true then b.enterState i .held else b).power = b.power := by
      split
      · exact entered b .held
      · rfl
    rw [same]
    simp [keeps]

/-- R44: the links, with the ends on an opened slot detached. -/
theorem Blocks.freezeSlot_store (b : Blocks) (i : SlotId) : (b.freezeSlot i).store = { b.store with
    links := b.store.links.map (Link.detachedOn · (fun j => j == i && b.opensAt i)) } := by
  have entered : ∀ (c : Blocks) (st : SlotState), (c.enterState i st).store = c.store := fun c st => by simp
  have same : b.opensAt i = false →
      { b.store with links := b.store.links.map (Link.detachedOn · (fun j => j == i && b.opensAt i)) } = b.store := by
    intro shut
    simp only [shut, Bool.and_false, Link.detachedOn_none, List.map_id']
  rw [Blocks.freezeSlot_eq]
  split
  next sheds =>
    rw [entered, Blocks.powerShed_store]
    have shed : b.plansShed i = true := ((Bool.and_eq_true _ _).mp sheds).1
    split
    next closed =>
      have opens : b.opensAt i = true := by simp [Blocks.opensAt, shed, closed]
      simp only [opens, Bool.and_true]
      rfl
    next opened => rw [same (by simpa [Blocks.opensAt, shed] using opened)]
  next keeps =>
    rw [same (by rw [← Bool.not_eq_true]; exact fun h => keeps (Blocks.opensAt_shedsAt h))]
    split
    · exact entered b .held
    · rfl

theorem Blocks.freezeSlot_unplaced (still : b.Still) :
    (b.freezeSlot i).bus = b.bus ∧ (b.freezeSlot i).engine = b.engine := by
  obtain ⟨idle, backlog, placed⟩ := still
  obtain ⟨bus, engine⟩ := Blocks.powerShed_unplaced (i := i) backlog placed
  rw [Blocks.freezeSlot_eq]
  split
  · exact ⟨(Blocks.enterState_bus idle.powerShed (by decide)).trans bus, by simp [engine]⟩
  · split
    · exact ⟨Blocks.enterState_bus idle (by decide), by simp⟩
    · exact ⟨rfl, rfl⟩

theorem Blocks.freezeSlot_ports (b : Blocks) (i : SlotId) : (b.freezeSlot i).reg.ports = b.reg.ports := by
  rw [Blocks.freezeSlot_eq]
  split
  · exact (Blocks.enterState_ports (by decide)).trans (b.powerShed_ports i)
  · split
    · exact Blocks.enterState_ports (by decide)
    · rfl

theorem Blocks.freezeSlot_counts (b : Blocks) (i : SlotId) : b.ep.Counts (b.freezeSlot i).ep := by
  rw [Blocks.freezeSlot_eq]
  split
  · exact (b.powerShed_frame i).1 ▸ Blocks.enterState_counts (b := b.powerShed i) (by decide)
  · split
    · exact Blocks.enterState_counts (by decide)
    · exact .refl _

theorem Blocks.freezeSlot_tells {e : Event} (h : e ∈ b.raised) : e ∈ (b.freezeSlot i).raised := by
  rw [Blocks.freezeSlot_eq]
  split
  · exact Blocks.enterState_tells (b := b.powerShed i) (by decide) ((b.powerShed_frame i).2.1.symm ▸ h)
  · split
    · exact Blocks.enterState_tells (by decide) h
    · exact h

theorem Blocks.freezeSlot_dark (sheds : b.shedsAt i = true) (moves : (b.slot i).state ≠ .dark) :
    .slotState i (b.slot i).state .dark none ∈ (b.freezeSlot i).raised := by
  have before : ((b.powerShed i).slot i).state = (b.slot i).state := by rw [Blocks.powerShed_own]
  rw [Blocks.freezeSlot_shed sheds, ← before]
  exact Blocks.enterState_notice (by decide) (by decide) (before ▸ moves)

theorem Blocks.freezeSlot_told_held (holds : b.holdsAt i = true) :
    .slotState i (b.slot i).state .held none ∈ (b.freezeSlot i).raised := by
  rw [Blocks.freezeSlot_held holds]
  refine Blocks.enterState_notice (by decide) (by decide) fun held => ?_
  have serves := ((Bool.and_eq_true _ _).mp holds).2
  rw [held] at serves
  cases serves

/-- R113: the notice of the slot that a spare held. -/
theorem Blocks.freezeSlot_told_lost (leaves : b.leavesLive i = true) (hj : j ≠ i) (held : (b.slot i).coveredSlot = some j)
    (covered : (b.slot j).state = .covered) :
    .slotState j .covered .lost (b.slot j).coverReason ∈ (b.freezeSlot i).raised := by
  obtain ⟨live, taken⟩ := (Bool.and_eq_true _ _).mp leaves
  rw [Blocks.isLive_iff] at live
  rcases (Bool.or_eq_true _ _).mp taken with sheds | holds
  · have other := Blocks.powerShed_other (b := b) hj
    rw [Blocks.freezeSlot_shed sheds, ← other]
    exact Blocks.enterState_notice_held (by decide) (by rw [Blocks.powerShed_own]; exact live) hj
      (by rw [Blocks.powerShed_own]; exact held) (other ▸ covered)
  · rw [Blocks.freezeSlot_held holds]
    exact Blocks.enterState_notice_held (by decide) live hj held covered

end

/-! ### The slots taken so far -/

/-- R55, R113: a slot record once the freeze has taken some of the slots. -/
def Blocks.frozenIn (b : Blocks) (done : List SlotId) (i : SlotId) : SlotRec :=
  if i ∈ done ∧ (b.shedsAt i || b.holdsAt i) = true then b.frozenRec i
  else if (b.slot i).state = .covered ∧ ∃ t ∈ done, b.leavesLive t = true ∧ (b.slot t).coveredSlot = some i then
    (b.slot i).uncovered
  else b.slot i

/-- R54, R55, R113, R137, R143: where the blocks stand once the freeze has taken some of the slots. -/
structure Blocks.FrozenTo (b : Blocks) (done : List SlotId) (c : Blocks) : Prop where
  slot : ∀ i, c.slot i = b.frozenIn done i
  record : ∀ i, c.powerRec i =
    if i ∈ done ∧ b.shedsAt i = true then (b.powerRec i).shed b.power.darkTime else b.powerRec i
  power : c.power = { b.power with
    recs := c.power.recs, queue := b.power.queue.filter (fun i => !(decide (i ∈ done) && b.plansShed i)) }
  store : c.store = { b.store with
    links := b.store.links.map (Link.detachedOn · (fun i => decide (i ∈ done) && b.opensAt i)) }
  bus : c.bus = b.bus
  engine : c.engine = b.engine
  ports : c.reg.ports = b.reg.ports
  counts : b.ep.Counts c.ep
  dark : ∀ i ∈ done, b.shedsAt i = true → (b.slot i).state ≠ .dark → (b.slot i).state ≠ .covered →
    .slotState i (b.slot i).state .dark none ∈ c.raised
  held : ∀ i ∈ done, b.holdsAt i = true → .slotState i (b.slot i).state .held none ∈ c.raised
  lost : ∀ t ∈ done, b.leavesLive t = true → ∀ i, (b.slot t).coveredSlot = some i → (b.slot i).state = .covered →
    b.shedsAt i = false → .slotState i .covered .lost (b.slot i).coverReason ∈ c.raised

section
variable {b : Blocks} {done : List SlotId} {i j : SlotId}

/-- A reading of a slot record that a freeze does not touch. -/
theorem Blocks.frozenRec_keeps {α : Type} (g : SlotRec → α) (henter : ∀ r st, g (r.enter st) = g r)
    (hwrite : ∀ r w, g { r with writeSet := w } = g r) (b : Blocks) (i : SlotId) : g (b.frozenRec i) = g (b.slot i) := by
  unfold Blocks.frozenRec
  split
  · rw [SlotRec.moved_keeps g henter, hwrite]
  · split
    · exact SlotRec.moved_keeps g henter _ _
    · rfl

theorem Blocks.frozenIn_keeps {α : Type} (g : SlotRec → α) (henter : ∀ r st, g (r.enter st) = g r)
    (hwrite : ∀ r w, g { r with writeSet := w } = g r) (hlost : ∀ r why, g { r with lostReason := why } = g r)
    (b : Blocks) (done : List SlotId) (i : SlotId) : g (b.frozenIn done i) = g (b.slot i) := by
  unfold Blocks.frozenIn
  split
  · exact Blocks.frozenRec_keeps g henter hwrite b i
  · split
    · rw [SlotRec.uncovered, henter, hlost]
    · rfl

theorem Blocks.frozenIn_fresh (fresh : i ∉ done) : b.frozenIn done i = b.slot i
    ∨ ((b.slot i).state = .covered ∧ b.frozenIn done i = (b.slot i).uncovered) := by
  unfold Blocks.frozenIn
  rw [if_neg fun h => fresh h.1]
  split
  next h => exact .inr ⟨h.1, rfl⟩
  · exact .inl rfl

theorem Blocks.frozenTo_nil (b : Blocks) : b.FrozenTo [] b where
  slot i := by simp [Blocks.frozenIn]
  record i := by simp
  power := by simp
  store := by simp [Link.detachedOn_none]
  bus := rfl
  engine := rfl
  ports := rfl
  counts := .refl _
  dark := by simp
  held := by simp
  lost := by simp

namespace Blocks.FrozenTo

variable {c : Blocks}

theorem still (still : b.Still) (h : b.FrozenTo done c) : c.Still where
  orderless i := by
    rw [h.slot, Blocks.frozenIn_keeps SlotRec.order (fun _ _ => rfl) (fun _ _ => rfl) (fun _ _ => rfl)]
    exact still.orderless i
  backlog := h.engine ▸ still.backlog
  placed := h.bus ▸ still.placed

theorem plansShed (h : b.FrozenTo done c) (i : SlotId) : c.plansShed i = b.plansShed i := by
  rw [Blocks.plansShed, h.slot, Blocks.frozenIn_keeps SlotRec.plan (fun _ _ => rfl) (fun _ _ => rfl) (fun _ _ => rfl)]
  rfl

theorem isKeep (h : b.FrozenTo done c) (i : SlotId) : c.isKeep i = b.isKeep i := by
  rw [Blocks.isKeep, h.slot, Blocks.frozenIn_keeps SlotRec.plan (fun _ _ => rfl) (fun _ _ => rfl) (fun _ _ => rfl)]
  rfl

theorem coveredSlot (h : b.FrozenTo done c) (i : SlotId) : (c.slot i).coveredSlot = (b.slot i).coveredSlot := by
  rw [h.slot, Blocks.frozenIn_keeps SlotRec.coveredSlot (fun _ _ => rfl) (fun _ _ => rfl) (fun _ _ => rfl)]

/-- A slot not yet taken is as it was, or a COVERED one whose spare has left LIVE. -/
theorem fresh_slot (h : b.FrozenTo done c) (fresh : i ∉ done) :
    c.slot i = b.slot i ∨ ((b.slot i).state = .covered ∧ c.slot i = (b.slot i).uncovered) :=
  h.slot i ▸ Blocks.frozenIn_fresh fresh

theorem fresh_record (h : b.FrozenTo done c) (fresh : i ∉ done) : c.powerRec i = b.powerRec i :=
  (h.record i).trans (if_neg fun taken => fresh taken.1)

/-- What the freeze judges of a slot not yet taken it judges as at its beginning. -/
theorem fresh_opensAt (h : b.FrozenTo done c) (fresh : i ∉ done) : c.opensAt i = b.opensAt i := by
  rw [Blocks.opensAt, h.plansShed, h.fresh_record fresh, Blocks.opensAt]

theorem fresh_shedsAt (h : b.FrozenTo done c) (fresh : i ∉ done) : c.shedsAt i = b.shedsAt i := by
  have queued : i ∈ c.power.queue ↔ i ∈ b.power.queue := by rw [h.power]; simp [fresh]
  simp only [Blocks.shedsAt, h.plansShed, h.fresh_record fresh, queued]

theorem fresh_holdsAt (h : b.FrozenTo done c) (fresh : i ∉ done) : c.holdsAt i = b.holdsAt i := by
  rw [Blocks.holdsAt, h.isKeep, Blocks.holdsAt]
  rcases h.fresh_slot fresh with same | ⟨covered, lost⟩
  · rw [same]
  · rw [lost, covered]; rfl

theorem fresh_leavesLive (h : b.FrozenTo done c) (fresh : i ∉ done) : c.leavesLive i = b.leavesLive i := by
  rw [Blocks.leavesLive, h.fresh_shedsAt fresh, h.fresh_holdsAt fresh, Blocks.leavesLive, Blocks.isLive, Blocks.isLive]
  rcases h.fresh_slot fresh with same | ⟨covered, lost⟩
  · rw [same]
  · rw [lost, covered]; rfl

/-- R113: a slot that the freeze takes ends as if no spare had left it before. -/
theorem fresh_frozenRec (h : b.FrozenTo done c) (fresh : i ∉ done) (taken : (b.shedsAt i || b.holdsAt i) = true) :
    c.frozenRec i = b.frozenRec i := by
  unfold Blocks.frozenRec
  rw [h.fresh_shedsAt fresh, h.fresh_holdsAt fresh, h.fresh_record fresh]
  rcases h.fresh_slot fresh with same | ⟨covered, lost⟩
  · rw [same]
  · have idle : b.holdsAt i = false := by rw [Blocks.holdsAt, covered]; simp [SlotState.inService]
    have shed : b.shedsAt i = true := by simpa [idle] using taken
    rw [if_pos shed, if_pos shed, lost]
    exact SlotRec.uncovered_dark covered _

/-- R55: the next slot is taken. -/
theorem step_own (still : b.Still) (h : b.FrozenTo done c) (fresh : i ∉ done) :
    (c.freezeSlot i).slot i = b.frozenIn (done ++ [i]) i := by
  rw [Blocks.freezeSlot_own (h.still still)]
  by_cases taken : (b.shedsAt i || b.holdsAt i) = true
  · exact (h.fresh_frozenRec fresh taken).trans (if_pos ⟨by simp, taken⟩).symm
  · obtain ⟨spared, idle⟩ := Bool.or_eq_false_iff.mp (Bool.not_eq_true _ ▸ taken)
    have stays : b.leavesLive i = false := by simp [Blocks.leavesLive, spared, idle]
    have same : c.frozenRec i = c.slot i := by
      simp [Blocks.frozenRec, h.fresh_shedsAt fresh, h.fresh_holdsAt fresh, spared, idle]
    rw [same, h.slot, Blocks.frozenIn, Blocks.frozenIn]
    simp [spared, idle, stays, or_and_right, exists_or]

/-- R113: the next slot is taken, and the slot it held is settled. -/
theorem step_other (still : b.Still) (h : b.FrozenTo done c) (fresh : j ∉ done) (hi : i ≠ j) :
    (c.freezeSlot j).slot i = b.frozenIn (done ++ [j]) i := by
  rw [Blocks.freezeSlot_other (h.still still) hi, h.fresh_leavesLive fresh, h.coveredSlot, h.slot]
  unfold Blocks.frozenIn
  simp only [List.mem_append, List.mem_singleton, hi, or_false, or_and_right, exists_or, exists_eq_left]
  by_cases taken : i ∈ done ∧ (b.shedsAt i || b.holdsAt i) = true
  · have away : (b.frozenRec i).state ≠ .covered := by
      unfold Blocks.frozenRec
      split
      · rw [SlotRec.moved_state]; decide
      next keeps =>
        rw [if_pos (by simpa [keeps] using taken.2), SlotRec.moved_state]
        decide
    simp only [if_pos taken, away, and_false, if_false]
  · by_cases covered : (b.slot i).state = .covered
    · by_cases gone : ∃ t ∈ done, b.leavesLive t = true ∧ (b.slot t).coveredSlot = some i
      · have lost : ¬(b.slot i).uncovered.state = .covered := by change ¬SlotState.lost = _; decide
        simp only [if_neg taken, covered, gone, lost, true_or, true_and, and_false, if_true, if_false]
      · simp only [if_neg taken, covered, gone, false_or, true_and, and_true, if_false]
    · simp only [if_neg taken, covered, false_and, and_false, if_false]

theorem step_slot (still : b.Still) (h : b.FrozenTo done c) (fresh : j ∉ done) (i : SlotId) :
    (c.freezeSlot j).slot i = b.frozenIn (done ++ [j]) i := by
  by_cases hi : i = j
  · subst hi
    exact h.step_own still fresh
  · exact h.step_other still fresh hi

theorem step_record (h : b.FrozenTo done c) (fresh : j ∉ done) (i : SlotId) : (c.freezeSlot j).powerRec i =
    if i ∈ done ++ [j] ∧ b.shedsAt i = true then (b.powerRec i).shed b.power.darkTime else b.powerRec i := by
  have darkTime : c.power.darkTime = b.power.darkTime := by rw [h.power]
  rw [Blocks.freezeSlot_rec, h.fresh_shedsAt fresh, darkTime]
  by_cases hi : i = j
  · subst hi
    rw [h.fresh_record fresh]
    simp
  · rw [if_neg fun x => hi x.1, h.record]
    simp [hi]

/-- R143: a slot whose plan gives SHED leaves the admission queue, if it stands there. -/
theorem step_power (h : b.FrozenTo done c) (fresh : j ∉ done) : (c.freezeSlot j).power = { b.power with
    recs := (c.freezeSlot j).power.recs
    queue := b.power.queue.filter (fun i => !(decide (i ∈ done ++ [j]) && b.plansShed i)) } := by
  have queue : (b.power.queue.filter (fun i => !(decide (i ∈ done) && b.plansShed i))).filter
      (fun i => !(i == j && b.shedsAt j)) = b.power.queue.filter (fun i => !(decide (i ∈ done ++ [j]) && b.plansShed i)) := by
    rw [List.filter_filter]
    refine List.filter_congr fun i queued => ?_
    by_cases hi : i = j
    · subst hi
      simp [fresh, Blocks.shedsAt, queued]
    · simp [hi]
  rw [Blocks.freezeSlot_power, h.fresh_shedsAt fresh, ← queue]
  have power := h.power
  rw [power]

theorem step_store (h : b.FrozenTo done c) (fresh : j ∉ done) : (c.freezeSlot j).store = { b.store with
    links := b.store.links.map (Link.detachedOn · (fun i => decide (i ∈ done ++ [j]) && b.opensAt i)) } := by
  have marks : ∀ i, (decide (i ∈ done) && b.opensAt i || i == j && b.opensAt j)
      = (decide (i ∈ done ++ [j]) && b.opensAt i) := by
    intro i
    by_cases hi : i = j
    · subst hi; simp [fresh]
    · simp [hi]
  rw [Blocks.freezeSlot_store, h.fresh_opensAt fresh, h.store]
  simp only [List.map_map, Function.comp_def, Link.detachedOn_detachedOn, marks]

/-- R54, R55: one slot more. -/
theorem step (still : b.Still) (h : b.FrozenTo done c) (fresh : j ∉ done) : b.FrozenTo (done ++ [j]) (c.freezeSlot j) where
  slot := h.step_slot still fresh
  record := h.step_record fresh
  power := h.step_power fresh
  store := h.step_store fresh
  bus := (Blocks.freezeSlot_unplaced (h.still still)).1.trans h.bus
  engine := (Blocks.freezeSlot_unplaced (h.still still)).2.trans h.engine
  ports := (c.freezeSlot_ports j).trans h.ports
  counts := h.counts.trans (c.freezeSlot_counts j)
  dark i hi sheds moves uncovered := by
    rcases List.mem_append.mp hi with hi | hi
    · exact Blocks.freezeSlot_tells (h.dark i hi sheds moves uncovered)
    · obtain rfl := List.mem_singleton.mp hi
      have same := (h.fresh_slot fresh).resolve_right fun lost => uncovered lost.1
      exact same ▸ Blocks.freezeSlot_dark ((h.fresh_shedsAt fresh).trans sheds) (same ▸ moves)
  held i hi holds := by
    rcases List.mem_append.mp hi with hi | hi
    · exact Blocks.freezeSlot_tells (h.held i hi holds)
    · obtain rfl := List.mem_singleton.mp hi
      have same : c.slot i = b.slot i := (h.fresh_slot fresh).resolve_right fun ⟨covered, _⟩ => by
        rw [Blocks.holdsAt, covered] at holds
        simp [SlotState.inService] at holds
      exact same ▸ Blocks.freezeSlot_told_held ((h.fresh_holdsAt fresh).trans holds)
  lost t ht leaves i held covered spared := by
    rcases List.mem_append.mp ht with ht | ht
    · exact Blocks.freezeSlot_tells (h.lost t ht leaves i held covered spared)
    · obtain rfl := List.mem_singleton.mp ht
      by_cases gone : ∃ u ∈ done, b.leavesLive u = true ∧ (b.slot u).coveredSlot = some i
      · obtain ⟨u, hu, left, holds⟩ := gone
        exact Blocks.freezeSlot_tells (h.lost u hu left i holds covered spared)
      · have idle : b.holdsAt i = false := by rw [Blocks.holdsAt, covered]; simp [SlotState.inService]
        have same : c.slot i = b.slot i := by rw [h.slot, Blocks.frozenIn]; simp [spared, idle, gone]
        have apart : i ≠ t := by
          rintro rfl
          simp [Blocks.leavesLive, Blocks.isLive, covered] at leaves
        rw [← same]
        exact Blocks.freezeSlot_told_lost ((h.fresh_leavesLive fresh).trans leaves) apart
          ((h.coveredSlot t).trans held) (same ▸ covered)

end Blocks.FrozenTo

end

/-- R54, R55, R113, R143: where the blocks stand once the freeze has taken every slot. -/
theorem Blocks.frozenTo_all {b : Blocks} (still : b.Still) : b.FrozenTo allSlots (allSlots.foldl Blocks.freezeSlot b) :=
  foldl_done (fun _ _ _ fresh h => h.step still fresh) allSlots_nodup b.frozenTo_nil

end Sys2Proof.Machine
end

section
/-! CERTIFICATE. The freeze (R54 to R61, R113, R143, R152, R161) and the recovery (R61, R62, R88). -/

namespace Sys2Proof.Machine

/-! ### The cut at the bus (R152, R161) -/

/-- R161: what the cut leaves of the bus. -/
theorem CardBus.cutTransfer_frame (bus : CardBus) : bus.cutTransfer = { bus with transfer := bus.cutTransfer.transfer } := by
  unfold CardBus.cutTransfer
  split
  · rfl
  · split <;> rfl

/-- R161: a transfer not yet acknowledged is gone; any other is at RELEASE, cut, with its order. -/
theorem CardBus.cutTransfer_transfer {bus : CardBus} {tr : Transfer} (h : bus.transfer = some tr) :
    (tr.phase = .acknowledge → bus.cutTransfer.transfer = none)
    ∧ (tr.phase ≠ .acknowledge → bus.cutTransfer.transfer.map Transfer.phase = some (.release .cut)
        ∧ bus.cutTransfer.transfer.map Transfer.order = some tr.order) := by
  unfold CardBus.cutTransfer
  rw [h]
  dsimp only
  cases phase : tr.phase
  case acknowledge => exact ⟨fun _ => rfl, fun other => absurd rfl other⟩
  all_goals exact ⟨nofun, fun _ => ⟨rfl, rfl⟩⟩

theorem CardBus.cutTransfer_free {bus : CardBus} (h : bus.transfer = none) : bus.cutTransfer = bus := by
  unfold CardBus.cutTransfer
  rw [h]

/-! ### The parts of a freeze before the slots -/

/-- R55 to R57, R161: the bus cut, the registry's orders ended, and the links returned. -/
def Blocks.stilled (b : Blocks) : Blocks := b.cutBus.endRegistryOrders.freezeLinks

section
variable {b : Blocks} {i : SlotId}

theorem Blocks.stilled_slot (b : Blocks) (i : SlotId) : b.stilled.slot i = { b.slot i with order := none } := by
  have links : b.stilled.slot i = b.cutBus.endRegistryOrders.slot i := Blocks.slot_congr (by simp [Blocks.stilled]) i
  rw [links]
  exact Blocks.slot_modSlots (fun r => { r with order := none }) b.cutBus i

theorem Blocks.stilled_power (b : Blocks) : b.stilled.power = b.power := by simp [Blocks.stilled]

theorem Blocks.stilled_ep (b : Blocks) : b.stilled.ep = b.ep := by simp [Blocks.stilled]

theorem Blocks.stilled_bus (b : Blocks) : b.stilled.bus = b.cutBus.bus := by simp [Blocks.stilled]

theorem Blocks.stilled_ports (b : Blocks) : b.stilled.reg.ports = b.reg.ports := by
  have links : b.stilled.reg = b.cutBus.endRegistryOrders.reg := by simp [Blocks.stilled]
  rw [links]
  exact Blocks.ports_modSlots (fun r => { r with order := none }) b.cutBus

theorem Blocks.stilled_links (b : Blocks) :
    b.stilled.store = b.freezeLinks.store ∧ b.stilled.engine = b.freezeLinks.engine := by
  refine Blocks.freezeLinks_congr (by simp) (by simp) fun i => ?_
  have slot : b.cutBus.endRegistryOrders.slot i = { b.slot i with order := none } :=
    Blocks.slot_modSlots (fun r => { r with order := none }) b.cutBus i
  rw [Blocks.isKeep, slot, Blocks.isKeep]

theorem Blocks.stilled_still (b : Blocks) : b.stilled.Still where
  orderless i := by rw [Blocks.stilled_slot]
  backlog := by rw [b.stilled_links.2, Blocks.freezeLinks_engine]
  placed := by rw [Blocks.stilled_bus]; rfl

theorem Blocks.stilled_plansShed (b : Blocks) (i : SlotId) : b.stilled.plansShed i = b.plansShed i := by
  rw [Blocks.plansShed, Blocks.stilled_slot, Blocks.plansShed]

theorem Blocks.stilled_record (b : Blocks) (i : SlotId) : b.stilled.powerRec i = b.powerRec i :=
  Blocks.powerRec_congr b.stilled_power i

theorem Blocks.stilled_opensAt (b : Blocks) (i : SlotId) : b.stilled.opensAt i = b.opensAt i := by
  rw [Blocks.opensAt, Blocks.stilled_plansShed, Blocks.stilled_record, Blocks.opensAt]

theorem Blocks.stilled_shedsAt (b : Blocks) (i : SlotId) : b.stilled.shedsAt i = b.shedsAt i := by
  rw [Blocks.shedsAt, Blocks.stilled_plansShed, Blocks.stilled_record, Blocks.stilled_power, Blocks.shedsAt]

theorem Blocks.stilled_holdsAt (b : Blocks) (i : SlotId) : b.stilled.holdsAt i = b.holdsAt i := by
  rw [Blocks.holdsAt, Blocks.isKeep, Blocks.stilled_slot]
  rfl

theorem Blocks.stilled_leavesLive (b : Blocks) (i : SlotId) : b.stilled.leavesLive i = b.leavesLive i := by
  rw [Blocks.leavesLive, Blocks.isLive, Blocks.stilled_shedsAt, Blocks.stilled_holdsAt, Blocks.stilled_slot]
  rfl

end

/-! ### The whole freeze -/

/-- R54, R55, R60: what follows the slots in a freeze, before a recovery at once. -/
def Blocks.heldUp (c : Blocks) : Blocks :=
  (c.stopDeadlines.tally (Episode.setFrozen c.stopDeadlines.engine.queue.length)).setShelf .holdup

theorem Blocks.freeze_eq (b : Blocks) : b.freeze =
    if (allSlots.foldl Blocks.freezeSlot b.stilled).heldUp.ep.supply = .up then
      (allSlots.foldl Blocks.freezeSlot b.stilled).heldUp.recover
    else (allSlots.foldl Blocks.freezeSlot b.stilled).heldUp := by
  unfold Blocks.freeze Blocks.heldUp Blocks.stilled
  rfl

theorem Blocks.stopDeadlines_slot (c : Blocks) (i : SlotId) : c.stopDeadlines.slot i = { c.slot i with deadline := none } := by
  unfold Blocks.stopDeadlines
  exact Blocks.slot_modSlots (fun r => { r with deadline := none }) c i

theorem Blocks.stopDeadlines_ports (c : Blocks) : c.stopDeadlines.reg.ports = c.reg.ports := by
  unfold Blocks.stopDeadlines
  exact Blocks.ports_modSlots (fun r => { r with deadline := none }) c

theorem Blocks.heldUp_reg (c : Blocks) : c.heldUp.reg = c.stopDeadlines.reg := by simp [Blocks.heldUp]

theorem Blocks.heldUp_slot (c : Blocks) (i : SlotId) : c.heldUp.slot i = { c.slot i with deadline := none } := by
  rw [Blocks.slot_congr c.heldUp_reg, Blocks.stopDeadlines_slot]

theorem Blocks.heldUp_ports (c : Blocks) : c.heldUp.reg.ports = c.reg.ports := by
  rw [c.heldUp_reg, Blocks.stopDeadlines_ports]

theorem Blocks.heldUp_frame (c : Blocks) : c.heldUp.power = c.power ∧ c.heldUp.bus = c.bus ∧ c.heldUp.store = c.store
    ∧ c.heldUp.engine = c.engine ∧ c.heldUp.raised = c.raised := by
  simp [Blocks.heldUp]

theorem Blocks.heldUp_ep (c : Blocks) : c.heldUp.ep =
    { c.ep.modOpen (Episode.setFrozen c.engine.queue.length) with shelf := .holdup } := by
  unfold Blocks.heldUp Blocks.setShelf Blocks.tally
  simp

section
variable {b c : Blocks} {i : SlotId} (h : b.stilled.FrozenTo allSlots c)
include h

theorem Blocks.heldUp_engine : c.heldUp.engine = b.freezeLinks.engine := by
  obtain ⟨-, -, -, engine, -⟩ := c.heldUp_frame
  exact (engine.trans h.engine).trans b.stilled_links.2

/-- R60: the record of a freeze. -/
theorem Blocks.heldUp_record : c.heldUp.ep.shelf = .holdup ∧ c.heldUp.ep.counter = b.ep.counter
    ∧ c.heldUp.ep.supply = b.ep.supply
    ∧ (∀ e rest, b.ep.history = e :: rest → e.ended = none → ∃ e', c.heldUp.ep.history = e' :: rest
        ∧ e' = { e with frozen := some (e.frozen.getD c.heldUp.engine.queue.length), slotsLost := e'.slotsLost })
    ∧ ((∀ e rest, b.ep.history = e :: rest → e.ended ≠ none) → c.heldUp.ep.history = b.ep.history) := by
  obtain ⟨f, counts⟩ := h.counts
  obtain ⟨-, -, -, engine, -⟩ := c.heldUp_frame
  rw [Blocks.heldUp_ep, counts, Blocks.stilled_ep, engine,
    EpisodeController.modOpen_modOpen _ (f := fun e => { e with slotsLost := f e.slotsLost }) (fun _ => rfl)]
  generalize c.engine.queue.length = n
  by_cases opened : ∃ e rest, b.ep.history = e :: rest ∧ e.ended = none
  · obtain ⟨e, rest, history, opened⟩ := opened
    rw [EpisodeController.modOpen_open history opened]
    refine ⟨rfl, rfl, rfl, fun e' rest' h' _ => ?_, fun closed => absurd opened (closed e rest history)⟩
    obtain ⟨rfl, rfl⟩ := List.cons.inj (history.symm.trans h')
    exact ⟨_, rfl, rfl⟩
  · have closed : ∀ e rest, b.ep.history = e :: rest → e.ended ≠ none := fun e rest h' ended => opened ⟨e, rest, h', ended⟩
    rw [EpisodeController.modOpen_closed closed]
    exact ⟨rfl, rfl, rfl, fun e rest h' ended => absurd ended (closed e rest h'), fun _ => rfl⟩

/-- R152, R161: the bus of a freeze. -/
theorem Blocks.heldUp_bus : c.heldUp.bus.registryQueue = [] ∧ c.heldUp.bus.relinkQueue = []
    ∧ c.heldUp.bus.registryAttempts = 0 ∧ c.heldUp.bus.relinkAttempts = 0 ∧ c.heldUp.bus.paused = true
    ∧ c.heldUp.bus.lastGranted = b.bus.lastGranted ∧ c.heldUp.bus.phaseTimeout = b.bus.phaseTimeout
    ∧ c.heldUp.bus.transfer = b.bus.cutTransfer.transfer := by
  obtain ⟨-, bus, -, -, -⟩ := c.heldUp_frame
  have cut := b.bus.cutTransfer_frame
  rw [bus, h.bus, Blocks.stilled_bus]
  refine ⟨rfl, rfl, rfl, rfl, rfl, ?_, ?_, rfl⟩
  · change b.bus.cutTransfer.lastGranted = _
    rw [cut]
  · change b.bus.cutTransfer.phaseTimeout = _
    rw [cut]

/-- R44: the links of a freeze, with the ends on the opened switches detached. -/
theorem Blocks.heldUp_store : c.heldUp.store = { b.freezeLinks.store with
    links := b.freezeLinks.store.links.map (Link.detachedOn · b.opensAt) } := by
  obtain ⟨-, -, store, -, -⟩ := c.heldUp_frame
  rw [store, h.store, b.stilled_links.1]
  simp only [mem_allSlots, decide_true, Bool.true_and, Blocks.stilled_opensAt]

theorem Blocks.heldUp_power : c.heldUp.power = { b.power with
    recs := c.heldUp.power.recs, queue := b.power.queue.filter (fun i => !b.plansShed i) } := by
  obtain ⟨power, -, -, -, -⟩ := c.heldUp_frame
  have taken := h.power
  simp only [mem_allSlots, decide_true, Bool.true_and, Blocks.stilled_plansShed, Blocks.stilled_power] at taken
  rw [power, ← taken]

theorem Blocks.heldUp_powerRec (i : SlotId) : c.heldUp.powerRec i =
    if b.shedsAt i = true then (b.powerRec i).shed b.power.darkTime else b.powerRec i := by
  obtain ⟨power, -, -, -, -⟩ := c.heldUp_frame
  rw [Blocks.powerRec_congr power, h.record, Blocks.stilled_shedsAt, Blocks.stilled_record, Blocks.stilled_power]
  simp only [mem_allSlots, true_and]

/-! ### Each slot -/

/-- A reading of a slot record that neither a change of state nor the end of an order touches. -/
theorem Blocks.heldUp_keeps {α : Type} (g : SlotRec → α) (i : SlotId)
    (henter : ∀ r st, g (r.enter st) = g r := by intros; rfl)
    (hwrite : ∀ r w, g { r with writeSet := w } = g r := by intros; rfl)
    (hlost : ∀ r why, g { r with lostReason := why } = g r := by intros; rfl)
    (horder : ∀ r o, g { r with order := o } = g r := by intros; rfl)
    (hdeadline : ∀ r d, g { r with deadline := d } = g r := by intros; rfl) : g (c.heldUp.slot i) = g (b.slot i) := by
  rw [Blocks.heldUp_slot, hdeadline, h.slot, Blocks.frozenIn_keeps g henter hwrite hlost, Blocks.stilled_slot, horder]

/-- R55, R88: the order and the deadline of every slot have ended. -/
theorem Blocks.heldUp_stopped (i : SlotId) : (c.heldUp.slot i).order = none ∧ (c.heldUp.slot i).deadline = none := by
  rw [Blocks.heldUp_slot]
  exact ⟨(h.still b.stilled_still).orderless i, rfl⟩

/-- R55, R143: a slot that the freeze sheds. -/
theorem Blocks.heldUp_shed (sheds : b.shedsAt i = true) : c.heldUp.slot i = { SlotRec.moved { b.slot i with
    order := none, writeSet := if (b.powerRec i).closed then [] else (b.slot i).writeSet } .dark with deadline := none } := by
  have shed : b.stilled.shedsAt i = true := (b.stilled_shedsAt i).trans sheds
  rw [Blocks.heldUp_slot, h.slot, Blocks.frozenIn, if_pos ⟨mem_allSlots i, by simp [shed]⟩, Blocks.frozenRec, if_pos shed,
    Blocks.stilled_slot, Blocks.stilled_record]

/-- R55: a slot that the freeze holds. -/
theorem Blocks.heldUp_held (holds : b.holdsAt i = true) :
    c.heldUp.slot i = { SlotRec.moved { b.slot i with order := none } .held with deadline := none } := by
  have held : b.stilled.holdsAt i = true := (b.stilled_holdsAt i).trans holds
  rw [Blocks.heldUp_slot, h.slot, Blocks.frozenIn, if_pos ⟨mem_allSlots i, by simp [held]⟩, Blocks.frozenRec,
    if_neg (by simp [Blocks.holdsAt_shedsAt held]), if_pos held, Blocks.stilled_slot]

/-- R113: a slot that the freeze neither sheds nor holds. -/
theorem Blocks.heldUp_left (spared : b.shedsAt i = false) (idle : b.holdsAt i = false) : c.heldUp.slot i =
    if (b.slot i).state = .covered ∧ ∃ t, b.leavesLive t = true ∧ (b.slot t).coveredSlot = some i then
      { SlotRec.uncovered { b.slot i with order := none } with deadline := none }
    else { b.slot i with order := none, deadline := none } := by
  rw [Blocks.heldUp_slot, h.slot, Blocks.frozenIn, Blocks.stilled_shedsAt, Blocks.stilled_holdsAt, spared, idle,
    if_neg (by simp)]
  simp only [Blocks.stilled_slot, Blocks.stilled_leavesLive, mem_allSlots, true_and]
  split <;> rfl

/-- R55, R98: the write set of a slot whose switch the freeze opens is empty. -/
theorem Blocks.heldUp_writeSet (i : SlotId) :
    (c.heldUp.slot i).writeSet = if b.opensAt i then [] else (b.slot i).writeSet := by
  by_cases sheds : b.shedsAt i = true
  · have shed : b.plansShed i = true := ((Bool.and_eq_true _ _).mp sheds).1
    rw [Blocks.heldUp_shed h sheds, Blocks.opensAt, shed, Bool.true_and]
    exact SlotRec.moved_keeps SlotRec.writeSet (fun _ _ => rfl) _ _
  · rw [if_neg fun opens => sheds (Blocks.opensAt_shedsAt opens)]
    by_cases holds : b.holdsAt i = true
    · rw [Blocks.heldUp_held h holds]
      exact SlotRec.moved_keeps SlotRec.writeSet (fun _ _ => rfl) _ _
    · rw [Blocks.heldUp_left h (by simpa using sheds) (by simpa using holds)]
      split <;> rfl

/-- R55, R143: the state, the power and the notice of a slot that the freeze sheds. -/
theorem Blocks.heldUp_sheds (sheds : Sheds b i) : (c.heldUp.slot i).state = .dark
    ∧ c.heldUp.powerRec i = { b.powerRec i with
        closed := false, charge := if b.opensAt i then 0 else (b.powerRec i).charge
        ramp := none, dark := some b.power.darkTime }
    ∧ ((b.slot i).state ≠ .dark → (c.heldUp.slot i).identity = none ∧ (c.heldUp.slot i).latestId = none
        ∧ (c.heldUp.slot i).loading = none)
    ∧ ((b.slot i).state ≠ .dark → (b.slot i).state ≠ .covered →
        .slotState i (b.slot i).state .dark none ∈ c.heldUp.raised) := by
  have shed := Blocks.shedsAt_iff.mpr sheds
  have plans : b.plansShed i = true := ((Bool.and_eq_true _ _).mp shed).1
  obtain ⟨-, -, -, -, raised⟩ := c.heldUp_frame
  rw [Blocks.heldUp_shed h shed, Blocks.heldUp_powerRec h, if_pos shed, Blocks.opensAt, plans, Bool.true_and]
  refine ⟨SlotRec.moved_state _ _, rfl, fun moves => ?_, fun moves uncovered => ?_⟩
  · rw [SlotRec.moved, if_neg moves]
    exact ⟨rfl, rfl, rfl⟩
  · have told := h.dark i (mem_allSlots i) ((b.stilled_shedsAt i).trans shed)
    rw [b.stilled_slot i] at told
    rw [raised]
    exact told moves uncovered

/-- R55: the record and the notice of a slot that the freeze holds. -/
theorem Blocks.heldUp_holds (holds : Holds b i) : (c.heldUp.slot i).state = .held
    ∧ (c.heldUp.slot i).identity = (b.slot i).identity ∧ (c.heldUp.slot i).latestId = none
    ∧ (c.heldUp.slot i).loading = none ∧ (c.heldUp.slot i).readBuffer = []
    ∧ .slotState i (b.slot i).state .held none ∈ c.heldUp.raised := by
  have held := Blocks.holdsAt_iff.mpr holds
  have moves : (b.slot i).state ≠ .held := fun same => by
    obtain ⟨-, serves⟩ := holds
    simp [same] at serves
  obtain ⟨-, -, -, -, raised⟩ := c.heldUp_frame
  have told := h.held i (mem_allSlots i) ((b.stilled_holdsAt i).trans held)
  rw [b.stilled_slot i] at told
  rw [Blocks.heldUp_held h held, SlotRec.moved, if_neg moves, raised]
  exact ⟨rfl, rfl, rfl, rfl, rfl, told⟩

/-- R113: a slot that the freeze leaves, and a COVERED one whose spare has left LIVE. -/
theorem Blocks.heldUp_leaves (spared : ¬Sheds b i) (idle : ¬Holds b i) :
    let spareGone := ∃ t, (b.slot t).coveredSlot = some i ∧ (b.slot t).state = .live ∧ (Sheds b t ∨ Holds b t)
    ((b.slot i).state ≠ .covered ∨ ¬spareGone → c.heldUp.slot i = { b.slot i with order := none, deadline := none })
    ∧ ((b.slot i).state = .covered → spareGone → (c.heldUp.slot i).state = .lost
        ∧ (c.heldUp.slot i).lostReason = (b.slot i).coverReason
        ∧ .slotState i .covered .lost (b.slot i).coverReason ∈ c.heldUp.raised) := by
  have noShed : b.shedsAt i = false := Bool.eq_false_iff.mpr fun shed => spared (Blocks.shedsAt_iff.mp shed)
  have noHold : b.holdsAt i = false := Bool.eq_false_iff.mpr fun hold => idle (Blocks.holdsAt_iff.mp hold)
  have gone : (∃ t, b.leavesLive t = true ∧ (b.slot t).coveredSlot = some i)
      ↔ ∃ t, (b.slot t).coveredSlot = some i ∧ (b.slot t).state = .live ∧ (Sheds b t ∨ Holds b t) :=
    exists_congr fun t => by rw [Blocks.leavesLive_iff, and_comm]
  obtain ⟨-, -, -, -, raised⟩ := c.heldUp_frame
  dsimp only
  rw [← gone, Blocks.heldUp_left h noShed noHold]
  refine ⟨fun stays => if_neg (not_and_or.mpr stays), fun covered left => ?_⟩
  rw [if_pos ⟨covered, left⟩]
  obtain ⟨t, leaves, holds⟩ := left
  have told := h.lost t (mem_allSlots t) ((b.stilled_leavesLive t).trans leaves) i
  rw [b.stilled_slot i, b.stilled_slot t, b.stilled_shedsAt i] at told
  rw [raised]
  exact ⟨rfl, rfl, told holds covered noShed⟩

/-- R54 to R61: a freeze, before a recovery at once. -/
theorem Blocks.heldUp_frozen : Frozen b c.heldUp := by
  obtain ⟨queue, relink, attempts, relinkAttempts, paused, granted, timeout, transfer⟩ := Blocks.heldUp_bus h
  refine ⟨Blocks.heldUp_record h, ⟨queue, relink, attempts, relinkAttempts, paused, granted, timeout, fun tr busy => ?_,
      fun free => ?_⟩, ⟨Blocks.heldUp_engine h, Blocks.heldUp_store h⟩, ?_, Blocks.heldUp_power h, fun i => ?_⟩
  · rw [transfer]
    exact CardBus.cutTransfer_transfer busy
  · rw [transfer, CardBus.cutTransfer_free free, free]
  · rw [Blocks.heldUp_ports, h.ports, Blocks.stilled_ports]
  · obtain ⟨order, deadline⟩ := Blocks.heldUp_stopped h i
    refine ⟨Blocks.heldUp_keeps h SlotRec.plan i, Blocks.heldUp_keeps h SlotRec.storedTerm i,
      Blocks.heldUp_keeps h SlotRec.coveredSlot i, Blocks.heldUp_keeps h SlotRec.coverLoad i,
      Blocks.heldUp_keeps h SlotRec.coverReason i, Blocks.heldUp_keeps h SlotRec.revertMark i, order, deadline,
      Blocks.heldUp_writeSet h i, Blocks.heldUp_sheds h, fun spared => ?_, Blocks.heldUp_holds h, Blocks.heldUp_leaves h⟩
    rw [Blocks.heldUp_powerRec h, if_neg fun shed => spared (Blocks.shedsAt_iff.mp shed)]

end

/-! ### The recovery (R61, R62, R88) -/

/-- R62, R88: the record of a slot that the recovery has taken, but for its order. -/
def SlotRec.recovered (r : SlotRec) : SlotRec :=
  if r.state = .held then { r.enter .identifying with deadline := some r.deadlineTime }
  else if r.state = .ramping then { r with deadline := some r.deadlineTime } else r

section
variable {b c : Blocks} {done : List SlotId} {i j : SlotId}

theorem Blocks.recoverSlot_held (held : (b.slot i).state = .held) :
    b.recoverSlot i = (b.changeState i .identifying).startDeadline i := by
  unfold Blocks.recoverSlot
  rw [held]
  dsimp only
  rw [Blocks.enterState_away (by decide), if_neg (by rw [held]; decide)]

theorem Blocks.recoverSlot_ramping (ramping : (b.slot i).state = .ramping) : b.recoverSlot i = b.startDeadline i := by
  unfold Blocks.recoverSlot
  rw [ramping]

theorem Blocks.recoverSlot_left (held : (b.slot i).state ≠ .held) (ramping : (b.slot i).state ≠ .ramping) :
    b.recoverSlot i = b := by
  unfold Blocks.recoverSlot
  split
  next h => exact absurd h held
  next h => exact absurd h ramping
  · rfl

/-- R83: a change of state, in all of the record but the order it abandons. -/
theorem Blocks.changeState_but_order (b : Blocks) (i : SlotId) (st : SlotState) (moves : (b.slot i).state ≠ st) :
    ∃ order, (b.changeState i st).slot i = { (b.slot i).enter st with order } := by
  refine ⟨((b.changeState i st).slot i).order, ?_⟩
  have rest := Blocks.abandonOrder_keeps (fun r => { r with order := none }) (fun _ _ => rfl) b i i
  unfold Blocks.changeState
  dsimp only
  rw [if_neg moves, Blocks.slot_raise, Blocks.slot_modSlot_same]
  exact congrArg (fun r : SlotRec => { r.enter st with order := ((b.abandonOrder i).slot i).order }) rest

theorem Blocks.recoverSlot_own (b : Blocks) (i : SlotId) : ∃ order, (b.recoverSlot i).slot i =
    { (b.slot i).recovered with order } ∧ ((b.slot i).state ≠ .held → order = (b.slot i).order) := by
  by_cases held : (b.slot i).state = .held
  · obtain ⟨order, moved⟩ := b.changeState_but_order i .identifying (by rw [held]; decide)
    refine ⟨order, ?_, fun other => absurd held other⟩
    rw [Blocks.recoverSlot_held held, Blocks.startDeadline, Blocks.slot_modSlot_same, moved, SlotRec.recovered, if_pos held]
    rfl
  · refine ⟨(b.slot i).order, ?_, fun _ => rfl⟩
    by_cases ramping : (b.slot i).state = .ramping
    · rw [Blocks.recoverSlot_ramping ramping, Blocks.startDeadline, Blocks.slot_modSlot_same, SlotRec.recovered, if_neg held,
        if_pos ramping]
    · rw [Blocks.recoverSlot_left held ramping, SlotRec.recovered, if_neg held, if_neg ramping]

theorem Blocks.recoverSlot_other (hj : j ≠ i) : (b.recoverSlot i).slot j = b.slot j := by
  unfold Blocks.recoverSlot
  split
  next held =>
    rw [Blocks.enterState_away (by decide), if_neg (by rw [held]; decide), Blocks.startDeadline,
      Blocks.slot_modSlot_other _ _ _ _ hj, Blocks.changeState_other _ _ hj]
  · exact Blocks.slot_modSlot_other _ _ _ _ hj
  · rfl

/-- R62: a slot that is identified is told of; the episode and the port table do not move. -/
theorem Blocks.recoverSlot_keeps (b : Blocks) (i : SlotId) : (b.recoverSlot i).ep = b.ep
    ∧ (b.recoverSlot i).reg.ports = b.reg.ports
    ∧ (((b.slot i).state = .held → (b.slot i).order = none) → (b.recoverSlot i).bus = b.bus)
    ∧ ((b.slot i).state = .held → .slotState i .held .identifying none ∈ (b.recoverSlot i).raised)
    ∧ ∀ e ∈ b.raised, e ∈ (b.recoverSlot i).raised := by
  by_cases held : (b.slot i).state = .held
  · have moves : (b.slot i).state ≠ .identifying := by rw [held]; decide
    rw [Blocks.recoverSlot_held held]
    refine ⟨(b.changeState_frame i .identifying).2.2.2.1, b.changeState_ports i .identifying,
      fun idle => (Blocks.changeState_orderless (idle held)).2, fun _ => ?_, fun e he => Blocks.changeState_tells he⟩
    change _ ∈ (b.changeState i .identifying).raised
    rw [Blocks.changeState_raised moves, Blocks.changeState_unlost moves (by decide), held]
    exact List.mem_append_right _ (List.mem_singleton_self _)
  · have same : b.recoverSlot i = b ∨ b.recoverSlot i = b.startDeadline i := by
      by_cases ramping : (b.slot i).state = .ramping
      · exact .inr (Blocks.recoverSlot_ramping ramping)
      · exact .inl (Blocks.recoverSlot_left held ramping)
    rcases same with same | same <;> rw [same] <;> exact ⟨rfl, rfl, fun _ => rfl, fun h => absurd h held, fun _ he => he⟩

/-- R62, R88: where the blocks stand once the recovery has taken some of the slots. -/
structure Blocks.RecoveredTo (b : Blocks) (done : List SlotId) (c : Blocks) : Prop where
  fresh : ∀ i, i ∉ done → c.slot i = b.slot i
  taken : ∀ i ∈ done, ∃ order, c.slot i = { (b.slot i).recovered with order }
    ∧ ((b.slot i).state ≠ .held → order = (b.slot i).order)
  told : ∀ i ∈ done, (b.slot i).state = .held → .slotState i .held .identifying none ∈ c.raised
  bus : (∀ i, (b.slot i).state = .held → (b.slot i).order = none) → c.bus = b.bus
  ep : c.ep = b.ep
  ports : c.reg.ports = b.reg.ports

theorem Blocks.RecoveredTo.step (h : b.RecoveredTo done c) (hj : j ∉ done) : b.RecoveredTo (done ++ [j]) (c.recoverSlot j) := by
  obtain ⟨ep, ports, bus, told, tells⟩ := c.recoverSlot_keeps j
  have same := h.fresh j hj
  rw [same] at bus told
  refine ⟨fun i hi => ?_, fun i hi => ?_, fun i hi held => ?_, fun idle => (bus (idle j)).trans (h.bus idle), ep.trans h.ep,
    ports.trans h.ports⟩
  · obtain ⟨out, apart⟩ := not_or.mp (List.mem_append.not.mp hi)
    rw [Blocks.recoverSlot_other (List.mem_singleton.not.mp apart), h.fresh i out]
  · by_cases hij : i = j
    · subst hij
      exact same ▸ c.recoverSlot_own i
    · rw [Blocks.recoverSlot_other hij]
      exact h.taken i (by simpa [hij] using hi)
  · by_cases hij : i = j
    · subst hij
      exact told held
    · exact tells _ (h.told i (by simpa [hij] using hi) held)

theorem Blocks.recoveredTo_all (b : Blocks) : b.RecoveredTo allSlots (allSlots.foldl Blocks.recoverSlot b) :=
  foldl_done (P := b.RecoveredTo) (fun _ _ _ fresh h => h.step fresh) allSlots_nodup
    ⟨fun _ _ => rfl, nofun, nofun, fun _ => rfl, rfl, rfl⟩

/-- R61, R62, R88: the recovery. -/
theorem Blocks.recover_recovered (b : Blocks) : Recovered b b.recover := by
  have h := Blocks.recoveredTo_all ({ b with bus := { b.bus with paused := false } }.setShelf .recovering)
  obtain ⟨power, store, engine, -⟩ := b.recover_frame
  change Blocks.RecoveredTo _ _ b.recover at h
  refine ⟨h.ep, power, store, engine, h.ports, h.bus, fun i => ?_⟩
  obtain ⟨order, slot, kept⟩ := h.taken i (mem_allSlots i)
  change b.recover.slot i = { (b.slot i).recovered with order } at slot
  refine ⟨fun held => ?_, fun ramping => ?_, fun held ramping => ?_⟩
  · rw [slot, SlotRec.recovered, if_pos held]
    exact ⟨rfl, rfl, rfl, rfl, rfl, h.told i (mem_allSlots i) held⟩
  · have held : (b.slot i).state ≠ .held := by rw [ramping]; decide
    rw [slot, kept held, SlotRec.recovered, if_neg held, if_pos ramping]
    rfl
  · rw [slot, kept held, SlotRec.recovered, if_neg held, if_neg ramping]
    rfl

end

/-! ### The obligation -/

/-- R54, R61: a freeze holds the shelf up, and recovers at once with the supply UP. -/
theorem Blocks.freeze_frozen (b : Blocks) : (b.ep.supply = .down → Frozen b b.freeze)
    ∧ (b.ep.supply = .up → ∃ m, Frozen b m ∧ Recovered m b.freeze) := by
  have h := Blocks.frozenTo_all b.stilled_still
  rw [Blocks.freeze_eq]
  generalize allSlots.foldl Blocks.freezeSlot b.stilled = c at h ⊢
  have frozen := Blocks.heldUp_frozen h
  obtain ⟨-, -, supply, -⟩ := Blocks.heldUp_record h
  rw [supply]
  refine ⟨fun down => ?_, fun up => ⟨c.heldUp, frozen, ?_⟩⟩
  · rw [if_neg (by rw [down]; decide)]
    exact frozen
  · rw [if_pos up]
    exact c.heldUp.recover_recovered

/-- R56, R57: what a freeze makes of one link. -/
theorem Blocks.frozenLink_becomes (b : Blocks) (l : Link) :
    let m := b.frozenLink l
    let kept := (b.slot l.epA.slot).plan.any (fun p => p.policy == .keep) = true
      ∧ (b.slot l.epB.slot).plan.any (fun p => p.policy == .keep) = true
    (m.id, m.cls, m.seq, m.epA, m.epB, m.hset, m.index, m.removal, m.attA, m.attB)
        = (l.id, l.cls, l.seq, l.epA, l.epB, l.hset, l.index, l.removal, l.attA, l.attB)
    ∧ m.late = false
    ∧ (l.state = .carried ∨ (l.state.flying = true ∧ l.removal = false) →
        (kept → m.state = .suspect) ∧ (¬kept → m.state = .pending))
    ∧ (l.state.flying = true → l.removal = true → m.state = .releasing)
    ∧ (l.state = .deferred → m.state = .pending ∧ m.deferral = none)
    ∧ (l.state = .pending ∨ l.state = .suspect ∨ l.state = .releasing → m.state = l.state) := by
  have keeps : b.keepsBoth l = true ↔ (b.slot l.epA.slot).plan.any (fun p => p.policy == .keep) = true
      ∧ (b.slot l.epB.slot).plan.any (fun p => p.policy == .keep) = true := by
    rw [Blocks.keepsBoth, Bool.and_eq_true]
    rfl
  dsimp only
  refine ⟨by rw [Blocks.frozenLink_same], by rw [Blocks.frozenLink_same], fun returns => ?_, Blocks.frozenLink_releases,
    fun deferred => ?_, fun stays => ?_⟩
  · rw [Blocks.frozenLink_returns returns, Blocks.frozenState, ← keeps]
    exact ⟨fun kept => if_pos kept, fun other => if_neg other⟩
  · unfold Blocks.frozenLink
    rw [deferred]
    exact ⟨rfl, rfl⟩
  · unfold Blocks.frozenLink
    rcases stays with state | state | state <;> rw [state]

/-- Settles O32: the slots of a freeze and of a recovery by what holds of those taken so far, and the links one by one. -/
theorem freezeReturnsEveryLink : Obligations.FreezeReturnsEveryLink := by
  unfold Obligations.FreezeReturnsEveryLink
  refine ⟨fun b => ⟨b.freeze_frozen.1, b.freeze_frozen.2, b.recover_recovered⟩, fun b => ?_⟩
  have engine := b.freezeLinks_engine
  have store : b.freezeLinks.store = { b.store with links := b.store.links.map b.frozenLink } := b.freezeLinks_store
  refine ⟨fun id => Blocks.mem_freezeLinks_queue, ?_, ?_, ?_, ?_, ?_, ?_, ?_, fun k l m before after => ?_⟩
  case refine_1 | refine_2 | refine_3 | refine_4 => rw [engine]
  case refine_5 | refine_6 => rw [store]
  case refine_7 => rw [store, List.length_map]
  rw [store, List.getElem?_map, before] at after
  cases after
  exact b.frozenLink_becomes l

end Sys2Proof.Machine
end

section
/-! SUPPORT. The terms (R79, R86) under the operations of the relink engine: the engine moves no slot record, and no order of
its own carries a term. -/

namespace Sys2Proof.Machine

/-! ### The law taken apart -/

/-- R79: a LIVE slot has a stored term, and a stored term lies in 1..255. -/
def SlotRec.Termed (r : SlotRec) : Prop :=
  (r.state = .live → r.storedTerm.isSome = true) ∧ ∀ t, r.storedTerm = some t → TermInRange t

/-- R86: the term that an order carries to a card, if it carries one, lies in 1..255. -/
def BusOrder.Termed (o : BusOrder) : Prop := ∀ t, o.term = some t → TermInRange t

/-- The orders that wait: at the card bus controller and in the engine's backlog (R149, R28). -/
def Blocks.orders (b : Blocks) : List BusOrder :=
  b.bus.registryQueue ++ b.bus.relinkQueue ++ b.bus.pass.toList ++ b.engine.backlog

/-- Law 9, slot by slot and order by order. -/
structure Blocks.Termed (b : Blocks) : Prop where
  slots : ∀ i, (b.slot i).Termed
  orders : ∀ o ∈ b.orders, o.Termed

theorem Blocks.termed_iff {b : Blocks} : b.Termed ↔ b.TermLaw :=
  ⟨fun ⟨slots, orders⟩ => ⟨fun i => (slots i).1, fun i => (slots i).2, orders⟩,
    fun ⟨live, stored, orders⟩ => ⟨fun i => ⟨live i, stored i⟩, orders⟩⟩

theorem Blocks.mem_orders {b : Blocks} {o : BusOrder} : o ∈ b.orders ↔
    o ∈ b.bus.registryQueue ∨ o ∈ b.bus.relinkQueue ∨ o ∈ b.bus.pass ∨ o ∈ b.engine.backlog := by
  simp [Blocks.orders]

theorem BusOrder.termed_of_none {o : BusOrder} (h : o.term = none) : o.Termed := by
  intro t ht
  rw [h] at ht
  cases ht

theorem engineOrder_termed (l : Link) (e : LinkEnd) (code : OrderCode) (current : Bool) :
    (engineOrder l e code current).Termed := BusOrder.termed_of_none rfl

theorem BusOrder.Termed.modTag {o : BusOrder} (f : EngineTag → EngineTag) (h : o.Termed) : (o.modTag f).Termed := by
  unfold BusOrder.modTag
  split
  · exact BusOrder.termed_of_none rfl
  · exact h

theorem BusOrder.Termed.endRevert {o : BusOrder} (h : o.Termed) : o.endRevert.Termed := by
  unfold BusOrder.endRevert
  split
  · exact BusOrder.termed_of_none rfl
  · exact h

namespace Blocks.Termed

variable {b : Blocks}

/-- The registry does not move, and every order that waits waited before or carries no term out of range. -/
theorem same {c : Blocks} (h : b.Termed) (reg : c.reg = b.reg) (orders : ∀ o ∈ c.orders, o ∈ b.orders ∨ o.Termed) :
    c.Termed :=
  ⟨fun i => Blocks.slot_congr reg i ▸ h.slots i, fun o ho => (orders o ho).elim (h.orders o) id⟩

/-- Neither the registry nor an order moves. -/
theorem still {c : Blocks} (h : b.Termed) (reg : c.reg = b.reg) (bus : c.bus = b.bus) (engine : c.engine = b.engine) :
    c.Termed :=
  h.same reg fun o ho => .inl (by rwa [Blocks.orders, bus, engine] at ho)

theorem ite {p : Prop} [Decidable p] {x y : Blocks} (hx : x.Termed) (hy : y.Termed) : (if p then x else y).Termed := by
  split
  · exact hx
  · exact hy

theorem foldl {α : Type} {f : Blocks → α → Blocks} (hf : ∀ b x, b.Termed → (f b x).Termed) (l : List α) (h : b.Termed) :
    (l.foldl f b).Termed := by
  induction l generalizing b with
  | nil => exact h
  | cons x l ih => exact ih (hf b x h)

/-! ### The operations on one record, and on the orders that wait -/

theorem modSlot (i : SlotId) {f : SlotRec → SlotRec} (h : b.Termed)
    (hf : ∀ r, r.Termed → (f r).Termed) : (b.modSlot i f).Termed := by
  refine ⟨fun j => ?_, h.orders⟩
  by_cases hj : j = i
  · subst hj; rw [Blocks.slot_modSlot_same]; exact hf _ (h.slots j)
  · rw [Blocks.slot_modSlot_other _ _ _ _ hj]; exact h.slots j

theorem modPort (i : SlotId) (p : Fin 32) (f : PortRec → PortRec) (h : b.Termed) : (b.modPort i p f).Termed := ⟨h.1, h.2⟩

theorem modPower (i : SlotId) (f : PowerRec → PowerRec) (h : b.Termed) : (b.modPower i f).Termed := ⟨h.1, h.2⟩

theorem tally (f : Episode → Episode) (h : b.Termed) : (b.tally f).Termed := ⟨h.1, h.2⟩

theorem raise (e : Event) (h : b.Termed) : (b.raise e).Termed := ⟨h.1, h.2⟩

theorem mapLinks (f : Link → Link) (h : b.Termed) : (b.mapLinks f).Termed := ⟨h.1, h.2⟩

theorem modLink (id : Nat) (f : Link → Link) (h : b.Termed) : (b.modLink id f).Termed := ⟨h.1, h.2⟩

theorem setLinkState (id : Nat) (st : LinkState) (h : b.Termed) : (b.setLinkState id st).Termed := ⟨h.1, h.2⟩

theorem modEntry (id : Nat) (g : InFlight → InFlight) (h : b.Termed) : (b.modEntry id g).Termed := ⟨h.1, h.2⟩

theorem setHold (t : Option HoldTimer) (h : b.Termed) : (b.setHold t).Termed := ⟨h.1, h.2⟩

theorem leaveQueue (id : Nat) (h : b.Termed) : (b.leaveQueue id).Termed := ⟨h.1, h.2⟩

theorem leaveDeferred (id : Nat) (h : b.Termed) : (b.leaveDeferred id).Termed := ⟨h.1, h.2⟩

theorem joinQueue (id : Nat) (h : b.Termed) : (b.joinQueue id).Termed :=
  h.same (by simp) fun o ho => .inl (by rwa [Blocks.orders, Blocks.joinQueue_engine, (b.joinQueue_frame id).2.2.1] at ho)

theorem filterBacklog (keep : BusOrder → Bool) (h : b.Termed) : (b.filterBacklog keep).Termed :=
  h.same rfl fun o ho => .inl <| by
    rw [Blocks.mem_orders] at ho ⊢
    exact ho.imp_right (Or.imp_right (Or.imp_right List.mem_of_mem_filter))

theorem putBacklog {os : List BusOrder} (hos : ∀ o ∈ os, o.Termed) (h : b.Termed) : (b.putBacklog os).Termed :=
  h.same rfl fun o ho => by
    rw [Blocks.mem_orders] at ho ⊢
    rcases ho with ho | ho | ho | ho
    · exact .inl (.inl ho)
    · exact .inl (.inr (.inl ho))
    · exact .inl (.inr (.inr (.inl ho)))
    · exact (List.mem_append.mp ho).imp (fun ho => .inr (.inr (.inr ho))) (hos o)

/-- The engine's orders at the controller are marked (R29). -/
theorem markRelink {g : BusOrder → BusOrder} (hg : ∀ o, o.Termed → (g o).Termed) (h : b.Termed) :
    Blocks.Termed { b with bus := { b.bus with relinkQueue := b.bus.relinkQueue.map g } } :=
  h.same rfl fun o ho => by
    rw [Blocks.mem_orders] at ho ⊢
    rcases ho with ho | ho | ho
    · exact .inl (.inl ho)
    · obtain ⟨x, hx, rfl⟩ := List.mem_map.mp ho
      exact .inr (hg x (h.orders x (Blocks.mem_orders.mpr (.inr (.inl hx)))))
    · exact .inl (.inr (.inr ho))

theorem withdraw (id : Nat) (h : b.Termed) : (b.withdraw id).Termed := h.filterBacklog _

theorem leaveInFlight (id : Nat) (h : b.Termed) : (b.leaveInFlight id).Termed := by
  have marked := (h.withdraw id).markRelink
    (g := fun o => if o.forLink id then o.modTag (fun e => { e with current := false }) else o)
    fun o ho => by split; exacts [ho.modTag _, ho]
  exact ⟨marked.1, marked.2⟩

theorem detachWhere (p : Endpoint → Bool) (h : b.Termed) : (b.detachWhere p).Termed := (h.filterBacklog _).mapLinks _

theorem detachSlot (i : SlotId) (h : b.Termed) : (b.detachSlot i).Termed := h.detachWhere _

theorem detachEnd (id : Nat) (e : LinkEnd) (h : b.Termed) : (b.detachEnd id e).Termed := (h.filterBacklog _).modLink id _

theorem switchOpened (i : SlotId) (h : b.Termed) : (b.switchOpened i).Termed :=
  ((h.detachSlot i).markRelink (g := fun o => if o.slot = i then o.modTag (fun e => { e with opened := true }) else o)
    fun o ho => by split; exacts [ho.modTag _, ho]).modSlot i fun _ h => by exact h

/-! ### The relink engine -/

theorem release (id : Nat) (h : b.Termed) : (b.release id).Termed :=
  (((h.leaveInFlight id).leaveQueue id).leaveDeferred id).modLink id _

theorem defer (t id : Nat) (reason : DeferReason) (h : b.Termed) : (b.defer t id reason).Termed := by
  unfold Blocks.defer
  split
  · exact h
  · have left := (h.leaveInFlight id).leaveQueue id
    exact ⟨left.1, left.2⟩

theorem returnLink (id : Nat) (h : b.Termed) : (b.returnLink id).Termed := by
  unfold Blocks.returnLink
  split
  · exact h
  next l _ =>
    cases l.state
    case verifying | preparing | ready | activating =>
      exact ite (h.release id) (((h.leaveInFlight id).setLinkState id _).joinQueue id)
    case suspect => exact h.setLinkState id _
    case carried => exact (h.setLinkState id _).joinQueue id
    case pending | deferred | releasing => exact h

theorem slotInPlace (i : SlotId) (h : b.Termed) : (b.slotInPlace i).Termed :=
  foldl (fun _ id h => h.returnLink id) _ (h.detachSlot i)

theorem coverReport (s : SlotId) (h : b.Termed) : (b.coverReport s).Termed := foldl (fun _ id h => h.returnLink id) _ h

theorem dropLinks (p : Link → Bool) (h : b.Termed) : (b.dropLinks p).Termed := by
  refine foldl (fun b id h => ?_) _ h
  unfold Blocks.dropLink
  split
  · exact h
  · exact ((h.release id).raise _).tally _

theorem carry (t : Nat) (f : InFlight) (h : b.Termed) : (b.carry t f).Termed := by
  unfold Blocks.carry
  split
  · exact h
  next l _ =>
    have carried := (((h.leaveInFlight l.id).leaveQueue l.id).setLinkState l.id .carried).tally (Episode.noteActivation t)
    cases f.origin
    case queue => exact ite (carried.tally _) ((carried.tally _).raise _)
    case deferred => exact (carried.tally _).raise _

theorem verify (id : Nat) (h : b.Termed) : (b.verify id).Termed :=
  (((h.leaveInFlight id).leaveQueue id).modLink id _).tally _

theorem start (c : Start) (h : b.Termed) : (b.start c).Termed := by
  unfold Blocks.start
  split
  · exact h
  next l _ =>
    have left : (if c.origin = .deferred then
        (b.leaveDeferred c.id).modLink c.id (fun l => { l with deferral := none, late := true }) else b).Termed :=
      ite ((h.leaveDeferred c.id).modLink c.id _) h
    refine putBacklog (fun o ho => ?_) ⟨left.1, left.2⟩
    rcases List.mem_pair.mp ho with rfl | rfl
    · exact engineOrder_termed _ _ _ _
    · exact engineOrder_termed _ _ _ _

theorem startLoop (n : Nat) (h : b.Termed) : (Blocks.startLoop n b).Termed := by
  induction n generalizing b with
  | zero => exact h
  | succ n ih =>
    unfold Blocks.startLoop
    refine ite ?_ h
    split
    · exact ih (h.start _)
    · exact h

theorem startRule (h : b.Termed) : b.startRule.Termed := ite (h.startLoop 8) h

/-- The engine decides one order for an end of a link. -/
theorem decides (l : Link) (e : LinkEnd) (code : OrderCode) (current : Bool) (h : b.Termed) :
    (b.putBacklog [engineOrder l e code current]).Termed :=
  h.putBacklog fun o ho => by rw [List.mem_singleton.mp ho]; exact engineOrder_termed _ _ _ _

theorem activate (id : Nat) (h : b.Termed) : (b.activate id).Termed := by
  unfold Blocks.activate
  split
  · exact h
  · exact ite (((h.setLinkState id _).modEntry id _).decides ..) h

theorem activateReady (h : b.Termed) : b.activateReady.Termed := foldl (fun _ id h => h.activate id) _ h

theorem judgeHead (t n : Nat) (h : b.Termed) : (Blocks.judgeHead t n b).Termed := by
  induction n generalizing b with
  | zero => exact h
  | succ n ih =>
    have judged := h.startRule.activateReady
    unfold Blocks.judgeHead
    dsimp only
    split
    · exact judged.setHold none
    · exact ite judged (ite (ih ((judged.setHold none).defer t _ .hold)) (judged.setHold _))

theorem removeLink (id : Nat) (h : b.Termed) : (b.removeLink id).Termed := by
  unfold Blocks.removeLink
  split
  · exact h
  next l _ =>
    cases l.state
    case verifying | preparing | ready | activating => exact (h.withdraw id).modLink id _
    case pending | suspect | deferred | carried => exact h.release id
    case releasing => exact h

theorem flagPass (h : b.Termed) : b.flagPass.Termed := foldl (fun _ id h => ite (h.release id) h) _ h

theorem refuse (t id : Nat) (h : b.Termed) : (Blocks.refuse t b id).Termed := by
  unfold Blocks.refuse
  split
  next l _ _ =>
    refine ite (ite (h.defer t id .refused) (ite h ((h.modEntry id _).putBacklog fun o ho => ?_))) h
    rcases List.mem_append.mp ho with ho | ho
    all_goals
      split at ho
      · rw [List.mem_singleton.mp ho]; exact engineOrder_termed _ _ _ _
      · cases ho
  · exact h

theorem refusalPass (t : Nat) (h : b.Termed) : (b.refusalPass t).Termed := foldl (fun _ id h => h.refuse t id) _ h

theorem decideDetach (l : Link) (e : LinkEnd) (h : b.Termed) : (b.decideDetach l e).Termed := ite (h.decides ..) h

theorem releaseOne (id : Nat) (h : b.Termed) : (b.releaseOne id).Termed := by
  unfold Blocks.releaseOne
  split
  · exact h
  · exact ite (ite ⟨h.1, h.2⟩ ((h.decideDetach _ .a).decideDetach _ .b)) h

theorem releasePass (h : b.Termed) : b.releasePass.Termed := foldl (fun _ id h => h.releaseOne id) _ h

theorem judgeEngine (t : Nat) (h : b.Termed) : (b.judgeEngine t).Termed :=
  (h.flagPass.refusalPass t).releasePass.judgeHead t _

theorem standDown (h : b.Termed) : b.standDown.Termed :=
  ite (foldl (fun _ id h => ite ((h.leaveInFlight id).setLinkState id _) h) _ h) h

/-! ### The outcomes of the engine's orders -/

theorem accountEnds (o : BusOrder) (e : EngineTag) (out : OrderOutcome) (h : b.Termed) : (b.accountEnds o e out).Termed := by
  unfold Blocks.accountEnds
  split
  case h_1 | h_2 => exact ite h (h.modLink _ _)
  case h_9 => exact h
  all_goals exact h.detachEnd _ _

theorem judgeStep (t id : Nat) (h : b.Termed) : (b.judgeStep t id).Termed := by
  unfold Blocks.judgeStep
  split
  next f l _ _ =>
    refine ite h ?_
    cases f.step
    case survey => exact ite (ite (h.verify _) ((h.leaveInFlight _).setLinkState _ _)) h
    case attach => exact ite ((h.setLinkState _ _).modEntry _ _) h
    case activateA | activateB => exact ite h (ite ((h.modEntry _ _).decides ..) (ite (h.carry t f) h))
    case detach | idle => exact h
  · exact h

theorem engineOutcome (t : Nat) (o : BusOrder) (e : EngineTag) (out : OrderOutcome) (records : List (List Byte))
    (h : b.Termed) : (b.engineOutcome t o e out records).Termed := by
  have ends := h.accountEnds o e out
  refine ite ?_ ends
  rw [Blocks.countOutcome_eq]
  refine judgeStep t e.link ?_
  have noted := ends.modEntry e.link (fun f => f.note e.lend out)
  have recorded := ite (p := o.code = .survey ∧ out = .done)
    (noted.modEntry e.link (fun f => f.noteRecord e.lend ((records.head?.bind readAttachment).getD none))) noted
  exact ite (p := (o.code = .attach ∨ o.code = .activate) ∧ out = .refused)
    ((recorded.modEntry e.link _).withdraw e.link) recorded

end Blocks.Termed

end Sys2Proof.Machine
end

section
/-! SUPPORT. The terms (R79, R86) under the operations of the other blocks: a slot becomes LIVE with its stored term intact, or
with the term a SET TERM in range has given it; and the next term of a slot is in range. -/

namespace Sys2Proof.Machine

/-- A record in a state other than LIVE keeps its term. -/
theorem SlotRec.Termed.enter {r : SlotRec} {st : SlotState} (h : r.Termed) (hst : st = .live → r.storedTerm.isSome = true) :
    (r.enter st).Termed := ⟨hst, h.2⟩

/-- R86: the next term is never 0 and at most 255. -/
theorem SlotRec.Termed.nextTerm {r : SlotRec} (h : r.Termed) : TermInRange r.nextTerm := by
  unfold SlotRec.nextTerm TermInRange
  split
  · decide
  next t ht =>
    obtain ⟨-, _⟩ := h.2 t ht
    split <;> omega

namespace Blocks.Termed

variable {b : Blocks}

/-! ### Switches, slot states and admission -/

theorem openSwitch (i : SlotId) (h : b.Termed) : (b.openSwitch i).Termed := ite ((h.modPower i _).switchOpened i) h

theorem powerShed (i : SlotId) (h : b.Termed) : (b.powerShed i).Termed := ⟨(h.openSwitch i).1, (h.openSwitch i).2⟩

theorem powerOff (i : SlotId) (h : b.Termed) : (b.powerOff i).Termed := ⟨(h.openSwitch i).1, (h.openSwitch i).2⟩

theorem abandonOrder (i : SlotId) (h : b.Termed) : (b.abandonOrder i).Termed := by
  have withdrawn : Blocks.Termed { b with bus := b.bus.withdrawRegistry i } := h.same rfl fun o ho => .inl <| by
    rw [Blocks.mem_orders] at ho ⊢
    exact ho.imp_left List.mem_of_mem_filter
  unfold Blocks.abandonOrder
  split
  · exact h
  · exact ite (h.modSlot i fun _ h => by exact h) (withdrawn.modSlot i fun _ h => by exact h)

/-- R79: a slot enters a state, LIVE only with a stored term. -/
theorem changeState (i : SlotId) (st : SlotState) (h : b.Termed)
    (stored : st = .live → (b.slot i).storedTerm.isSome = true) : (b.changeState i st).Termed := by
  refine ite h (raise _ ?_)
  have term := b.abandonOrder_keeps SlotRec.storedTerm (fun _ _ => rfl) i i
  have abandoned := h.abandonOrder i
  refine ⟨fun j => ?_, abandoned.orders⟩
  by_cases hj : j = i
  · subst hj
    rw [Blocks.slot_modSlot_same]
    exact (abandoned.slots j).enter fun live => term ▸ stored live
  · rw [Blocks.slot_modSlot_other _ _ _ _ hj]
    exact abandoned.slots j

theorem spareLeftLive (i : SlotId) (h : b.Termed) : (b.spareLeftLive i).Termed := by
  unfold Blocks.spareLeftLive
  split
  · exact h
  · exact ite ((changeState _ .lost (h.modSlot _ fun _ h => by exact h) nofun).tally _) h

theorem coverAgain (i : SlotId) (h : b.Termed) : (b.coverAgain i).Termed := by
  unfold Blocks.coverAgain
  split
  · exact h
  · exact ite ((h.changeState _ .covered nofun).tally _) h

theorem wantClear (i : SlotId) (h : b.Termed) : (b.wantClear i).Termed := by
  refine ite ?_ h
  split
  · exact ite h (h.modSlot _ fun _ h => by exact h)
  · exact h

theorem enterState (i : SlotId) (st : SlotState) (h : b.Termed)
    (stored : st = .live → (b.slot i).storedTerm.isSome = true) :
    (b.enterState i st).Termed := by
  have entered := h.changeState i st stored
  exact ite ((entered.coverAgain i).wantClear i) (ite (entered.spareLeftLive i) entered)

theorem startDeadline (i : SlotId) (h : b.Termed) : (b.startDeadline i).Termed := h.modSlot i fun _ h => by exact h

theorem joinAdmission (i : SlotId) (h : b.Termed) : (b.joinAdmission i).Termed := h.still (by simp) (by simp) (by simp)

theorem admitLoop (n : Nat) (h : b.Termed) : (Blocks.admitLoop n b).Termed := by
  induction n generalizing b with
  | zero => exact h
  | succ n ih =>
    unfold Blocks.admitLoop
    split
    next i _ =>
      refine ih ?_
      unfold Blocks.admitSlot
      split
      · exact h
      next p _ =>
        have closed : ((b.leaveAdmission i).modPower i
          (fun r => { r with closed := true, charge := p.inrush, ramp := some p.rampTime })).Termed := ⟨h.1, h.2⟩
        exact ite ((closed.enterState i .ramping nofun).startDeadline i) closed
    · exact h

theorem powerQueue (i : SlotId) (h : b.Termed) : (b.powerQueue i).Termed :=
  ite h (((h.modPower i _).joinAdmission i).admitLoop 16)

theorem queueSlot (i : SlotId) (h : b.Termed) : (b.queueSlot i).Termed := (h.enterState i .queued nofun).powerQueue i

/-! ### Loss, cover and revert -/

theorem takeCover (i t : SlotId) (reason : LossReason) (h : b.Termed) : (b.takeCover i t reason).Termed := by
  have taken : (((b.modSlot i (fun r => { r with coverReason := some reason })).changeState i .covered).modSlot t (fun r =>
      { r with coveredSlot := some i, coverLoad := some { runs := 0, done := false }, writeSet := [] })).Termed :=
    ((h.modSlot i fun _ h => by exact h).changeState i .covered nofun).modSlot t fun _ h => by exact h
  exact ((taken.mapLinks _).tally _).coverReport i

theorem spareLost (spare s : SlotId) (reason : LossReason) (h : b.Termed) : (b.spareLost spare s reason).Termed := by
  unfold Blocks.spareLost
  refine dropLinks _ (detachSlot _ (modSlot _ (ite (h.modSlot s fun _ h => by exact h) ?_) fun _ h => by exact h))
  exact ite ((changeState s .lost (h.modSlot s fun _ h => by exact h) nofun).tally _) (h.modSlot s fun _ h => by exact h)

theorem retireHeld (s : SlotId) (h : b.Termed) : (b.retireHeld s).Termed := by
  have ended : (b.modSlot s (fun r => { r with revertMark := false, coverReason := none })).Termed :=
    h.modSlot s fun _ h => by exact h
  unfold Blocks.retireHeld
  refine dropLinks _ ?_
  dsimp only
  split
  next t _ => exact modSlot t (ite (ended.abandonOrder t) ended) fun _ h => by exact h
  · exact ended

theorem endClearRevert (t : SlotId) (h : b.Termed) : (b.endClearRevert t).Termed :=
  h.same rfl fun o ho => by
    rw [Blocks.mem_orders] at ho ⊢
    rcases ho with ho | ho
    · obtain ⟨x, hx, rfl⟩ := List.mem_map.mp ho
      have waits := h.orders x (Blocks.mem_orders.mpr (.inl hx))
      exact .inr (by split; exacts [waits.endRevert, waits])
    · exact .inl (.inr ho)

theorem revertingLost (s : SlotId) (reason : LossReason) (h : b.Termed) : (b.revertingLost s reason).Termed := by
  have marked : (b.modSlot s (fun r => { r with coverReason := some reason, revertMark := false })).Termed :=
    h.modSlot s fun _ h => by exact h
  refine ite (h.retireHeld s) ?_
  dsimp only
  split
  next t _ =>
    have ended := endClearRevert t (marked.modSlot t (f := fun r => { r with clearWanted := false }) fun _ h => by exact h)
    exact ite ((ended.changeState s .covered nofun).tally _) ended
  · exact marked

theorem settleLoss (i : SlotId) (reason : LossReason) (h : b.Termed) : (b.settleLoss i reason).Termed := by
  unfold Blocks.settleLoss
  split
  · exact h.spareLost i _ reason
  · refine ite (h.revertingLost i reason) ?_
    split
    · exact h.takeCover i _ reason
    · exact (h.detachSlot i).dropLinks _

theorem lose (i : SlotId) (reason : LossReason) (h : b.Termed) : (b.lose i reason).Termed :=
  (((changeState i .lost (h.modSlot i fun _ h => by exact h) nofun).powerOff i).tally _).settleLoss i reason

theorem loseInService (i : SlotId) (reason : LossReason) (h : b.Termed) : (b.loseInService i reason).Termed :=
  ite (h.lose i reason) h

theorem cardRestart (i : SlotId) (h : b.Termed) : (b.cardRestart i).Termed := by
  have restarted : ((b.enterState i .identifying).modSlot i
      (fun r => { r with latestId := some .fresh, attention := false })).Termed :=
    (h.enterState i .identifying nofun).modSlot i fun _ h => by exact h
  exact ite (((restarted.startDeadline i).slotInPlace i).tally _) h

theorem completeRevert (spare s : SlotId) (h : b.Termed) : (b.completeRevert spare s).Termed := by
  have ended : (((b.detachSlot spare).restoreLinks s).endHold spare).Termed :=
    ((h.detachSlot spare).mapLinks _).modSlot spare fun _ h => by exact h
  exact foldl (fun _ id h => h.returnLink id) _ (ended.modSlot s fun _ h => by exact h)

/-! ### Loading, and the outcomes of the registry's orders -/

theorem merge (plan : Plan) (i : SlotId) (reports : List PortReport) (h : b.Termed) : (b.merge plan i reports).Termed := by
  unfold Blocks.merge
  refine modSlot i ?_ fun _ h => h
  refine List.foldlRecOn (motive := fun m : Blocks × List GroupSet => m.1.Termed) _ _ h fun acc hacc p _ => ?_
  exact ite ((hacc.modPort i p _).raise _) (hacc.modPort i p _)

theorem beginLoading (i : SlotId) (h : b.Termed) : (b.beginLoading i).Termed := by
  have emptied : (b.modSlot i (fun r => { r with writeSet := [], readBuffer := [] })).Termed := h.modSlot i fun _ h => by exact h
  unfold Blocks.beginLoading
  dsimp only
  split
  · exact emptied.modSlot i fun _ h => by exact h
  · exact ite (emptied.modSlot i fun _ h => by exact h) (emptied.merge _ i [])
  · exact emptied

theorem identified (i : SlotId) (id : Identity) (h : b.Termed) : (b.identified i id).Termed := by
  have named : (b.modSlot i (fun r => { r with identity := some id })).Termed := h.modSlot i fun _ h => by exact h
  have alarm : ∀ {c : Blocks}, c.Termed → (if id.cause = .alarm then c.raise (.slotAlarm i id.cause) else c).Termed :=
    fun hc => ite (hc.raise _) hc
  unfold Blocks.identified
  dsimp only
  split
  · exact named
  · refine ite (named.loseInService i _) ?_
    split
    · split
      next intact =>
        have stored : ((b.modSlot i (fun r => { r with identity := some id })).slot i).storedTerm.isSome = true := by
          rw [beq_iff_eq.mp intact]; rfl
        refine alarm ((enterState i .live (named.modSlot i fun _ h => by exact h) fun _ => ?_).tally _)
        rw [Blocks.slot_modSlot_same]
        exact stored
      · have loads : ((((b.modSlot i (fun r => { r with identity := some id })).modSlot i
            (fun r => { r with latestId := some .fresh })).enterState i .loading)).Termed :=
          enterState i .loading (named.modSlot i fun _ h => by exact h) nofun
        exact beginLoading i (ite loads ((loads.slotInPlace i).tally _))
    · have taken : ((b.modSlot i (fun r => { r with identity := some id })).modSlot i
          (fun r => { r with attention := false })).Termed := named.modSlot i fun _ h => by exact h
      exact ite (alarm taken)
        (beginLoading i ((((enterState i .loading (taken.modSlot i fun _ h => by exact h) nofun).startDeadline i).slotInPlace i).tally _))
    · exact named

/-- R86: the term that a SET TERM gave is stored. -/
theorem termGiven (i : SlotId) {term : Nat} (inRange : TermInRange term) (h : b.Termed) : (b.termGiven i term).Termed := by
  refine ite (enterState i .live (h.modSlot i fun r _ => ?_) fun _ => by rw [Blocks.slot_modSlot_same]; rfl) h
  exact ⟨fun _ => rfl, fun t ht => Option.some.inj ht ▸ inRange⟩

theorem cleared (i : SlotId) (reverts : Bool) (out : OrderOutcome) (h : b.Termed) : (b.cleared i reverts out).Termed := by
  cases out
  case refused | noAnswer => exact h.loseInService i _
  case done =>
    unfold Blocks.cleared
    dsimp only
    split
    · exact h
    · exact ite (h.completeRevert i _) ((h.slotInPlace i).modSlot i fun _ h => by exact h)
  case fresh =>
    unfold Blocks.cleared
    dsimp only
    split
    · exact h.cardRestart i
    · exact ite ((h.completeRevert i _).cardRestart i) (h.cardRestart i)

theorem orderFailed (i : SlotId) (out : OrderOutcome) (h : b.Termed) : (b.orderFailed i out).Termed := by
  cases out
  case done => exact h
  case noAnswer | refused => exact h.loseInService i _
  case fresh => exact ite (h.cardRestart i) (h.loseInService i _)

theorem runRead (i : SlotId) (records : List (List Byte)) (h : b.Termed) : (b.runRead i records).Termed := by
  unfold Blocks.runRead
  dsimp only
  split
  · exact ite (h.merge _ i _) (h.modSlot i fun _ h => by exact h)
  · exact h

/-- R86: what an outcome does, where a SET TERM carried a term in range. -/
theorem registryOutcome (o : BusOrder) (use : RegistryUse) (out : OrderOutcome) (records : List (List Byte))
    (inRange : ∀ term, use = .setTerm term → TermInRange term) (h : b.Termed) :
    (b.registryOutcome o use out records).Termed := by
  have ended : (b.modSlot o.slot (fun r => { r with order := none })).Termed := h.modSlot o.slot fun _ h => by exact h
  have failed := ended.orderFailed o.slot out
  refine ite ended ?_
  cases use
  case identify =>
    cases out
    case done =>
      dsimp only
      split
      · exact ended.identified _ _
      · exact ended
    case noAnswer | refused | fresh => exact ended.loseInService _ _
  case loadRead => exact ite (ended.runRead _ records) failed
  case loadWrite => exact ite (ended.modSlot _ fun _ h => by exact h) failed
  case writeSet => exact failed
  case coverRun => exact ite (ite (ended.modSlot _ fun _ h => by exact h) ended) failed
  case setTerm term => exact ite (ended.termGiven _ (inRange term rfl)) failed
  case clear reverts => exact ended.cleared _ _ _

theorem busReport (i : SlotId) (out : OrderOutcome) (h : b.Termed) : (b.busReport i out).Termed := by
  cases out
  case fresh => exact h.cardRestart i
  case noAnswer => exact h.loseInService i _
  case done | refused => exact h

theorem deliver (t : Nat) {o : BusOrder} (out : OrderOutcome) (given : List (List Byte)) (ho : o.Termed) (h : b.Termed) :
    (Blocks.deliver t b o out given).Termed := by
  unfold Blocks.deliver
  dsimp only
  split
  next use hp =>
    refine h.registryOutcome o use out _ fun term hterm => ho term ?_
    rw [BusOrder.term, hp, hterm]
  · exact (h.engineOutcome t o _ out _).busReport _ _
  · exact busReport _ _ (h.still rfl rfl rfl)

/-! ### The card bus -/

/-- The controller's orders are among those that waited. -/
theorem onBus (bus : CardBus) (h : b.Termed)
    (orders : ∀ o, o ∈ bus.registryQueue ∨ o ∈ bus.relinkQueue ∨ o ∈ bus.pass →
      o ∈ b.bus.registryQueue ∨ o ∈ b.bus.relinkQueue ∨ o ∈ b.bus.pass) :
    Blocks.Termed { b with bus } :=
  h.same rfl fun o ho => .inl <| by
    rw [Blocks.mem_orders] at ho ⊢
    have := orders o
    tauto

theorem finishOrder (t : Nat) (tr : Transfer) (out : OrderOutcome) (h : b.Termed) : (Blocks.finishOrder t b tr out).Termed := by
  unfold Blocks.finishOrder
  split
  · exact h
  next o head =>
    have waits : o ∈ b.orders := by
      rw [Blocks.mem_orders]
      cases hr : tr.requester <;> rw [hr] at head
      case registry => exact .inl (List.mem_of_mem_head? head)
      case relink => exact .inr (.inl (List.mem_of_mem_head? head))
      case passThrough => exact .inr (.inr (.inl head))
    refine deliver t out _ (h.orders o waits) (h.onBus _ fun x hx => ?_)
    cases hr : tr.requester <;> rw [hr] at hx
    case registry => exact hx.imp_left List.mem_of_mem_tail
    case relink => exact hx.imp_right (Or.imp_left List.mem_of_mem_tail)
    case passThrough => exact hx.imp_right (Or.imp_right fun hx => by cases hx)

theorem endAttempt (t : Nat) (tr : Transfer) (ending : Ending) (h : b.Termed) : (Blocks.endAttempt t b tr ending).Termed := by
  have freed : Blocks.Termed { b with bus := b.bus.setTransfer none } := h.onBus _ fun _ => id
  unfold Blocks.endAttempt
  cases ending
  case cut => exact freed
  case completed c => exact freed.finishOrder t tr _
  case failed =>
    refine ite (freed.onBus _ fun x hx => ?_) (freed.finishOrder t tr _)
    cases hr : tr.requester <;> rw [hr] at hx <;> exact hx

theorem releaseEnded (t : Nat) (h : b.Termed) : (Blocks.releaseEnded t b).Termed := by
  unfold Blocks.releaseEnded
  split
  · split
    · exact h.endAttempt t _ _
    · exact h
  · exact h

theorem completionGiven (t : Nat) (code : Byte) (h : b.Termed) : (Blocks.completionGiven t b code).Termed := by
  unfold Blocks.completionGiven
  split
  next tr _ =>
    cases tr.phase
    case acknowledge => exact ite (h.endAttempt t _ _) h
    case header =>
      refine h.onBus _ fun x hx => ?_
      unfold CardBus.headerCompletion at hx
      split at hx <;> exact hx
    case data => exact h.onBus _ fun _ => id
    case complete =>
      dsimp only
      split
      · exact h.onBus _ fun _ => id
      · exact h.onBus _ fun _ => id
    case release => exact h
  · exact h

theorem phaseTimedOut (t : Nat) (h : b.Termed) : (Blocks.phaseTimedOut t b).Termed := by
  unfold Blocks.phaseTimedOut
  split
  next tr _ =>
    cases tr.phase
    case acknowledge => exact h.endAttempt t _ _
    case header | data | complete => exact h.onBus _ fun _ => id
    case release ending => exact h.endAttempt t _ _
  · exact h

/-! ### The orders wanted -/

theorem notePlacement (i : SlotId) (o : BusOrder) (h : b.Termed) : (b.notePlacement i o).Termed := by
  have noted : ∀ order, (b.modSlot i (fun r => { r with order })).Termed := fun _ => h.modSlot i fun _ h => by exact h
  unfold Blocks.notePlacement
  dsimp only
  split
  · have served : ∀ f : List (Fin 32) → List (Fin 32), ((b.modSlot i (fun r =>
        { r with order := some { code := o.code, abandoned := false } })).modSlot i
          (fun r => { r with writeSet := f r.writeSet })).Termed := fun f => modSlot i (noted _) fun _ h => by exact h
    split
    · exact ite (foldl (fun _ p h => h.modPort _ p _) _ (served _)) (served _)
    · exact served _
  · exact modSlot i (noted _) fun _ h => by exact h
  · exact modSlot i (noted _) fun _ h => by exact h
  · exact noted _

/-- R86: a wanted SET TERM carries the next term of its slot. -/
theorem wanted {i : SlotId} {o : BusOrder} (h : b.Termed) (ho : b.wanted i = some o) : o.Termed := by
  have writes : ∀ x, b.writeSetOrder i = some x → x.Termed := fun x hx => by
    unfold Blocks.writeSetOrder at hx
    split at hx
    · cases hx
    · cases hx; exact BusOrder.termed_of_none rfl
  unfold Blocks.wanted at ho
  dsimp only at ho
  split at ho
  · cases ho
  · split at ho
    · cases ho; exact BusOrder.termed_of_none rfl
    next ld _ _ =>
      cases ho
      unfold Blocks.loadingOrder
      dsimp only
      split
      · exact BusOrder.termed_of_none rfl
      · exact BusOrder.termed_of_none rfl
      all_goals
        split
        next x hx => exact writes x hx
        · exact fun t ht => Option.some.inj ht ▸ (h.slots i).nextTerm
    · have plain : ∀ {code use}, (plainOrder i code [] use).purpose = .registry use := rfl
      unfold Blocks.liveOrder at ho
      dsimp only at ho
      repeat' split at ho
      all_goals first
        | exact writes o ho
        | (cases ho; done)
        | (cases ho; exact BusOrder.termed_of_none rfl)
    · cases ho

theorem placeRegistry (h : b.Termed) : b.placeRegistry.Termed := by
  refine foldl (fun b i h => ?_) _ h
  unfold Blocks.placeWanted
  split
  · exact h
  next o ho =>
    refine notePlacement i o (h.same rfl fun x hx => ?_)
    rw [Blocks.mem_orders] at hx ⊢
    rcases hx with hx | hx
    · exact (List.mem_append.mp hx).imp .inl fun hx => by rw [List.mem_singleton.mp hx]; exact h.wanted ho
    · exact .inl (.inr hx)

theorem finishCoverLoads (h : b.Termed) : b.finishCoverLoads.Termed :=
    foldl (fun _ i h => ite (h.modSlot i fun _ h => by exact h) h) _ h

theorem placeBacklog (h : b.Termed) : b.placeBacklog.Termed := h.same rfl fun o ho => .inl <| by
  rw [Blocks.mem_orders] at ho ⊢
  rcases ho with ho | ho | ho | ho
  · exact .inl ho
  · exact (List.mem_append.mp ho).elim (fun ho => .inr (.inl ho)) fun ho => .inr (.inr (.inr (List.mem_of_mem_take ho)))
  · exact .inr (.inr (.inl ho))
  · exact .inr (.inr (.inr (List.mem_of_mem_drop ho)))

theorem grant (h : b.Termed) : b.grant.Termed := by
  refine h.onBus _ fun o ho => ?_
  unfold CardBus.grant at ho
  split at ho
  · exact ho
  · split at ho
    · exact ho
    · exact ho

/-! ### The episode controller, and what every event judges -/

theorem setShelf (st : ShelfState) (h : b.Termed) : (b.setShelf st).Termed := ⟨h.1, h.2⟩

theorem cutBus (h : b.Termed) : b.cutBus.Termed := h.same rfl fun o ho => .inl <| by
  rw [Blocks.mem_orders] at ho ⊢
  rcases ho with ho | ho | ho | ho
  · cases ho
  · cases ho
  · rw [Blocks.cutBus] at ho
    dsimp only at ho
    split at ho
    · cases ho
    · rw [CardBus.cutTransfer_frame] at ho
      exact .inr (.inr (.inl ho))
  · exact .inr (.inr (.inr ho))

theorem freezeLinks (h : b.Termed) : b.freezeLinks.Termed := by
  rw [Blocks.freezeLinks_eq]
  refine foldl (fun _ id h => h.joinQueue id) _ (h.same rfl fun o ho => .inl ?_)
  rw [Blocks.mem_orders] at ho ⊢
  exact ho.imp_right (Or.imp_right (Or.imp_right fun ho => by cases ho))

theorem freezeSlot (i : SlotId) (h : b.Termed) : (b.freezeSlot i).Termed := by
  unfold Blocks.freezeSlot
  split
  · exact h
  · split
    · exact ite ((h.powerShed i).enterState i .dark nofun) h
    · exact ite (h.enterState i .held nofun) h

theorem recover (h : b.Termed) : b.recover.Termed := by
  refine foldl (fun b i h => ?_) _ (b := Blocks.setShelf _ _) ⟨h.1, h.2⟩
  unfold Blocks.recoverSlot
  split
  · exact (h.enterState i .identifying nofun).startDeadline i
  · exact h.startDeadline i
  · exact h

theorem endRegistryOrders (h : b.Termed) : b.endRegistryOrders.Termed := by
  unfold Blocks.endRegistryOrders
  exact foldl (fun _ i h => h.modSlot i fun _ h => by exact h) _ h

theorem stopDeadlines (h : b.Termed) : b.stopDeadlines.Termed := by
  unfold Blocks.stopDeadlines
  exact foldl (fun _ i h => h.modSlot i fun _ h => by exact h) _ h

theorem freeze (h : b.Termed) : b.freeze.Termed := by
  have parts := (foldl (fun _ i h => h.freezeSlot i) allSlots h.cutBus.endRegistryOrders.freezeLinks).stopDeadlines
  unfold Blocks.freeze
  dsimp only
  split
  · exact ((parts.tally _).setShelf _).recover
  · exact (parts.tally _).setShelf _

theorem judgeSettled (t : Nat) (h : b.Termed) : (b.judgeSettled t).Termed := ite (h.freeze.judgeEngine t) h

theorem judgeClose (t : Nat) (h : b.Termed) : (b.judgeClose t).Termed := h.still (by simp) (by simp) (by simp)

theorem settle (t : Nat) (h : b.Termed) : (b.settle t).Termed := by
  have judged := (h.finishCoverLoads.judgeEngine t).standDown
  have admitted : (Blocks.judgeSettled t _).judgeAdmission.Termed := (judged.judgeSettled t).admitLoop _
  exact (admitted.judgeClose t).placeRegistry.placeBacklog.grant

/-- What is told of an event is no part of the law. -/
theorem told (h : b.Termed) : b.told.Termed := ⟨h.1, h.2⟩

theorem supplyReport (t : Nat) (status : Supply) (fmin : Option Nat) (h : b.Termed) :
    (Blocks.supplyReport t status fmin b).Termed := by
  have noted : Blocks.Termed { b with ep := { b.ep with supply := status } } := ⟨h.1, h.2⟩
  unfold Blocks.supplyReport
  cases status
  case down =>
    dsimp only
    split
    · exact freeze ⟨noted.1, noted.2⟩
    · exact (noted.tally _).freeze
    · exact (noted.tally _).freeze
    · exact noted
    · exact noted
  case up =>
    dsimp only
    split
    · exact noted.recover
    all_goals exact noted

end Blocks.Termed

end Sys2Proof.Machine
end

section
/-! CERTIFICATE. The term law (R79, R86): every effect of an event or a request keeps it, and so does every step. -/

namespace Sys2Proof.Machine

/-! ### The phases of the bus (R153 to R155) -/

/-- R153 to R155: what the card answers moves the transfer alone. -/
def CardBus.MovesTransfer (bus bus' : CardBus) : Prop := ∃ tr, bus' = bus.setTransfer tr

theorem CardBus.movesTransfer_refl (bus : CardBus) : bus.MovesTransfer bus := ⟨bus.transfer, rfl⟩

theorem CardBus.acknowledged_moves (bus : CardBus) : bus.MovesTransfer bus.acknowledged := by
  unfold CardBus.acknowledged
  repeat' split
  · exact ⟨_, rfl⟩
  all_goals exact bus.movesTransfer_refl

theorem CardBus.headerCompletion_moves (bus : CardBus) (tr : Transfer) (code : Byte) :
    bus.MovesTransfer (bus.headerCompletion tr code) := by
  unfold CardBus.headerCompletion
  split <;> exact ⟨_, rfl⟩

theorem CardBus.headerAnswered_moves (bus : CardBus) (answer : HeaderAnswer) :
    bus.MovesTransfer (bus.headerAnswered answer) := by
  unfold CardBus.headerAnswered
  split
  · split
    · split
      · exact bus.headerCompletion_moves _ _
      · split <;> exact ⟨_, rfl⟩
    · exact bus.movesTransfer_refl
  · exact bus.movesTransfer_refl

theorem CardBus.recordMoved_moves (bus : CardBus) (bytes : List Byte) : bus.MovesTransfer (bus.recordMoved bytes) := by
  unfold CardBus.recordMoved
  split
  · dsimp only
    split
    · split
      · split <;> exact ⟨_, rfl⟩
      · exact ⟨_, rfl⟩
    · exact bus.movesTransfer_refl
  · exact bus.movesTransfer_refl

theorem CardBus.acknowledgeWithdrawn_moves (bus : CardBus) : bus.MovesTransfer bus.acknowledgeWithdrawn := by
  unfold CardBus.acknowledgeWithdrawn
  split
  · split
    case h_4 | h_5 => exact bus.movesTransfer_refl
    all_goals exact ⟨_, rfl⟩
  · exact bus.movesTransfer_refl

/-! ### The effects of the events and the requests -/

namespace Blocks.Termed

variable {b : Blocks}

theorem tell (t : Nat) (m : FeedMonitor) (e : Option SupplyEvent) (h : b.Termed) : (m.tell t e b).Termed := by
  cases e
  case none =>
    have reported : (b.budgetReport m.budget).Termed := ⟨h.1, h.2⟩
    exact ite reported h
  case some e =>
    exact supplyReport (b := Blocks.raise { b with power := { b.power with supply := e.status, budget := m.budget } } (m.notice e))
      t _ _ ⟨h.1, h.2⟩

theorem holdExpired (t : Nat) (h : b.Termed) : (b.holdExpired t).Termed := by
  unfold Blocks.holdExpired
  split
  · exact (h.setHold none).defer t _ .hold
  · exact h.setHold none

theorem rampExpired (i : SlotId) (h : b.Termed) : (Blocks.rampExpired i b).Termed := by
  have ended := fun f => h.modPower i f
  exact ite (ite ((ended _).enterState i .held nofun) ((ended _).enterState i .identifying nofun)) (ended _)

theorem darkExpired (i : SlotId) (h : b.Termed) : (Blocks.darkExpired i b).Termed := by
  have joined : ((b.modPower i (fun r => { r with dark := none })).joinAdmission i).Termed := (h.modPower i _).joinAdmission i
  exact ite (joined.enterState i .queued nofun) joined

theorem loadPlan (i : SlotId) (plan : Option Plan) (h : b.Termed) : (b.loadPlan i plan).Termed := by
  have planned : (b.modSlot i (fun r => { r with plan })).Termed := h.modSlot i fun _ h => by exact h
  cases plan
  case none => exact planned.enterState i .vacant nofun
  case some => exact ite (planned.enterState i .off nofun) (planned.queueSlot i)

theorem createLink (l : Link) (h : b.Termed) : (b.createLink l).Termed := joinQueue l.id ⟨h.1, h.2⟩

theorem setPort (i : SlotId) (p : Fin 32) (f : PortFields) (h : b.Termed) : (b.setPort i p f).Termed := by
  refine mapLinks _ ?_
  have updated := h.modPort i p (fun r => r.update f)
  refine ite ?_ updated
  split
  · exact ite (modSlot _ (updated.modSlot _ fun _ h => by exact h) fun _ h => by exact h) (updated.modSlot _ fun _ h => by exact h)
  · exact ite updated (updated.modSlot _ fun _ h => by exact h)

theorem beginRevert (i : SlotId) (h : b.Termed) : (b.beginRevert i).Termed :=
  (enterState i .dark (h.modSlot i fun _ h => by exact h) nofun).powerShed i

theorem restartSlot (i : SlotId) {c : Blocks} (done : b.restartSlot i = some c) (h : b.Termed) : c.Termed := by
  have off := (h.enterState i .dark nofun).powerShed i
  unfold Blocks.restartSlot at done
  dsimp only at done
  repeat' split at done
  all_goals cases done
  · exact h.beginRevert i
  · exact off.slotInPlace i
  · exact off

theorem retireSlot (i : SlotId) {c : Blocks} (done : b.retireSlot i = some c) (h : b.Termed) : c.Termed := by
  have reason : (b.modSlot i (fun r => { r with lostReason := some .retired })).Termed := h.modSlot i fun _ h => by exact h
  unfold Blocks.retireSlot at done
  split at done
  case h_4 => cases done; exact ite (reason.retireHeld i) reason
  case h_1 | h_2 | h_3 => cases done
  all_goals
    cases done
    exact h.lose i .retired

theorem revertSlot (i : SlotId) {c : Blocks} (done : b.revertSlot i = some c) (h : b.Termed) : c.Termed := by
  unfold Blocks.revertSlot at done
  split at done
  · cases done; exact h.beginRevert i
  · cases done

theorem effect {c : Blocks} (h : b.Termed) (e : b.Effect c) : c.Termed := by
  cases e with
  | judgedFeeds t m e => exact h.tell t m e
  | sampled t m e fmin => exact (h.tell t m e).still (by simp) (by simp) (by simp)
  | holdExpired t => exact h.holdExpired t
  | completionGiven t code => exact h.completionGiven t code
  | releaseEnded t => exact h.releaseEnded t
  | phaseTimedOut t => exact h.phaseTimedOut t
  | attention i => exact h.modSlot i fun _ h => by exact h
  | late i => exact h.lose i _
  | rampExpired i => exact h.rampExpired i
  | darkExpired i => exact h.darkExpired i
  | tripped i => exact ((h.modPower i _).openSwitch i).lose i _
  | relinkSet c mask => exact ⟨h.1, h.2⟩
  | loadPlan i plan => exact h.loadPlan i plan
  | startShelf => exact foldl (fun _ i h => ite (h.queueSlot i) h) _ (h.setShelf .standby)
  | drillNow t fmin => exact freeze ⟨h.1, h.2⟩
  | drillSettled t fmin => exact ⟨h.1, h.2⟩
  | createLink r l => exact h.createLink l
  | removeLink id => exact h.removeLink id
  | retried id => exact h.modLink id _
  | setPort i p f => exact h.setPort i p f
  | restarted i c done => exact h.restartSlot i done
  | retired i c done => exact h.retireSlot i done
  | reverted i c done => exact h.revertSlot i done

/-- R172: at reset no slot is LIVE, none has a term and no order waits. -/
theorem reset : Blocks.reset.Termed := by
  refine ⟨fun i => ?_, fun o ho => by cases ho⟩
  have vacant : Blocks.reset.slot i = SlotRec.reset := by simp [Blocks.slot, Blocks.reset, Registry.reset]
  rw [vacant]
  refine And.intro (fun live => ?_) (fun t stored => ?_)
  · cases live
  · cases stored

theorem tick (h : b.Termed) : b.tick.Termed := by
  refine ⟨fun i => ?_, h.orders⟩
  have ticked : b.tick.slot i = (b.slot i).tick := by simp [Blocks.slot, Blocks.tick]
  rw [ticked]
  exact h.slots i

theorem placePass {o : BusOrder} (ho : o.Termed) (h : b.Termed) : (b.placePass o).Termed := by
  refine grant (h.same rfl fun x hx => ?_)
  rw [Blocks.mem_orders] at hx ⊢
  rcases hx with hx | hx | hx | hx
  · exact .inl (.inl hx)
  · exact .inl (.inr (.inl hx))
  · exact .inr (Option.some.inj hx ▸ ho)
  · exact .inl (.inr (.inr (.inr hx)))

/-- What the card answers leaves the orders where they wait. -/
theorem movesTransfer {bus : CardBus} (h : b.Termed) (moves : b.bus.MovesTransfer bus) : Blocks.Termed { b with bus } := by
  obtain ⟨tr, rfl⟩ := moves
  exact h.onBus _ fun _ => id

end Blocks.Termed

/-! ### The owners of the requests -/

section
variable {s : State} (body : List Byte)

theorem ownSetFeeds_termed (h : s.blk.Termed) : (ownSetFeeds body s).1.blk.Termed := by
  unfold ownSetFeeds
  split
  · exact h
  · exact (h.tell _ _ _).settle s.time

theorem ownSetBudget_termed (h : s.blk.Termed) : (ownSetBudget body s).1.blk.Termed := by
  unfold ownSetBudget
  split
  · dsimp only
    split
    · split
      · split
        · exact h
        · exact (h.tell _ _ _).settle s.time
      · exact h
    · exact h
  · exact h

theorem ownSetRelink_termed (h : s.blk.Termed) : (ownSetRelink body s).1.blk.Termed := by
  unfold ownSetRelink
  split
  · split
    · exact h
    next mask _ =>
      have set : ∀ c, (s.blk.relinkSet c mask).Termed := fun _ => ⟨h.1, h.2⟩
      exact (set _).settle s.time
  · exact h

theorem ownLoadSlot_termed (h : s.blk.Termed) : (ownLoadSlot body s).1.blk.Termed := by
  unfold ownLoadSlot
  split
  · exact h
  next i plan _ =>
    split
    · exact h
    · cases plan <;> dsimp only <;> split
      · exact h
      · exact (h.loadPlan i _).settle s.time
      · exact h
      · exact (h.loadPlan i _).settle s.time

theorem ownDrill_termed (h : s.blk.Termed) : (ownDrill body s).1.blk.Termed := by
  have opened : (s.blk.openEpisode s.time .drill s.feed.fmin).Termed := ⟨h.1, h.2⟩
  unfold ownDrill
  split
  · split
    · exact h
    · split
      · exact h
      · split
        · exact h
        · split
          · exact opened.freeze.settle s.time
          · exact (opened.setShelf .settling).settle s.time
  · exact h

theorem ownCreateLink_termed (h : s.blk.Termed) : (ownCreateLink body s).1.blk.Termed := by
  unfold ownCreateLink
  split
  · exact h
  · split
    · exact h
    · exact (h.createLink _).settle s.time

theorem ownRemoveLink_termed (h : s.blk.Termed) : (ownRemoveLink body s).1.blk.Termed := by
  unfold ownRemoveLink
  split
  · exact h
  · split
    · exact h
    · split
      · exact h
      · exact (h.removeLink _).settle s.time

theorem ownRetryLink_termed (h : s.blk.Termed) : (ownRetryLink body s).1.blk.Termed := by
  unfold ownRetryLink
  split
  · exact h
  · split
    · exact h
    · split
      · split
        · exact h
        · split
          · exact h
          · exact (h.modLink _ _).settle s.time
      · exact h

theorem ownSetPort_termed (h : s.blk.Termed) : (ownSetPort body s).1.blk.Termed := by
  unfold ownSetPort
  split
  · split
    · exact (h.setPort _ _ _).settle s.time
    · exact h
  · exact h

/-- R108: a CARD PORTS places an order that reads. -/
theorem ownCardPorts_termed (h : s.blk.Termed) : (ownCardPorts body s).1.blk.Termed := by
  unfold ownCardPorts
  split
  · split
    · split
      · split
        · exact h
        · split
          · exact h.placePass (BusOrder.termed_of_none rfl)
          · exact h
      · exact h
    · exact h
  · exact h

theorem State.slotRequest_termed {f : Blocks → SlotId → Option Blocks} (h : s.blk.Termed)
    (hf : ∀ i c, f s.blk i = some c → c.Termed) : (s.slotRequest body f).1.blk.Termed := by
  unfold State.slotRequest
  split
  · split
    · exact h
    · split
      · exact h
      next c hc => exact (hf _ c hc).settle s.time
  · exact h

theorem ownRequest_termed (kind : Nat) (h : s.blk.Termed) : (ownRequest kind body s).1.blk.Termed := by
  unfold ownRequest
  split
  · exact ownSetFeeds_termed body h
  · exact ownSetBudget_termed body h
  · exact ownSetRelink_termed body h
  · unfold ownSetNotices
    split
    · split <;> exact h
    · exact h
  · exact ownLoadSlot_termed body h
  · unfold ownStartShelf
    split
    · exact Blocks.Termed.settle s.time (h.effect (.startShelf ‹_›))
    · exact h
  · exact ownDrill_termed body h
  · exact h
  · exact h
  · rw [ownGetSlot_blk]; exact h
  · rw [ownGetEpisode_blk]; exact h
  · exact ownCreateLink_termed body h
  · exact ownRemoveLink_termed body h
  · exact ownRetryLink_termed body h
  · rw [ownGetLink_blk]; exact h
  · rw [ownFindLinks_blk]; exact h
  · exact ownSetPort_termed body h
  · rw [ownGetPort_blk]; exact h
  · exact ownCardPorts_termed body h
  · exact State.slotRequest_termed body h fun i c hc => h.restartSlot i hc
  · exact State.slotRequest_termed body h fun i c hc => h.retireSlot i hc
  · exact State.slotRequest_termed body h fun i c hc => h.revertSlot i hc
  · exact h

end

/-! ### The commands -/

section
variable {s : State}

theorem State.takeInHand_termed (h : s.blk.Termed) : s.takeInHand.blk.Termed := by
  unfold State.takeInHand
  split
  · exact h
  next f _ _ =>
    rw [State.deliver_blk, State.answered_blk]
    have judged : (judgeRequest f s).1.blk.Termed := by
      unfold judgeRequest
      split
      · exact h
      · split
        · exact ownRequest_termed _ _ h
        · exact h
    exact ⟨judged.1, judged.2⟩

theorem State.receive_termed (f : Frame) (h : s.blk.Termed) : (s.receive f).blk.Termed := by
  unfold State.receive
  split
  · dsimp only
    split
    · exact State.takeInHand_termed (s := { s with port := _ }) h
    · exact h
  · exact h

theorem State.event_termed {f : Blocks → Blocks} (h : (f s.blk).Termed) : (s.event f).blk.Termed := by
  rw [State.event, State.deliver_blk]
  exact (h.settle s.time).told

theorem State.frameSent_termed (h : s.blk.Termed) : s.frameSent.blk.Termed := by
  have replySent : s.replySent.blk.Termed := by
    unfold State.replySent
    split
    · exact h
    · split
      · exact Blocks.Termed.reset
      · split
        · exact State.takeInHand_termed (s := { s with port := _ }) h
        · exact h
  unfold State.frameSent
  split
  · exact h
  · exact replySent
  · exact h

/-- A choice between two states is one of them. -/
theorem State.ite_termed {p : Prop} [Decidable p] {u v : State} (hu : u.blk.Termed) (hv : v.blk.Termed) :
    (if p then u else v).blk.Termed := by
  split
  · exact hu
  · exact hv

/-- A command that is taken only while the pin is not held. -/
theorem State.running_termed {t : State} {f : State → State} (next : s.running f = .next t) (h : s.blk.Termed)
    (hf : (f s).blk.Termed) : t.blk.Termed := by
  cases next
  exact State.ite_termed h hf

theorem exec_termed {c : Instr} {t : State} (next : exec c s = .next t) (h : s.blk.Termed) : t.blk.Termed := by
  cases c
  case deviceReset => cases next; exact Blocks.Termed.reset
  case resetRelease => cases next; exact State.ite_termed Blocks.Termed.reset h
  case characterReceived c =>
    refine State.running_termed (f := fun s => s.character c) next h ?_
    unfold State.character
    dsimp only
    split
    · exact State.receive_termed (s := { s with port := _ }) _ h
    · exact h
  case lineError =>
    simp only [exec, execLineError] at next
    exact State.running_termed next h (State.ite_termed h h)
  case gapTimerExpiry => exact State.running_termed next h (State.ite_termed h h)
  case frameSent => exact State.running_termed next h (State.frameSent_termed h)
  case feedSample feed v =>
    refine State.running_termed next h (State.ite_termed (State.event_termed (s := { s with feed := _ }) ?_) h)
    have told := h.tell s.time (s.feed.sampled feed v.toNat).1 (s.feed.sampled feed v.toNat).2
    exact told.still (by simp) (by simp) (by simp)
  case armTimerExpiry =>
    exact State.running_termed next h (State.ite_termed (State.event_termed (s := { s with feed := _ }) (h.tell _ _ _)) h)
  case cardAcknowledge =>
    simp only [exec, execCardAcknowledge] at next
    exact State.running_termed next h (h.movesTransfer s.blk.bus.acknowledged_moves)
  case cardHeaderAnswer a =>
    simp only [exec, execCardHeaderAnswer] at next
    exact State.running_termed next h (h.movesTransfer (s.blk.bus.headerAnswered_moves a))
  case cardDataRecord bytes =>
    simp only [exec, execCardDataRecord] at next
    exact State.running_termed next h (h.movesTransfer (s.blk.bus.recordMoved_moves bytes))
  case acknowledgeWithdrawn =>
    simp only [exec, execAcknowledgeWithdrawn] at next
    exact State.running_termed next h (h.movesTransfer s.blk.bus.acknowledgeWithdrawn_moves)
  case cardCompletion code =>
    simp only [exec, execCardCompletion] at next
    exact State.running_termed next h (State.ite_termed (State.event_termed (h.completionGiven _ _)) (h.completionGiven _ _))
  case holdTimerExpiry => exact State.running_termed next h (State.ite_termed (State.event_termed (h.holdExpired _)) h)
  case releaseEnd => exact State.running_termed next h (State.ite_termed (State.event_termed (h.releaseEnded _)) h)
  case phaseTimeoutExpiry => exact State.running_termed next h (State.ite_termed (State.event_termed (h.phaseTimedOut _)) h)
  case attentionRise i =>
    exact State.running_termed next h (State.ite_termed (State.event_termed (h.modSlot i fun _ h => by exact h)) h)
  case returnDeadlineExpiry i => exact State.running_termed next h (State.ite_termed (State.event_termed (h.lose i _)) h)
  case rampTimerExpiry i => exact State.running_termed next h (State.ite_termed (State.event_termed (h.rampExpired i)) h)
  case darkTimerExpiry i => exact State.running_termed next h (State.ite_termed (State.event_termed (h.darkExpired i)) h)
  case switchTrip i =>
    exact State.running_termed next h (State.ite_termed (State.event_termed (((h.modPower i _).openSwitch i).lose i _)) h)
  all_goals
    rw [exec_request rfl] at next
    exact State.running_termed next h (State.receive_termed _ h)

end

/-- Settles O59: a slot becomes LIVE with its term stored, by an intact card or by the SET TERM it was given, and the one order
that carries a term carries the next term of its slot; so every case of a step keeps the law. -/
theorem everyStepKeepsTheTermLaw : Obligations.EveryStepKeepsTheTermLaw := by
  unfold Obligations.EveryStepKeepsTheTermLaw
  intro s t law next
  rw [← Blocks.termed_iff] at law ⊢
  unfold step at next
  split at next
  · cases next
    exact State.ite_termed law law.tick
  next c rest _ => exact exec_termed (s := { s with pending := rest }) next law

end Sys2Proof.Machine
end

section
/-! SUPPORT. What the judgements at the end of an event leave of a slot: the lasting fields of every record, and the state and
the power of a slot at rest. -/

namespace Sys2Proof.Machine

/-! ### One slot record -/

/-- The fields of a slot record that the end of an event does not move. -/
def SlotRec.lasting (r : SlotRec) : Option Plan × Option Nat × Bool × Option SlotId × Option LossReason × Bool :=
  (r.plan, r.storedTerm, r.attention, r.coveredSlot, r.coverReason, r.revertMark)

/-- The fields of a slot record that the end of an event moves for a slot in service, or on its way there, alone. -/
def SlotRec.shown (r : SlotRec) : SlotState × Option LossReason × Option Identification × Option Identity :=
  (r.state, r.lostReason, r.latestId, r.identity)

/-- The fields of a slot record that a change of its state does not move. -/
def SlotRec.enduring (r : SlotRec) :=
  (r.lasting, r.coverLoad, r.writeSet, r.clearWanted)

/-- What the end of an event may do to a slot record: the lasting fields stay, and what is absent or empty stays so. -/
structure SlotRec.Settles (r r' : SlotRec) : Prop where
  lasting : r'.lasting = r.lasting
  unloaded : r.coverLoad = none → r'.coverLoad = none
  unwritten : r.writeSet = [] → r'.writeSet = []
  unwanted : r.clearWanted = false → r'.clearWanted = false

theorem SlotRec.Settles.of_enduring {r r' : SlotRec} (h : r'.enduring = r.enduring) : r.Settles r' := by
  simp only [SlotRec.enduring, Prod.mk.injEq] at h
  obtain ⟨lasting, coverLoad, writeSet, clearWanted⟩ := h
  exact ⟨lasting, coverLoad.trans, writeSet.trans, clearWanted.trans⟩

theorem SlotRec.Settles.refl (r : SlotRec) : r.Settles r := .of_enduring rfl

theorem SlotRec.Settles.trans {r r' r'' : SlotRec} (h : r.Settles r') (h' : r'.Settles r'') : r.Settles r'' :=
  ⟨h'.lasting.trans h.lasting, fun x => h'.unloaded (h.unloaded x), fun x => h'.unwritten (h.unwritten x),
    fun x => h'.unwanted (h.unwanted x)⟩

/-! ### A slot at rest, and the blocks of the shelf -/

/-- The slot is in a state that the end of an event does not take it from: its switch open, and not to be admitted. -/
def Blocks.AtRest (b : Blocks) (i : SlotId) : Prop :=
  (b.slot i).state ∈ [SlotState.vacant, .off, .dark, .lost] ∧ (b.powerRec i).closed = false ∧ i ∉ b.power.queue

/-- What the end of an event leaves of the slots. -/
structure Blocks.SettlesTo (b c : Blocks) : Prop where
  recs : ∀ i, (b.slot i).Settles (c.slot i)
  rests : ∀ i, b.AtRest i → c.AtRest i ∧ (c.slot i).shown = (b.slot i).shown ∧ c.powerRec i = b.powerRec i
    ∧ ((b.slot i).deadline = none → (c.slot i).deadline = none)

namespace Blocks.SettlesTo

variable {b c : Blocks}

theorem refl (b : Blocks) : b.SettlesTo b := ⟨fun _ => .refl _, fun _ rest => ⟨rest, rfl, rfl, id⟩⟩

/-- A slot that is not at rest may change its state; every other slot stays. -/
theorem moved {d : Blocks} {j : SlotId} (h : b.SettlesTo c) (busy : ¬b.AtRest j) (own : (c.slot j).Settles (d.slot j))
    (others : ∀ i, i ≠ j → d.slot i = c.slot i) (power : ∀ i, i ≠ j → d.powerRec i = c.powerRec i)
    (queue : ∀ i ∈ d.power.queue, i ∈ c.power.queue) : b.SettlesTo d := by
  refine ⟨fun i => ?_, fun i rest => ?_⟩
  · by_cases hi : i = j
    · subst hi; exact (h.recs i).trans own
    · rw [others i hi]; exact h.recs i
  · obtain ⟨still, shown, rec, stopped⟩ := h.rests i rest
    have hi : i ≠ j := fun e => busy (e ▸ rest)
    obtain ⟨state, opened, out⟩ := still
    rw [AtRest, others i hi, power i hi]
    exact ⟨⟨state, opened, fun hq => out (queue i hq)⟩, shown, rec, stopped⟩

/-- A record changes, and shows of its slot what it showed. -/
theorem modSlot {f : SlotRec → SlotRec} (j : SlotId) (h : b.SettlesTo c) (settles : ∀ r : SlotRec, r.Settles (f r))
    (shown : ∀ r : SlotRec, (f r).shown = r.shown ∧ (r.deadline = none → (f r).deadline = none)) : b.SettlesTo (c.modSlot j f) := by
  refine ⟨fun i => ?_, fun i rest => ?_⟩
  · by_cases hi : i = j
    · subst hi; rw [Blocks.slot_modSlot_same]; exact (h.recs i).trans (settles _)
    · rw [Blocks.slot_modSlot_other _ _ _ _ hi]; exact h.recs i
  · obtain ⟨⟨state, opened, out⟩, same, rec, stopped⟩ := h.rests i rest
    by_cases hi : i = j
    · subst hi
      obtain ⟨kept, still⟩ := shown (c.slot i)
      rw [AtRest, Blocks.slot_modSlot_same]
      have keeps : (f (c.slot i)).state = (c.slot i).state := congrArg Prod.fst kept
      exact ⟨⟨keeps ▸ state, opened, out⟩, kept.trans same, rec, fun h => still (stopped h)⟩
    · rw [AtRest, Blocks.slot_modSlot_other _ _ _ _ hi]
      exact ⟨⟨state, opened, out⟩, same, rec, stopped⟩

/-- Neither the registry nor the power sequencer moves. -/
theorem same {d : Blocks} (h : b.SettlesTo c) (reg : d.reg = c.reg) (power : d.power = c.power) : b.SettlesTo d := by
  refine ⟨fun i => Blocks.slot_congr reg i ▸ h.recs i, fun i rest => ?_⟩
  rw [AtRest, Blocks.slot_congr reg i, Blocks.powerRec_congr power, power]
  exact h.rests i rest

theorem sameSlots {d : Blocks} (h : b.SettlesTo c) (slots : d.reg.slots = c.reg.slots) (power : d.power = c.power) :
    b.SettlesTo d := by
  have slot : ∀ i, d.slot i = c.slot i := fun i => by rw [Blocks.slot, slots]; rfl
  refine ⟨fun i => slot i ▸ h.recs i, fun i rest => ?_⟩
  rw [AtRest, slot, Blocks.powerRec_congr power, power]
  exact h.rests i rest

theorem ite {q : Prop} [Decidable q] {x y : Blocks} (hx : b.SettlesTo x) (hy : b.SettlesTo y) :
    b.SettlesTo (if q then x else y) := by
  split
  · exact hx
  · exact hy

theorem foldl {α : Type} {f : Blocks → α → Blocks} (hf : ∀ c x, b.SettlesTo c → b.SettlesTo (f c x)) (xs : List α)
    (h : b.SettlesTo c) : b.SettlesTo (xs.foldl f c) := by
  induction xs generalizing c with
  | nil => exact h
  | cons x xs ih => exact ih (hf c x h)

theorem tally (f : Episode → Episode) (h : b.SettlesTo c) : b.SettlesTo (c.tally f) := h.same rfl rfl

theorem setShelf (st : ShelfState) (h : b.SettlesTo c) : b.SettlesTo (c.setShelf st) := h.same rfl rfl

theorem onBus (bus : CardBus) (h : b.SettlesTo c) : b.SettlesTo { c with bus } := h.same rfl rfl

theorem modPort (i : SlotId) (p : Fin 32) (f : PortRec → PortRec) (h : b.SettlesTo c) : b.SettlesTo (c.modPort i p f) :=
  h.sameSlots rfl rfl

/-! ### Slot states and switches -/

/-- A slot in a state in which something is to be done was not at rest. -/
theorem busy_of_state {j : SlotId} (h : b.SettlesTo c) (state : (c.slot j).state ∉ [SlotState.vacant, .off, .dark, .lost]) :
    ¬b.AtRest j := fun rest => state (h.rests j rest).1.1

/-- A slot with power, or to be admitted, was not at rest. -/
theorem busy_of_power {j : SlotId} (h : b.SettlesTo c) (power : (c.powerRec j).closed = true ∨ j ∈ c.power.queue) :
    ¬b.AtRest j := by
  intro rest
  obtain ⟨-, opened, out⟩ := (h.rests j rest).1
  rcases power with closed | queued
  · rw [opened] at closed; cases closed
  · exact out queued

/-- R83: a slot that is not at rest changes its state. -/
theorem changeState {j : SlotId} (st : SlotState) (h : b.SettlesTo c) (busy : ¬b.AtRest j) : b.SettlesTo (c.changeState j st) :=
  h.moved busy (.of_enduring (Blocks.changeState_keeps SlotRec.enduring (fun _ _ => rfl) (fun _ _ => rfl) c j j st))
    (fun _ hi => Blocks.changeState_other c st hi) (fun _ _ => Blocks.powerRec_congr (by simp) _) (fun i hi => by simpa using hi)

/-- R113: a COVERED slot whose spare leaves LIVE. -/
theorem spareLeftLive (j : SlotId) (h : b.SettlesTo c) : b.SettlesTo (c.spareLeftLive j) := by
  unfold Blocks.spareLeftLive
  split
  · exact h
  next s _ =>
    split
    next covered =>
      have busy : ¬b.AtRest s := h.busy_of_state (by rw [covered]; decide)
      refine tally _ (h.moved busy (.of_enduring ?_) (fun i hi => ?_) (fun i _ => Blocks.powerRec_congr (by simp) _)
        (fun i hi => by simpa using hi))
      · rw [Blocks.changeState_keeps SlotRec.enduring (fun _ _ => rfl) (fun _ _ => rfl), Blocks.slot_modSlot_same]
        rfl
      · rw [Blocks.changeState_other _ _ hi, Blocks.slot_modSlot_other _ _ _ _ hi]
    · exact h

/-- R83, R113: a slot that is not at rest enters a state other than LIVE. -/
theorem enterState {j : SlotId} {st : SlotState} (hst : st ≠ .live) (h : b.SettlesTo c) (busy : ¬b.AtRest j) :
    b.SettlesTo (c.enterState j st) := by
  rw [Blocks.enterState_away hst]
  exact ite ((h.changeState st busy).spareLeftLive j) (h.changeState st busy)

theorem startDeadline {j : SlotId} (h : b.SettlesTo c) (busy : ¬b.AtRest j) : b.SettlesTo (c.startDeadline j) :=
  h.moved busy (.of_enduring (Blocks.modSlot_keeps SlotRec.enduring c j j fun _ => rfl))
    (fun _ hi => Blocks.slot_modSlot_other _ _ _ _ hi) (fun _ _ => rfl) (fun _ hi => hi)

/-- R137: the shed request. -/
theorem powerShed {j : SlotId} (h : b.SettlesTo c) (busy : ¬b.AtRest j) : b.SettlesTo (c.powerShed j) := by
  refine h.moved busy ?_ (fun _ => Blocks.powerShed_other) (fun _ => Blocks.powerShed_rec_other) fun i hi => ?_
  · rw [Blocks.powerShed_own]
    exact ⟨rfl, id, fun empty => by split <;> [rfl; exact empty], id⟩
  · rw [Blocks.powerShed_power] at hi
    exact List.mem_of_mem_filter hi

/-! ### Admission (R139, R140) -/

theorem admitSlot {j : SlotId} (h : b.SettlesTo c) (busy : ¬b.AtRest j) : b.SettlesTo (c.admitSlot j) := by
  unfold Blocks.admitSlot
  split
  · exact h
  next p _ =>
    have closed : b.SettlesTo ((c.leaveAdmission j).modPower j
        (fun r => { r with closed := true, charge := p.inrush, ramp := some p.rampTime })) :=
      h.moved busy (.refl _) (fun _ _ => rfl) (fun _ hi => Blocks.powerRec_modPower_other _ _ _ _ hi)
        fun _ hi => List.mem_of_mem_filter hi
    exact ite ((closed.enterState (by decide) busy).startDeadline busy) closed

theorem judgeAdmission (h : b.SettlesTo c) : b.SettlesTo c.judgeAdmission := by
  suffices loop : ∀ n (c : Blocks), b.SettlesTo c → b.SettlesTo (Blocks.admitLoop n c) from loop 16 c h
  intro n
  induction n with
  | zero => exact fun _ h => h
  | succ n ih =>
    intro c h
    unfold Blocks.admitLoop
    split
    next j hj => exact ih _ (h.admitSlot (h.busy_of_power (.inr (Blocks.admissible_mem hj))))
    · exact h

/-! ### The freeze and the recovery (R55, R62) -/

theorem freezeSlot (j : SlotId) (h : b.SettlesTo c) : b.SettlesTo (c.freezeSlot j) := by
  unfold Blocks.freezeSlot
  split
  · exact h
  · split
    · split
      next powered =>
        have busy := h.busy_of_power powered
        exact (h.powerShed busy).enterState (by decide) busy
      · exact h
    · split
      next serves =>
        exact h.enterState (by decide) (h.busy_of_state fun rest => by
          revert serves rest
          cases (c.slot j).state <;> decide)
      · exact h

theorem recoverSlot (j : SlotId) (h : b.SettlesTo c) : b.SettlesTo (c.recoverSlot j) := by
  unfold Blocks.recoverSlot
  split
  next held =>
    have busy := h.busy_of_state (j := j) (by rw [held]; decide)
    exact (h.enterState (by decide) busy).startDeadline busy
  next ramping => exact h.startDeadline (h.busy_of_state (by rw [ramping]; decide))
  · exact h

theorem recover (h : b.SettlesTo c) : b.SettlesTo c.recover :=
  foldl (fun _ j h => h.recoverSlot j) _ ((h.onBus { c.bus with paused := false }).setShelf .recovering)

theorem endRegistryOrders (h : b.SettlesTo c) : b.SettlesTo c.endRegistryOrders := by
  refine foldl (fun c j h => ?_) _ h
  exact h.modSlot j (fun _ => .of_enduring rfl) fun _ => ⟨rfl, id⟩

theorem stopDeadlines (h : b.SettlesTo c) : b.SettlesTo c.stopDeadlines := by
  refine foldl (fun c j h => ?_) _ h
  exact h.modSlot j (fun _ => .of_enduring rfl) fun _ => ⟨rfl, fun _ => rfl⟩

theorem freeze (h : b.SettlesTo c) : b.SettlesTo c.freeze := by
  have orders : b.SettlesTo c.cutBus.endRegistryOrders := (h.same (d := c.cutBus) (by simp) (by simp)).endRegistryOrders
  have links := orders.same (d := c.cutBus.endRegistryOrders.freezeLinks) (by simp) (by simp)
  have stopped := (foldl (fun _ j h => h.freezeSlot j) allSlots links).stopDeadlines
  unfold Blocks.freeze
  dsimp only
  split
  · exact ((stopped.tally _).setShelf .holdup).recover
  · exact (stopped.tally _).setShelf .holdup

/-! ### The end of an event -/

theorem judgeEngine (t : Nat) (h : b.SettlesTo c) : b.SettlesTo (c.judgeEngine t) := h.same (by simp) (by simp)

theorem judgeSettled (t : Nat) (h : b.SettlesTo c) : b.SettlesTo (c.judgeSettled t) := ite (h.freeze.judgeEngine t) h

theorem judgeClose (t : Nat) (h : b.SettlesTo c) : b.SettlesTo (c.judgeClose t) := h.same (by simp) (by simp)

theorem finishCoverLoads (h : b.SettlesTo c) : b.SettlesTo c.finishCoverLoads := by
  refine foldl (fun c j h => ?_) _ h
  exact ite (h.modSlot j (fun _ => ⟨rfl, fun none => by simp [none], id, id⟩) fun _ => ⟨rfl, id⟩) h

/-- R83: the placement of an order. -/
theorem notePlacement (j : SlotId) (o : BusOrder) (h : b.SettlesTo c) : b.SettlesTo (c.notePlacement j o) := by
  have placed : b.SettlesTo (c.modSlot j fun r => { r with order := some { code := o.code, abandoned := false } }) :=
    h.modSlot j (fun _ => .of_enduring rfl) fun _ => ⟨rfl, id⟩
  have tests : ∀ {d : Blocks} (s : SlotId), b.SettlesTo d → b.SettlesTo (d.resetHeldTests s) := fun s h =>
    foldl (fun _ p h => h.modPort s p _) _ h
  unfold Blocks.notePlacement
  dsimp only
  split
  · have served := placed.modSlot j (f := fun r => { r with
        writeSet := r.writeSet.filter (fun p => !(decide (o.first ≤ p.val) && decide (p.val < o.first + o.count))) })
      (fun r => ⟨rfl, id, fun empty => by simp [empty], id⟩) fun _ => ⟨rfl, id⟩
    split
    · exact ite (tests _ served) served
    · exact served
  · exact placed.modSlot j (fun _ => .of_enduring rfl) fun _ => ⟨rfl, id⟩
  · exact placed.modSlot j (fun _ => ⟨rfl, id, id, fun _ => rfl⟩) fun _ => ⟨rfl, id⟩
  · exact placed

theorem placeRegistry (h : b.SettlesTo c) : b.SettlesTo c.placeRegistry := by
  refine foldl (fun c j h => ?_) _ h
  unfold Blocks.placeWanted
  split
  · exact h
  next o _ => exact (h.onBus { c.bus with registryQueue := c.bus.registryQueue ++ [o] }).notePlacement j o

theorem placeBacklog (h : b.SettlesTo c) : b.SettlesTo c.placeBacklog := h.same (by simp) (by simp)

theorem grant (h : b.SettlesTo c) : b.SettlesTo c.grant := h.same (by simp) (by simp)

theorem settle (t : Nat) (h : b.SettlesTo c) : b.SettlesTo (c.settle t) := by
  have engine := h.finishCoverLoads.judgeEngine t
  have stood : b.SettlesTo (Blocks.judgeEngine t c.finishCoverLoads).standDown := engine.same (by simp) (by simp)
  have admitted := (stood.judgeSettled t).judgeAdmission
  exact (admitted.judgeClose t).placeRegistry.placeBacklog.grant

end Blocks.SettlesTo

/-- What an event leaves of the slots after its effect. -/
theorem State.event_settles (s : State) (f : Blocks → Blocks) : (f s.blk).SettlesTo (s.event f).blk := by
  obtain ⟨-, -, -, -, blk⟩ := s.event_frame f
  rw [blk]
  exact ((Blocks.SettlesTo.refl _).settle s.time).same (Blocks.told_frame _).1 (Blocks.told_frame _).2.1

end Sys2Proof.Machine
end

section
/-! CERTIFICATE. The attention of a LIVE slot (R91), and what a change of a slot's state does to its order and its record (R78, R79,
R83, R150). -/

namespace Sys2Proof.Machine

/-! ### The order and the record under a change of state -/

/-- R83, R161: the slot's order is on the bus, and no cut has taken its transfer. -/
theorem Blocks.onBus_iff {b : Blocks} {i : SlotId} : b.onBus i = true ↔
    (∃ o, b.bus.registryQueue.head? = some o ∧ o.slot = i)
      ∧ ∃ tr, b.bus.transfer = some tr ∧ tr.requester = .registry ∧ tr.phase ≠ .release .cut := by
  unfold Blocks.onBus
  cases b.bus.transfer <;> simp [Option.any_eq_true, and_comm]

section
variable {b : Blocks} {i : SlotId} {o : RegistryOrder}

theorem Blocks.abandonOrder_carried (order : (b.slot i).order = some o) (carried : b.onBus i = true) :
    b.abandonOrder i = b.modSlot i (fun r => { r with order := some { o with abandoned := true } }) := by
  unfold Blocks.abandonOrder
  rw [order]
  exact if_pos carried

theorem Blocks.abandonOrder_withdrawn (order : (b.slot i).order = some o) (waits : b.onBus i = false) :
    b.abandonOrder i = { b with bus := b.bus.withdrawRegistry i }.modSlot i (fun r => { r with order := none }) := by
  unfold Blocks.abandonOrder
  rw [order]
  exact if_neg (by simp [waits])

/-- R79: the switch is closed in these states. -/
theorem SlotState.powered_iff {st : SlotState} :
    st.powered = true ↔ st ∈ [SlotState.ramping, .held, .identifying, .loading, .live] := by
  cases st <;> decide

/-- R79: the return deadline may run in these states. -/
theorem SlotState.timed_iff {st : SlotState} : st.timed = true ↔ st ∈ [SlotState.ramping, .identifying, .loading] := by
  cases st <;> decide

/-- R78, R79: the record in its new state. -/
theorem SlotRec.enter_eq (r : SlotRec) (st : SlotState) : r.enter st = { r with
    state := st
    lostReason := if st = .lost then r.lostReason else none
    latestId := if st ∈ [SlotState.ramping, .held, .identifying, .loading, .live] ∧ st ≠ .held then r.latestId else none
    identity := if st ∈ [SlotState.ramping, .held, .identifying, .loading, .live] then r.identity else none
    deadline := if st ∈ [SlotState.ramping, .identifying, .loading] then r.deadline else none
    loading := if st = .loading then r.loading else none
    readBuffer := if st = .loading then r.readBuffer else [] } := by
  simp only [SlotRec.enter, SlotState.powered_iff, SlotState.timed_iff, Bool.and_eq_true, bne_iff_ne]

theorem Blocks.changeState_moves {st : SlotState} (h : (b.slot i).state ≠ st) : b.changeState i st =
    ((b.abandonOrder i).modSlot i (fun r => r.enter st)).raise
      (.slotState i (b.slot i).state st (((b.abandonOrder i).modSlot i (fun r => r.enter st)).slot i).lostReason) :=
  if_neg h

end

/-! ### A LIVE slot at the end of an event -/

section
variable {b : Blocks} {i j : SlotId}

/-- R139: admission moves QUEUED slots alone. -/
theorem Blocks.admitSlot_live (live : (b.slot i).state = .live) (j : SlotId) : (b.admitSlot j).slot i = b.slot i := by
  unfold Blocks.admitSlot
  split
  · rfl
  · dsimp only
    split
    next queued =>
      have hi : i ≠ j := by
        rintro rfl
        cases live.symm.trans queued
      rw [Blocks.startDeadline, Blocks.slot_modSlot_other _ _ _ _ hi, Blocks.enterState_away (by decide),
        if_neg (by rw [queued]; decide), Blocks.changeState_other _ _ hi]
      rfl
    · rfl

theorem Blocks.judgeAdmission_live (live : (b.slot i).state = .live) : b.judgeAdmission.slot i = b.slot i := by
  suffices loop : ∀ n (c : Blocks), c.slot i = b.slot i → (Blocks.admitLoop n c).slot i = b.slot i from loop 16 b rfl
  intro n
  induction n with
  | zero => exact fun _ h => h
  | succ n ih =>
    intro c h
    unfold Blocks.admitLoop
    split
    · exact ih _ ((Blocks.admitSlot_live (h ▸ live) _).trans h)
    · exact h

/-! ### The placement of one order -/

theorem Blocks.slot_resetHeldTests (b : Blocks) (s j : SlotId) : (b.resetHeldTests s).slot j = b.slot j :=
  foldl_keeps (f := fun b p => b.modPort s p (fun r => { r with test := .normal })) (fun b => b.slot j) (fun _ _ => rfl) _ b

theorem Blocks.slot_testsReset (p : Prop) [Decidable p] (b : Blocks) (s j : SlotId) :
    (if p then b.resetHeldTests s else b).slot j = b.slot j := by
  split
  · exact Blocks.slot_resetHeldTests ..
  · rfl

theorem Blocks.notePlacement_other (o : BusOrder) (hj : j ≠ i) : (b.notePlacement i o).slot j = b.slot j := by
  have other : ∀ (c : Blocks) f, (c.modSlot i f).slot j = c.slot j := fun c f => Blocks.slot_modSlot_other _ _ _ _ hj
  unfold Blocks.notePlacement
  dsimp only
  split
  · split
    · rw [Blocks.slot_testsReset, other, other]
    · rw [other, other]
  · rw [other, other]
  · rw [other, other]
  · rw [other]

theorem Blocks.placeWanted_other (hj : j ≠ i) : (b.placeWanted i).slot j = b.slot j := by
  unfold Blocks.placeWanted
  split
  · rfl
  · exact Blocks.notePlacement_other (b := { b with bus := _ }) _ hj

theorem Blocks.placeWanted_waits {o : BusOrder} (h : o ∈ b.bus.registryQueue) : o ∈ (b.placeWanted i).bus.registryQueue := by
  unfold Blocks.placeWanted
  split
  · exact h
  · rw [(Blocks.notePlacement_frame _ _ _).2.1]
    exact List.mem_append_left _ h

/-- R83: a slot with an order outstanding has none placed. -/
theorem Blocks.placeWanted_ordered (h : (b.slot i).order.isSome = true) : b.placeWanted i = b := by
  have none : b.wanted i = none := if_pos h
  unfold Blocks.placeWanted
  rw [none]

/-- R91: the IDENTIFY of a LIVE slot whose attention is pending. -/
theorem Blocks.placeWanted_attention (live : (b.slot i).state = .live) (pending : (b.slot i).attention = true)
    (idle : (b.slot i).order = none) :
    b.placeWanted i = { b with bus := { b.bus with registryQueue := b.bus.registryQueue ++ [plainOrder i .identify [] .identify] }
      }.modSlot i (fun r => { r with order := some { code := .identify, abandoned := false } }) := by
  have wanted : b.wanted i = some (plainOrder i .identify [] .identify) := by
    simp [Blocks.wanted, idle, live, Blocks.liveOrder, pending]
  unfold Blocks.placeWanted
  rw [wanted]
  rfl

/-- R91: the slot's order as it is to be, with the IDENTIFY in the registry queue where none was outstanding. -/
def Blocks.Answered (b : Blocks) (i : SlotId) (before : Option RegistryOrder) : Prop :=
  (b.slot i).order = some (before.getD { code := .identify, abandoned := false })
    ∧ (before = none → plainOrder i .identify [] .identify ∈ b.bus.registryQueue)

theorem Blocks.placeRegistry_attention (live : (b.slot i).state = .live) (pending : (b.slot i).attention = true) :
    b.placeRegistry.Answered i (b.slot i).order := by
  have taken : ∀ done (c : Blocks) (j : SlotId), j ∉ done →
      (if i ∈ done then c.Answered i (b.slot i).order else c.slot i = b.slot i) →
      if i ∈ done ++ [j] then (c.placeWanted j).Answered i (b.slot i).order else (c.placeWanted j).slot i = b.slot i := by
    intro done c j fresh h
    by_cases hi : i = j
    · subst hi
      rw [if_neg fresh] at h
      rw [if_pos (by simp)]
      cases order : (b.slot i).order with
      | some o =>
        rw [Blocks.placeWanted_ordered (by rw [h, order]; rfl)]
        exact ⟨by rw [h, order]; rfl, nofun⟩
      | none =>
        rw [Blocks.placeWanted_attention (h ▸ live) (h ▸ pending) (h ▸ order)]
        exact ⟨by rw [Blocks.slot_modSlot_same]; rfl, fun _ => List.mem_append_right _ (List.mem_singleton_self _)⟩
    · have other := Blocks.placeWanted_other (b := c) hi
      simp only [List.mem_append, List.mem_singleton, hi, or_false]
      split
      next past =>
        rw [if_pos past] at h
        exact ⟨by rw [other]; exact h.1, fun none => Blocks.placeWanted_waits (h.2 none)⟩
      next ahead =>
        rw [if_neg ahead] at h
        exact other.trans h
  have all := foldl_done (P := fun done (c : Blocks) =>
    if i ∈ done then c.Answered i (b.slot i).order else c.slot i = b.slot i) taken allSlots_nodup (b := b) (by simp)
  rwa [if_pos (mem_allSlots i)] at all

end

end Sys2Proof.Machine
end

section
/-! CERTIFICATE. A rising attention line (R91): the IDENTIFY it brings, and the link in flight that keeps a SETTLING shelf from its
freeze (R51, R54). -/

namespace Sys2Proof.Machine

/-! ### A link on its way keeps its entry -/

/-- R22: the link is in flight and on its way, not refused and with no removal requested. -/
def Blocks.UnderWay (b : Blocks) (id : Nat) : Prop :=
  ∃ f l, b.entry id = some f ∧ b.link id = some l ∧ f.refused = false ∧ l.removal = false
    ∧ (l.state = .verifying ∨ l.state = .preparing ∨ l.state = .activating)

namespace Blocks.UnderWay

variable {b : Blocks} {id : Nat}

theorem keeps {c : Blocks} (h : b.UnderWay id) (entry : c.entry id = b.entry id) (link : c.link id = b.link id) :
    c.UnderWay id := by
  unfold Blocks.UnderWay
  rw [entry, link]
  exact h

theorem same {c : Blocks} (h : b.UnderWay id) (engine : c.engine = b.engine) (store : c.store = b.store) : c.UnderWay id :=
  h.keeps (by rw [Blocks.entry, engine]; rfl) (Blocks.link_congr store id)

theorem foldl {α : Type} {f : Blocks → α → Blocks} (hf : ∀ b x, b.UnderWay id → (f b x).UnderWay id) (xs : List α)
    (h : b.UnderWay id) : (xs.foldl f b).UnderWay id := by
  induction xs generalizing b with
  | nil => exact h
  | cons x xs ih => exact ih (hf b x h)

/-- R22: the in-flight set of a link on its way is not empty. -/
theorem nonempty (h : b.UnderWay id) : b.engine.inFlight ≠ [] := by
  obtain ⟨f, -, entry, -⟩ := h
  exact List.ne_nil_of_mem (Blocks.entry_mem entry).1

theorem flagPass (h : b.UnderWay id) : b.flagPass.UnderWay id := by
  have ⟨_, l, _, link, _, kept, _⟩ := h
  have leaves := Blocks.flags_leavesLink (ids := b.engine.inFlight.map InFlight.link) link (.inr (.inl kept))
  exact h.keeps leaves.entry leaves.link

theorem defer {x : Nat} (t : Nat) (reason : DeferReason) (hx : id ≠ x) (h : b.UnderWay id) : (b.defer t x reason).UnderWay id :=
  h.keeps (Blocks.entry_defer_other t reason hx) (Blocks.link_defer_other t reason hx)

/-- R36: a link that is not refused is on no refusal path. -/
theorem refuse (t x : Nat) (h : b.UnderWay id) : (Blocks.refuse t b x).UnderWay id := by
  by_cases hx : id = x
  · subst hx
    have ⟨f, l, entry, link, free, _⟩ := h
    have idle := (Blocks.refuse_judged t b id f l entry link).1 fun ⟨refused, _⟩ => by rw [free] at refused; cases refused
    rw [idle]
    exact h
  · unfold Blocks.refuse
    split
    · split
      · split
        · exact h.defer t _ hx
        · split
          · exact h
          · exact h.keeps (Blocks.entry_modEntry_other (fun _ => rfl) hx) rfl
      · exact h
    · exact h

theorem decideDetach (l : Link) (e : LinkEnd) (h : b.UnderWay id) : (b.decideDetach l e).UnderWay id := by
  unfold Blocks.decideDetach
  split
  · exact h.keeps rfl rfl
  · exact h

/-- R43: a link on its way is not RELEASING. -/
theorem releaseOne (x : Nat) (h : b.UnderWay id) : (b.releaseOne x).UnderWay id := by
  unfold Blocks.releaseOne
  split
  · exact h
  next l hl =>
    split
    next releasing =>
      have hx : id ≠ x := by
        rintro rfl
        obtain ⟨_, l', _, link, _, _, state⟩ := h
        rw [hl, Option.some.injEq] at link
        rw [← link, releasing] at state
        simp at state
      split
      · exact h.keeps rfl ((LinkStore.find_delete _ _ _).trans (if_neg hx))
      · exact (h.decideDetach l .a).decideDetach l .b
    · exact h

/-- R27: a start brings its own entry behind those there are. -/
theorem start (c : Start) (h : b.UnderWay id) : (b.start c).UnderWay id := by
  cases hl : b.link c.id with
  | none => unfold Blocks.start; rw [hl]; exact h
  | some m =>
    obtain ⟨moved, -, own, others⟩ := Blocks.start_some hl
    obtain ⟨f, l, entry, link, free, kept, state⟩ := h
    have entry' : (b.start c).entry id = some f := by
      rw [moved, Blocks.entry, List.find?_append]
      rw [Blocks.entry] at entry
      rw [entry]
      rfl
    by_cases hc : id = c.id
    · subst hc
      obtain rfl := Option.some.inj (hl.symm.trans link)
      refine ⟨f, _, entry', own, free, kept, ?_⟩
      cases hs : c.survey <;> simp [Link.started, hs]
    · exact ⟨f, l, entry', (others id hc).trans link, free, kept, state⟩

theorem startRule (h : b.UnderWay id) : b.startRule.UnderWay id := by
  suffices loop : ∀ n (b : Blocks), b.UnderWay id → (Blocks.startLoop n b).UnderWay id by
    unfold Blocks.startRule
    split
    · exact loop 8 b h
    · exact h
  intro n
  induction n with
  | zero => exact fun _ h => h
  | succ n ih =>
    intro b h
    unfold Blocks.startLoop
    split
    · split
      · exact ih _ (h.start _)
      · exact h
    · exact h

theorem activateReady (h : b.UnderWay id) : b.activateReady.UnderWay id := by
  have ⟨_, l, _, link, _, _, state⟩ := h
  obtain ⟨link', entry'⟩ := Blocks.activateReady_idle link fun ⟨ready, _⟩ => by simp [ready] at state
  exact h.keeps entry' (link'.trans link.symm)

/-- R34: the head that is deferred is PENDING or SUSPECT. -/
theorem judgeHead (t n : Nat) (h : b.UnderWay id) : (Blocks.judgeHead t n b).UnderWay id := by
  induction n generalizing b with
  | zero => exact h
  | succ n ih =>
    have ready := h.startRule.activateReady
    cases due : b.startRule.activateReady.holdDue with
    | none => rw [Blocks.judgeHead_idle due]; exact ready.keeps rfl rfl
    | some x =>
      have hx : id ≠ x := by
        rintro rfl
        obtain ⟨-, l, -, -, hl, rests, -⟩ := Blocks.holdDue_some due
        obtain ⟨_, l', _, link, _, _, state⟩ := ready
        rw [hl, Option.some.injEq] at link
        rw [← link] at state
        rcases rests with rests | rests <;> simp [rests] at state
      rw [Blocks.judgeHead_due due]
      split
      · exact ready
      · split
        · exact ih (defer t .hold hx (ready.keeps rfl rfl))
        · exact ready.keeps rfl rfl

theorem judgeEngine (t : Nat) (h : b.UnderWay id) : (b.judgeEngine t).UnderWay id := by
  have refused : (b.flagPass.refusalPass t).UnderWay id := foldl (fun _ x h => h.refuse t x) _ h.flagPass
  have released : (b.flagPass.refusalPass t).releasePass.UnderWay id := foldl (fun _ x h => h.releaseOne x) _ refused
  exact released.judgeHead t _

/-- R51: READY links alone are stood down. -/
theorem standDown (h : b.UnderWay id) : b.standDown.UnderWay id := by
  unfold Blocks.standDown
  split
  · refine foldl (fun b x h => ?_) _ h
    split
    next ready =>
      have hx : id ≠ x := by
        rintro rfl
        obtain ⟨_, l, _, link, _, _, state⟩ := h
        simp only [link, Option.any_some, Bool.and_eq_true, beq_iff_eq] at ready
        rw [ready.1.1] at state
        simp at state
      exact h.keeps (Blocks.entry_leaveInFlight_other hx) (Blocks.link_setLinkState_other (b := b.leaveInFlight x) _ hx)
    · exact h
  · exact h

end Blocks.UnderWay

/-! ### The end of an event that brings no freeze -/

/-- What R91 reads of a slot record. -/
def SlotRec.calls (r : SlotRec) : SlotState × Bool × Option RegistryOrder := (r.state, r.attention, r.order)

/-- R51, R54: the end of an event that brings no freeze. -/
theorem Blocks.settle_thawed {b : Blocks} (t : Nat)
    (goesOn : b.ep.shelf ≠ .settling ∨ (Blocks.judgeEngine t b.finishCoverLoads).standDown.engine.inFlight ≠ []) :
    b.settle t = ((Blocks.judgeEngine t b.finishCoverLoads).standDown.judgeAdmission.judgeClose
      t).placeRegistry.placeBacklog.grant := by
  have shelf : (Blocks.judgeEngine t b.finishCoverLoads).standDown.ep = b.ep := by simp
  have thawed : (Blocks.judgeEngine t b.finishCoverLoads).standDown.judgeSettled t
      = (Blocks.judgeEngine t b.finishCoverLoads).standDown := by
    refine if_neg fun ⟨settling, empty⟩ => ?_
    rw [shelf] at settling
    exact goesOn.elim (· settling) (· empty)
  unfold Blocks.settle
  dsimp only
  rw [thawed]

/-- R91: what is judged before the orders are placed leaves a LIVE slot its state, its attention and its order. -/
theorem Blocks.judged_calls {b : Blocks} {i : SlotId} (t : Nat) (live : (b.slot i).state = .live) :
    (((Blocks.judgeEngine t b.finishCoverLoads).standDown.judgeAdmission.judgeClose t).slot i).calls = (b.slot i).calls := by
  have loads : (b.finishCoverLoads.slot i).calls = (b.slot i).calls := by
    refine foldl_keeps (fun b : Blocks => (b.slot i).calls) (fun b j => ?_) _ b
    unfold Blocks.finishCoverLoad
    split
    · exact Blocks.modSlot_keeps SlotRec.calls b j i fun _ => rfl
    · rfl
  have stood : ((Blocks.judgeEngine t b.finishCoverLoads).standDown.slot i) = b.finishCoverLoads.slot i :=
    Blocks.slot_congr (by simp) i
  have still : ((Blocks.judgeEngine t b.finishCoverLoads).standDown.slot i).state = .live := by
    simp only [SlotRec.calls, Prod.mk.injEq] at loads
    rw [stood, loads.1, live]
  have admitted := Blocks.judgeAdmission_live still
  have closed : ∀ c : Blocks, (c.judgeClose t).slot i = c.slot i := fun c => Blocks.slot_congr (by simp) i
  rw [closed, admitted, stood, loads]

theorem CardBus.grant_registryQueue (bus : CardBus) : bus.grant.registryQueue = bus.registryQueue := by
  unfold CardBus.grant
  split
  · rfl
  · split <;> rfl

/-- R91, R83: at the end of an event that brings no freeze, a LIVE slot with its attention pending has an order outstanding. -/
theorem Blocks.settle_attention {b : Blocks} {i : SlotId} (t : Nat) (live : (b.slot i).state = .live)
    (pending : (b.slot i).attention = true)
    (goesOn : b.ep.shelf ≠ .settling ∨ (Blocks.judgeEngine t b.finishCoverLoads).standDown.engine.inFlight ≠ []) :
    (b.settle t).Answered i (b.slot i).order := by
  rw [Blocks.settle_thawed t goesOn]
  have judged := Blocks.judged_calls t live
  generalize (Blocks.judgeEngine t b.finishCoverLoads).standDown.judgeAdmission.judgeClose t = c at judged ⊢
  simp only [SlotRec.calls, Prod.mk.injEq] at judged
  obtain ⟨state, attention, order⟩ := judged
  obtain ⟨placed, waits⟩ := Blocks.placeRegistry_attention (state.trans live) (attention.trans pending)
  rw [order] at placed waits
  have slot : c.placeRegistry.placeBacklog.grant.slot i = c.placeRegistry.slot i := Blocks.slot_congr (by simp) i
  have bus : ∀ d : Blocks, d.placeBacklog.grant.bus.registryQueue = d.bus.registryQueue := fun d =>
    CardBus.grant_registryQueue _
  rw [Blocks.Answered, slot, bus]
  exact ⟨placed, waits⟩

/-- R83, R150: what becomes of the slot's outstanding order. -/
theorem Blocks.abandonOrder_ends {b : Blocks} {i : SlotId} {o : RegistryOrder} (order : (b.slot i).order = some o) :
    let c := b.abandonOrder i
    let head := ∃ o, b.bus.registryQueue.head? = some o ∧ o.slot = i
    let carried := head ∧ ∃ tr, b.bus.transfer = some tr ∧ tr.requester = .registry ∧ tr.phase ≠ .release .cut
    (carried → c = { b with reg := c.reg } ∧ c.reg.ports = b.reg.ports
        ∧ c.slot i = { b.slot i with order := some { o with abandoned := true } })
      ∧ (¬carried → c = { b with reg := c.reg, bus := { b.bus with
              registryQueue := b.bus.registryQueue.filter (fun x => x.slot != i)
              registryAttempts := c.bus.registryAttempts } } ∧ c.reg.ports = b.reg.ports
          ∧ (head → c.bus.registryAttempts = 0) ∧ (¬head → c.bus.registryAttempts = b.bus.registryAttempts)
          ∧ c.slot i = { b.slot i with order := none }) := by
  dsimp only
  rw [← Blocks.onBus_iff]
  refine ⟨fun carried => ?_, fun waits => ?_⟩
  · rw [Blocks.abandonOrder_carried order carried]
    exact ⟨rfl, rfl, Blocks.slot_modSlot_same ..⟩
  · rw [Blocks.abandonOrder_withdrawn order (by simpa using waits)]
    have atHead : b.bus.registryQueue.head?.any (fun o => o.slot == i) = true ↔
        ∃ o, b.bus.registryQueue.head? = some o ∧ o.slot = i := by simp [Option.any_eq_true]
    rw [← atHead]
    exact ⟨rfl, rfl, fun head => if_pos head, fun other => if_neg other, Blocks.slot_modSlot_same ..⟩

/-- R78, R79, R83: a change of a slot's state. -/
theorem Blocks.changeState_enters {b : Blocks} {i : SlotId} {st : SlotState} (moves : (b.slot i).state ≠ st) :
    let c := b.changeState i st
    c = { b with reg := c.reg, bus := (b.abandonOrder i).bus
                 raised := b.raised ++ [.slotState i (b.slot i).state st (c.slot i).lostReason] }
      ∧ c.slot i = ((b.abandonOrder i).slot i).enter st := by
  have moved := Blocks.changeState_moves moves
  have slot : (b.changeState i st).slot i = ((b.abandonOrder i).slot i).enter st := by
    rw [moved, Blocks.slot_raise, Blocks.slot_modSlot_same]
  have frame : b.abandonOrder i = { b with reg := (b.abandonOrder i).reg, bus := (b.abandonOrder i).bus } := by
    unfold Blocks.abandonOrder
    split
    · rfl
    · split <;> rfl
  have told := b.changeState_raised (i := i) moves
  refine ⟨?_, slot⟩
  rw [← told, moved]
  generalize b.abandonOrder i = c at frame ⊢
  cases c
  cases frame
  rfl

/-- Settles O42, from the order and the record under a change of state, and the end of an event that brings no freeze. -/
theorem attentionOfALiveSlotIsPending : Obligations.AttentionOfALiveSlotIsPending := by
  unfold Obligations.AttentionOfALiveSlotIsPending
  refine ⟨fun b i => ⟨Blocks.abandonOrder_none, fun o order => ?_⟩, fun b i st => ⟨fun same => if_pos same, fun moves => ?_⟩,
    fun s i awake => ⟨fun idle => ?_, fun live quiet => ?_⟩⟩
  · exact ⟨fun j hj => b.abandonOrder_other hj, Blocks.abandonOrder_ends order⟩
  · obtain ⟨moved, slot⟩ := Blocks.changeState_enters moves
    exact ⟨moved, Blocks.changeState_ports _ _ _, fun j hj => Blocks.changeState_other _ _ hj, slot.trans (SlotRec.enter_eq _ _)⟩
  · rw [exec, execAttentionRise, State.running_awake awake]
    refine congrArg _ (if_neg fun ⟨live, quiet⟩ => ?_)
    rcases idle with idle | idle
    · exact idle (Blocks.isLive_iff.mp live)
    · rw [quiet] at idle; cases idle
  · have taken : exec (.attentionRise i) s = .next (s.event (fun b => b.modSlot i (fun r => { r with attention := true }))) := by
      rw [exec, execAttentionRise, State.running_awake awake]
      exact congrArg _ (if_pos ⟨Blocks.isLive_iff.mpr live, quiet⟩)
    obtain ⟨feed, time, -, pending, blk⟩ := s.event_frame (fun b => b.modSlot i (fun r => { r with attention := true }))
    have attends := s.event_settles (fun b => b.modSlot i (fun r => { r with attention := true }))
    refine ⟨_, taken, rfl, ?_, fun goesOn => ?_, feed, time, pending⟩
    · have lasting := (attends.recs i).lasting
      rw [Blocks.slot_modSlot_same] at lasting
      simp only [SlotRec.lasting, Prod.mk.injEq] at lasting
      exact lasting.2.2.1
    · have answered : ((s.blk.modSlot i (fun r => { r with attention := true })).settle s.time).Answered i
          (s.blk.slot i).order := by
        have calls := Blocks.slot_modSlot_same s.blk i (fun r => { r with attention := true })
        have order : ((s.blk.modSlot i (fun r => { r with attention := true })).slot i).order = (s.blk.slot i).order := by
          rw [calls]
        refine order ▸ Blocks.settle_attention s.time (by rw [calls]; exact live) (by rw [calls]) (goesOn.imp id ?_)
        rintro ⟨id, f, l, entry, link, free, kept, state⟩
        have underWay : s.blk.UnderWay id := ⟨f, l, entry, link, free, kept, state⟩
        have loaded : (s.blk.modSlot i (fun r => { r with attention := true })).finishCoverLoads.UnderWay id :=
          underWay.same (by simp) (by simp)
        exact (loaded.judgeEngine s.time).standDown.nonempty
      obtain ⟨placed, waits⟩ := answered
      have told : ∀ c : Blocks, c.told.slot i = c.slot i := fun c => Blocks.slot_congr (by simp) i
      rw [blk, told, (Blocks.told_frame _).2.2.1]
      exact ⟨placed, fun none => ⟨_, waits none, rfl, rfl, rfl, rfl, rfl⟩⟩

end Sys2Proof.Machine
end

section
/-! SUPPORT. SLOT RESTART, SLOT RETIRE and REVERT (R93, R94, R116, R120): the three answers a slot request can have, and where the
blocks stand once it was carried out. -/

namespace Sys2Proof.Machine

section
variable {s : State} {f : Blocks → SlotId → Option Blocks} {v : Byte}

theorem readSlot_eq_none : readSlot v = none ↔ 16 ≤ v.toNat := by
  unfold readSlot
  split <;> simp <;> omega

theorem State.slotRequest_none (far : 16 ≤ v.toNat) : s.slotRequest [v] f = s.refuse .badArg := by
  simp only [State.slotRequest, readSlot_eq_none.mpr far]

variable {i : SlotId}

theorem State.slotRequest_refused (hv : v.toNat = i.val) (h : f s.blk i = none) : s.slotRequest [v] f = s.refuse .state := by
  simp only [State.slotRequest, readSlot_eq_some.mpr hv, h]

theorem State.slotRequest_done {effect : Blocks → Blocks} (hv : v.toNat = i.val) (h : f s.blk i = some (effect s.blk)) :
    s.slotRequest [v] f = (s.settled effect, some (.ok, [])) := by
  simp only [State.slotRequest, readSlot_eq_some.mpr hv, h]
  rfl

end

/-- What a request leaves once its effect was carried out: the slots as the end of an event leaves them, and everything apart from
the blocks and the port as it was. -/
theorem State.carriedOut_settles (s : State) (f : Frame) (effect : Blocks → Blocks) (st : Status) (fields : List Byte) :
    (effect s.blk).SettlesTo (s.carriedOut f effect st fields).blk
      ∧ (s.carriedOut f effect st fields).feed = s.feed ∧ (s.carriedOut f effect st fields).time = s.time
      ∧ (s.carriedOut f effect st fields).pending = s.pending := by
  have settled : (effect s.blk).SettlesTo ((effect s.blk).settle s.time) := (Blocks.SettlesTo.refl _).settle s.time
  have blk : (s.carriedOut f effect st fields).blk = ((effect s.blk).settle s.time).told := by
    rw [State.carriedOut, State.deliver_blk]
    simp only [State.replied, State.settled, State.holding]
  rw [blk]
  refine ⟨settled.same (Blocks.told_frame _).1 (Blocks.told_frame _).2.1, ?_⟩
  simp only [State.carriedOut, State.deliver_feed, State.deliver_time, State.deliver_pending, State.replied, State.settled,
    State.holding, and_self]

/-! ### The slots an event leaves at rest -/

namespace Blocks.SettlesTo

variable {b c : Blocks} {i : SlotId}

/-- The end of an event leaves the lasting fields of a record. -/
theorem lasts (h : b.SettlesTo c) (i : SlotId) : (c.slot i).plan = (b.slot i).plan
    ∧ (c.slot i).storedTerm = (b.slot i).storedTerm ∧ (c.slot i).attention = (b.slot i).attention
    ∧ (c.slot i).coveredSlot = (b.slot i).coveredSlot ∧ (c.slot i).coverReason = (b.slot i).coverReason
    ∧ (c.slot i).revertMark = (b.slot i).revertMark := by
  have lasting := (h.recs i).lasting
  simpa only [SlotRec.lasting, Prod.mk.injEq] using lasting

/-- A slot at rest shows what it showed. -/
theorem shows (h : b.SettlesTo c) (rest : b.AtRest i) : (c.slot i).state = (b.slot i).state
    ∧ (c.slot i).lostReason = (b.slot i).lostReason ∧ (c.slot i).latestId = (b.slot i).latestId
    ∧ (c.slot i).identity = (b.slot i).identity := by
  have shown := (h.rests i rest).2.1
  simpa only [SlotRec.shown, Prod.mk.injEq] using shown

/-- A slot that holds nothing and wants nothing written holds nothing still. -/
theorem holdsNothing (h : b.SettlesTo c) (free : (b.slot i).coveredSlot = none) (unloaded : (b.slot i).coverLoad = none)
    (unwritten : (b.slot i).writeSet = []) (unwanted : (b.slot i).clearWanted = false) :
    (c.slot i).coveredSlot = none ∧ (c.slot i).coverLoad = none ∧ (c.slot i).writeSet = []
      ∧ (c.slot i).clearWanted = false := by
  obtain ⟨-, -, -, covered, -⟩ := h.lasts i
  exact ⟨covered.trans free, (h.recs i).unloaded unloaded, (h.recs i).unwritten unwritten, (h.recs i).unwanted unwanted⟩

end Blocks.SettlesTo

theorem Blocks.holder_isSome {b : Blocks} {i : SlotId} : (b.holder i).isSome = true ↔ ∃ t, (b.slot t).coveredSlot = some i := by
  unfold Blocks.holder
  rw [List.find?_isSome]
  simp [mem_allSlots]

end Sys2Proof.Machine
end

section
/-! CERTIFICATE. SLOT RETIRE (R90, R94, R115, R119): the slot it loses, the cover it ends, and the order of its checks. -/

namespace Sys2Proof.Machine

/-! ### A slot on its way out (R90) -/

/-- What a retired slot shows when all is settled. -/
def SlotRec.gone (r : SlotRec) :=
  (r.state, r.lostReason, r.latestId, r.identity, r.deadline, r.attention, r.storedTerm)

/-- What R119 leaves to the cover of a slot. -/
def SlotRec.coverEnd (r : SlotRec) := (r.coverReason, r.revertMark)

/-- What R115 and R119 leave to a spare that holds nothing any more. -/
def SlotRec.freed (r : SlotRec) := (r.coveredSlot, r.coverLoad, r.writeSet, r.clearWanted)

section
variable {b : Blocks} {i : SlotId} {reason : LossReason}

/-- R90: the record of a slot as it enters LOST. -/
theorem Blocks.enterLost_gone (inService : (b.slot i).state ≠ .lost) : ((b.enterLost i reason).slot i).gone =
    (.lost, some reason, none, none, none, false, (b.slot i).storedTerm) := by
  have moves : ((b.modSlot i (fun r => { r with lostReason := some reason, attention := false })).slot i).state ≠ .lost := by
    rw [Blocks.slot_modSlot_same]; exact inService
  have entered := (Blocks.changeState_enters moves).2
  have before := Blocks.abandonOrder_keeps (fun r => (r.lostReason, r.attention, r.storedTerm)) (fun _ _ => rfl)
    (b.modSlot i (fun r => { r with lostReason := some reason, attention := false })) i i
  rw [Blocks.slot_modSlot_same] at before
  simp only [Prod.mk.injEq] at before
  obtain ⟨lostReason, attention, storedTerm⟩ := before
  refine (Blocks.powerOff_keeps SlotRec.gone (fun _ _ => rfl) _ i i).trans ?_
  rw [entered]
  simp [SlotRec.gone, SlotRec.enter, SlotState.powered, SlotState.timed, lostReason, attention, storedTerm]

/-- R137: a slot that is switched off leaves the power of every other as it is. -/
theorem Blocks.enterLost_power_other {j : SlotId} (hj : j ≠ i) :
    (b.enterLost i reason).powerRec j = b.powerRec j ∧ (j ∈ (b.enterLost i reason).power.queue → j ∈ b.power.queue) := by
  have off : ∀ c : Blocks, (c.powerOff i).powerRec j = c.powerRec j
      ∧ (j ∈ (c.powerOff i).power.queue → j ∈ c.power.queue) := by
    intro c
    have opened : (c.openSwitch i).powerRec j = c.powerRec j := by
      cases closed : (c.powerRec i).closed
      · rw [Blocks.openSwitch_open closed]
      · rw [Blocks.openSwitch_opened closed, Blocks.powerRec_congr (Blocks.switchOpened_frame _ _).1,
          Blocks.powerRec_modPower_other _ _ _ _ hj]
    refine ⟨(Blocks.powerRec_modPower_other _ _ _ _ hj).trans opened, fun h => ?_⟩
    have queued : j ∈ (c.openSwitch i).power.queue := List.mem_of_mem_filter h
    rw [c.openSwitch_power i] at queued
    exact queued
  have same : ((b.modSlot i (fun r => { r with lostReason := some reason, attention := false })).changeState i .lost).power
      = b.power := by simp
  obtain ⟨rec, queue⟩ := off ((b.modSlot i (fun r => { r with lostReason := some reason, attention := false })).changeState i .lost)
  rw [same] at queue
  exact ⟨rec.trans (Blocks.powerRec_congr same j), queue⟩

/-! ### The end of a cover (R119) -/

/-- R119: the retirement of a held slot ends its cover. -/
theorem Blocks.retireHeld_ends {t : SlotId} (held : b.holder i = some t) (apart : t ≠ i) :
    ((b.retireHeld i).slot i).gone = (b.slot i).gone ∧ ((b.retireHeld i).slot i).coverEnd = (none, false)
      ∧ ((b.retireHeld i).slot t).freed = (none, none, [], false) := by
  have held' : (b.modSlot i (fun r => { r with revertMark := false, coverReason := none })).holder i = some t := by
    refine (Blocks.holder_congr (fun j => ?_) i).trans held
    exact Blocks.modSlot_keeps SlotRec.coveredSlot b i j fun _ => rfl
  have ended : ∀ x : Blocks, x.slot i = { b.slot i with revertMark := false, coverReason := none } →
      ((x.endHold t).slot i).gone = (b.slot i).gone ∧ ((x.endHold t).slot i).coverEnd = (none, false)
        ∧ ((x.endHold t).slot t).freed = (none, none, [], false) := by
    intro x hx
    rw [Blocks.endHold, Blocks.slot_modSlot_other _ _ _ _ apart.symm, Blocks.slot_modSlot_same, hx]
    exact ⟨rfl, rfl, rfl⟩
  have marked := Blocks.slot_modSlot_same b i (fun r => { r with revertMark := false, coverReason := none })
  unfold Blocks.retireHeld
  dsimp only
  rw [Blocks.slot_dropLinks, Blocks.slot_dropLinks, held']
  dsimp only
  split
  · exact ended _ ((Blocks.abandonOrder_other _ apart.symm).trans marked)
  · exact ended _ marked

theorem Blocks.retireHeld_power (b : Blocks) (i : SlotId) : (b.retireHeld i).power = b.power := by
  unfold Blocks.retireHeld
  dsimp only
  split
  · split <;> simp [Blocks.endHold]
  · simp

/-! ### What a retirement loses -/

/-- R94, R110: a slot that holds nothing and does not revert is lost, and no spare covers it. -/
theorem Blocks.lose_retired_free (free : (b.slot i).coveredSlot = none) (steady : (b.slot i).revertMark = false) :
    ∀ j, (b.lose i .retired).slot j = (b.enterLost i .retired).slot j := by
  intro j
  have uncovered : (b.enterLost i .retired).coverTarget i .retired = none := by
    refine Option.eq_none_iff_forall_ne_some.mpr fun t ht => ?_
    obtain ⟨_, _, _, _, _, kept, _⟩ := Blocks.coverTarget_iff.mp ht
    exact kept rfl
  rw [Blocks.lose_eq, Blocks.settleLoss, Blocks.enterLost_coveredSlot, free, Blocks.enterLost_revertMark, steady, uncovered]
  simp

/-- R119: a reverting slot that is retired. -/
theorem Blocks.lose_retired_reverting (free : (b.slot i).coveredSlot = none) (mark : (b.slot i).revertMark = true) :
    b.lose i .retired = (b.enterLost i .retired).retireHeld i := by
  rw [Blocks.lose_eq, Blocks.settleLoss, Blocks.enterLost_coveredSlot, free, Blocks.enterLost_revertMark, mark]
  rfl

/-- R115: a spare that is retired, and the slot it held. -/
theorem Blocks.lose_spare_slots {k : SlotId} (holds : (b.slot i).coveredSlot = some k) (apart : k ≠ i) :
    ((b.lose i reason).slot i).gone = ((b.enterLost i reason).slot i).gone
      ∧ ((b.lose i reason).slot i).freed = (none, none, [], false)
      ∧ (b.lose i reason).slot k = ((b.enterLost i reason).heldSettled k reason).slot k := by
  have settled : b.lose i reason =
      ((((b.enterLost i reason).heldSettled k reason).endHold i).detachSlot i).dropLinks (fun l => l.endsOn i) := by
    rw [Blocks.lose_eq, Blocks.settleLoss, Blocks.enterLost_coveredSlot, holds]
    exact Blocks.spareLost_eq ..
  rw [settled]
  simp only [Blocks.slot_dropLinks, Blocks.slot_detachSlot, Blocks.endHold]
  rw [Blocks.slot_modSlot_same, Blocks.slot_modSlot_other _ _ _ _ apart, Blocks.heldSettled_other apart.symm]
  exact ⟨rfl, rfl, rfl⟩

end

/-! ### Where a retirement leaves the blocks -/

/-- R94: the slot is lost and at rest, and the cover it took part in has ended. -/
structure Blocks.RetiredIn (b c : Blocks) (i : SlotId) : Prop where
  rest : c.AtRest i
  lost : (c.slot i).state = .lost ∧ (c.slot i).lostReason = some .retired
  term : (c.slot i).storedTerm = (b.slot i).storedTerm
  off : (b.slot i).state ≠ .lost →
    c.powerRec i = { closed := false, charge := 0, ramp := none, dark := none, trips := (b.powerRec i).trips }
      ∧ (c.slot i).latestId = none ∧ (c.slot i).identity = none ∧ (c.slot i).deadline = none ∧ (c.slot i).attention = false
  held : ∀ u, b.holder i = some u → (b.slot i).coveredSlot = none → (b.slot i).state = .lost ∨ (b.slot i).revertMark = true →
    (c.slot i).coverEnd = (none, false) ∧ (c.slot u).freed = (none, none, [], false)
  spare : ∀ k, (b.slot i).coveredSlot = some k → k ≠ i → (b.slot i).state ≠ .lost →
    (c.slot i).freed = (none, none, [], false) ∧ (c.slot k).coverEnd = (none, false)
      ∧ ((b.slot k).revertMark = false → (c.slot k).state = .lost ∧ (c.slot k).lostReason = some .retired ∧ c.AtRest k)

section
variable {b : Blocks} {i : SlotId}

/-- R109, R116: no slot holds itself. -/
theorem Blocks.SlotLaw.apart {k : SlotId} (law : b.SlotLaw) (holds : (b.slot i).coveredSlot = some k) : k ≠ i := by
  rintro rfl
  obtain ⟨-, cover, -⟩ := law
  obtain ⟨-, -, spare, working, -⟩ := cover k k holds
  obtain ⟨p, hp, isSpare⟩ := (Option.any_eq_true _ _).mp spare
  obtain ⟨q, hq, works⟩ := (Option.any_eq_true _ _).mp working
  obtain rfl := Option.some.inj (hp.symm.trans hq)
  rw [beq_iff_eq] at isSpare works
  rw [isSpare] at works
  cases works

/-- R79, R136: a slot that is out of service is at rest. -/
theorem Blocks.SlotLaw.rests (law : b.SlotLaw) (out : (b.slot i).state = .covered ∨ (b.slot i).state = .lost) :
    (b.powerRec i).closed = false ∧ i ∉ b.power.queue := by
  obtain ⟨closed, queued, -⟩ := law.1 i
  rw [closed, queued]
  rcases out with h | h <;> rw [h] <;> decide

theorem Blocks.holder_apart {u : SlotId} (free : (b.slot i).coveredSlot = none) (held : b.holder i = some u) : u ≠ i := by
  rintro rfl
  have holds := (Blocks.holder_eq_some.mp held).1
  rw [free] at holds
  cases holds

/-- R119: the retirement of a reverting slot ends its cover. -/
theorem Blocks.lose_retired_ends {u : SlotId} (free : (b.slot i).coveredSlot = none) (mark : (b.slot i).revertMark = true)
    (held : b.holder i = some u) : ((b.lose i .retired).slot i).gone = ((b.enterLost i .retired).slot i).gone
      ∧ ((b.lose i .retired).slot i).coverEnd = (none, false) ∧ ((b.lose i .retired).slot u).freed = (none, none, [], false) := by
  have held' : (b.enterLost i .retired).holder i = some u :=
    (Blocks.holder_congr (fun j => b.enterLost_coveredSlot i j .retired) i).trans held
  rw [Blocks.lose_retired_reverting free mark]
  exact Blocks.retireHeld_ends held' (Blocks.holder_apart free held)

/-- R94: what a slot in use shows once it is lost. -/
theorem Blocks.lose_retired_gone (law : b.SlotLaw) (inService : (b.slot i).state ≠ .lost) :
    ((b.lose i .retired).slot i).gone = (.lost, some .retired, none, none, none, false, (b.slot i).storedTerm) := by
  rw [← Blocks.enterLost_gone (reason := .retired) inService]
  cases holds : (b.slot i).coveredSlot with
  | some k => exact (Blocks.lose_spare_slots holds (law.apart holds)).1
  | none =>
    cases mark : (b.slot i).revertMark with
    | false => rw [Blocks.lose_retired_free holds mark]
    | true =>
      obtain ⟨-, -, -, reverting, -⟩ := law
      obtain ⟨u, held⟩ := Option.isSome_iff_exists.mp (Blocks.holder_isSome.mpr (reverting i mark).2)
      exact (Blocks.lose_retired_ends holds mark held).1

/-- R115: the slot that a retired spare held, its revert in progress or not. -/
theorem Blocks.heldSettled_coverEnd (c : Blocks) (k : SlotId) (reason : LossReason) :
    ((c.heldSettled k reason).slot k).coverEnd = (none, false) := by
  cases mark : (c.slot k).revertMark with
  | true => rw [Blocks.heldSettled_reverting mark]; rfl
  | false =>
    obtain ⟨-, -, cover, reverts⟩ := Blocks.heldSettled_lost (reason := reason) mark
    rw [SlotRec.coverEnd, cover, reverts]

/-- R94: a slot in use is lost. -/
theorem Blocks.lose_retiredIn (law : b.SlotLaw) (inService : (b.slot i).state ≠ .lost) :
    b.RetiredIn (b.lose i .retired) i := by
  have gone := Blocks.lose_retired_gone law inService
  simp only [SlotRec.gone, Prod.mk.injEq] at gone
  obtain ⟨state, lostReason, latestId, identity, deadline, attention, storedTerm⟩ := gone
  have down := Blocks.lose_down (reason := .retired) inService fun opened => ((law.1 i).2.2.2 opened).1
  have power : (b.lose i .retired).power = (b.enterLost i .retired).power := (Blocks.settleLoss_frame _ i .retired).1
  refine ⟨⟨by rw [state]; decide, by rw [down.power], down.out⟩, ⟨state, lostReason⟩, storedTerm,
    fun _ => ⟨down.power, latestId, identity, deadline, attention⟩, fun u held free reverts => ?_, fun k holds apart _ => ?_⟩
  · exact (Blocks.lose_retired_ends free (reverts.resolve_left inService) held).2
  · obtain ⟨-, freed, other⟩ := Blocks.lose_spare_slots (reason := .retired) holds apart
    have before : (b.enterLost i .retired).slot k = b.slot k := b.enterLost_other .retired apart
    rw [Blocks.AtRest, other]
    refine ⟨freed, Blocks.heldSettled_coverEnd _ k .retired, fun steady => ?_⟩
    obtain ⟨lost, reason, -⟩ := Blocks.heldSettled_lost (b := b.enterLost i .retired) (reason := .retired) (before ▸ steady)
    obtain ⟨rec, queue⟩ := b.enterLost_power_other (reason := .retired) apart
    have out : (b.slot k).state = .covered ∨ (b.slot k).state = .lost := by
      obtain ⟨-, cover, -⟩ := law
      obtain ⟨covered | lost | mark, -⟩ := cover i k holds
      · exact .inl covered
      · exact .inr lost
      · rw [steady] at mark; cases mark
    obtain ⟨opened, unqueued⟩ := law.rests out
    rw [Blocks.powerRec_congr power, power, rec, lost]
    exact ⟨rfl, reason, by decide, opened, fun h => unqueued (queue h)⟩

/-- R94, R119: a slot that is lost already takes the reason, and a cover it stands under ends. -/
theorem Blocks.retireLost_retiredIn (law : b.SlotLaw) (lost : (b.slot i).state = .lost) :
    b.RetiredIn (b.retireLost i) i := by
  obtain ⟨opened, unqueued⟩ := law.rests (.inr lost)
  have holder : (b.modSlot i (fun r => { r with lostReason := some .retired })).holder i = b.holder i := by
    refine Blocks.holder_congr (fun j => ?_) i
    exact Blocks.modSlot_keeps SlotRec.coveredSlot b i j fun _ => rfl
  have marked := Blocks.slot_modSlot_same b i (fun r => { r with lostReason := some .retired })
  have power : (b.retireLost i).power = b.power := by
    unfold Blocks.retireLost
    dsimp only
    split
    · exact Blocks.retireHeld_power _ i
    · rfl
  have free : (b.slot i).coveredSlot = none := by
    refine Option.eq_none_iff_forall_ne_some.mpr fun k holds => ?_
    obtain ⟨-, cover, -⟩ := law
    exact (cover i k holds).2.1 (by rw [lost]; decide)
  have shows : ((b.retireLost i).slot i).gone
      = ((b.modSlot i (fun r => { r with lostReason := some .retired })).slot i).gone
      ∧ ∀ u, b.holder i = some u → ((b.retireLost i).slot i).coverEnd = (none, false)
          ∧ ((b.retireLost i).slot u).freed = (none, none, [], false) := by
    unfold Blocks.retireLost
    dsimp only
    rw [holder]
    cases held : b.holder i with
    | none => exact ⟨rfl, nofun⟩
    | some u =>
      obtain ⟨gone, ended, freed⟩ := Blocks.retireHeld_ends (holder.trans held) (Blocks.holder_apart free held)
      refine ⟨gone, fun u' same => ?_⟩
      obtain rfl := Option.some.inj same
      exact ⟨ended, freed⟩
  obtain ⟨gone, ends⟩ := shows
  rw [marked] at gone
  simp only [SlotRec.gone, Prod.mk.injEq, lost] at gone
  obtain ⟨state, lostReason, -, -, -, -, storedTerm⟩ := gone
  refine ⟨⟨by rw [state]; decide, (Blocks.powerRec_congr power i).symm ▸ opened, power ▸ unqueued⟩, ⟨state, lostReason⟩,
    storedTerm, fun h => absurd lost h, fun u held _ _ => ends u held, fun _ _ _ h => absurd lost h⟩

end

/-! ### The checks of a SLOT RETIRE (R94, R120) -/

theorem judgeRequest_slotRetire (tag v : Byte) (s : State) :
    judgeRequest { kind := 0x15, tag, body := [v] } s = s.slotRequest [v] Blocks.retireSlot := rfl

theorem Blocks.retireSlot_refused {b : Blocks} {i : SlotId} (idle : (b.slot i).state ∈ [SlotState.vacant, .off, .covered]) :
    b.retireSlot i = none := by
  simp only [List.mem_cons, List.not_mem_nil, or_false] at idle
  unfold Blocks.retireSlot
  rcases idle with h | h | h <;> rw [h]

theorem Blocks.retireSlot_inUse {b : Blocks} {i : SlotId}
    (inUse : (b.slot i).state ∉ [SlotState.vacant, .off, .covered, .lost]) : b.retireSlot i = some (b.lose i .retired) := by
  unfold Blocks.retireSlot
  cases h : (b.slot i).state <;> simp [h] at inUse ⊢

theorem Blocks.retireSlot_lost {b : Blocks} {i : SlotId} (lost : (b.slot i).state = .lost) :
    b.retireSlot i = some (b.retireLost i) := by
  unfold Blocks.retireSlot
  rw [lost]

/-- R94: what an accepted SLOT RETIRE leaves, at the end of its event. -/
theorem State.retired_settles {s : State} {f : Frame} {i : SlotId} {effect : Blocks → Blocks}
    (retired : s.blk.RetiredIn (effect s.blk) i) :
    let t := s.carriedOut f effect .ok []
    let r := s.blk.slot i
    (t.blk.slot i).state = .lost ∧ (t.blk.slot i).lostReason = some .retired
      ∧ (t.blk.slot i).storedTerm = r.storedTerm ∧ t.feed = s.feed ∧ t.time = s.time ∧ t.pending = s.pending
      ∧ (r.state ≠ .lost →
          t.blk.powerRec i = { closed := false, charge := 0, ramp := none, dark := none, trips := (s.blk.powerRec i).trips }
          ∧ i ∉ t.blk.power.queue ∧ (t.blk.slot i).latestId = none ∧ (t.blk.slot i).identity = none
          ∧ (t.blk.slot i).deadline = none ∧ (t.blk.slot i).attention = false)
      ∧ (∀ u, s.blk.holder i = some u → r.coveredSlot = none → r.state = .lost ∨ r.revertMark = true →
          (t.blk.slot i).revertMark = false ∧ (t.blk.slot i).coverReason = none ∧ (t.blk.slot u).coveredSlot = none
          ∧ (t.blk.slot u).coverLoad = none ∧ (t.blk.slot u).writeSet = [] ∧ (t.blk.slot u).clearWanted = false)
      ∧ (∀ k, r.coveredSlot = some k → k ≠ i → r.state ≠ .lost →
          (t.blk.slot i).coveredSlot = none ∧ (t.blk.slot i).coverLoad = none ∧ (t.blk.slot k).coverReason = none
          ∧ (t.blk.slot k).revertMark = false
          ∧ ((s.blk.slot k).revertMark = false →
              (t.blk.slot k).state = .lost ∧ (t.blk.slot k).lostReason = some .retired)) := by
  obtain ⟨settles, feed, time, pending⟩ := s.carriedOut_settles f effect .ok []
  obtain ⟨rest, ⟨lost, why⟩, term, off, held, spare⟩ := retired
  obtain ⟨state, lostReason, latestId, identity⟩ := settles.shows rest
  obtain ⟨-, storedTerm, attention, -⟩ := settles.lasts i
  obtain ⟨⟨-, -, out⟩, -, power, deadline⟩ := settles.rests i rest
  refine ⟨state.trans lost, lostReason.trans why, storedTerm.trans term, feed, time, pending, fun inService => ?_,
    fun u holds free ends => ?_, fun k holds apart inService => ?_⟩
  · obtain ⟨rec, noId, noIdentity, stopped, quiet⟩ := off inService
    exact ⟨power.trans rec, out, latestId.trans noId, identity.trans noIdentity, deadline stopped, attention.trans quiet⟩
  · obtain ⟨ended, freed⟩ := held u holds free ends
    simp only [SlotRec.coverEnd, SlotRec.freed, Prod.mk.injEq] at ended freed
    obtain ⟨-, -, -, -, reason, mark⟩ := settles.lasts i
    exact ⟨mark.trans ended.2, reason.trans ended.1,
      settles.holdsNothing freed.1 freed.2.1 freed.2.2.1 freed.2.2.2⟩
  · obtain ⟨freed, ended, steady⟩ := spare k holds apart inService
    simp only [SlotRec.coverEnd, SlotRec.freed, Prod.mk.injEq] at ended freed
    obtain ⟨-, -, -, covered, -⟩ := settles.lasts i
    obtain ⟨-, -, -, -, reason, mark⟩ := settles.lasts k
    refine ⟨covered.trans freed.1, (settles.recs i).unloaded freed.2.1, reason.trans ended.1, mark.trans ended.2,
      fun unmarked => ?_⟩
    obtain ⟨lostK, whyK, restK⟩ := steady unmarked
    obtain ⟨stateK, reasonK, -⟩ := settles.shows restK
    exact ⟨stateK.trans lostK, reasonK.trans whyK⟩

/-- Settles O25, from the slot a retirement loses and what the end of an event leaves of a slot at rest. -/
theorem slotRetireLosesTheSlot : Obligations.SlotRetireLosesTheSlot := by
  unfold Obligations.SlotRetireLosesTheSlot
  refine ⟨fun s tag v i ready law hv inUse => ?_, fun s tag v ready => ⟨fun far => ?_, fun i hv =>
    ⟨fun idle => ?_, fun inUse => ?_, fun lost => ⟨?_, Blocks.holder_isSome⟩⟩⟩⟩
  · by_cases lost : (s.blk.slot i).state = .lost
    · exact ⟨_, exec_carriedOut ready rfl ((judgeRequest_slotRetire tag v _).trans
        (State.slotRequest_done (effect := fun b => b.retireLost i) hv (Blocks.retireSlot_lost lost))),
        State.retired_settles (Blocks.retireLost_retiredIn law lost)⟩
    · exact ⟨_, exec_carriedOut ready rfl ((judgeRequest_slotRetire tag v _).trans
        (State.slotRequest_done (effect := fun b => b.lose i .retired) hv
          (Blocks.retireSlot_inUse (by simp at inUse ⊢; tauto)))),
        State.retired_settles (Blocks.lose_retiredIn law lost)⟩
  · exact exec_answers ready rfl ((judgeRequest_slotRetire tag v _).trans (State.slotRequest_none far))
  · exact exec_answers ready rfl ((judgeRequest_slotRetire tag v _).trans
      (State.slotRequest_refused hv (Blocks.retireSlot_refused (by simpa using idle))))
  · exact exec_carriedOut ready rfl ((judgeRequest_slotRetire tag v _).trans
      (State.slotRequest_done (effect := fun b => b.lose i .retired) hv (Blocks.retireSlot_inUse inUse)))
  · exact exec_carriedOut ready rfl ((judgeRequest_slotRetire tag v _).trans
      (State.slotRequest_done (effect := fun b => b.retireLost i) hv (Blocks.retireSlot_lost lost)))

end Sys2Proof.Machine
end

section
/-! CERTIFICATE. The report of a slot found fresh, restarted or switched off in place (R40, R44): what it makes of every link. -/

namespace Sys2Proof.Machine

/-! ### One link returns (R40) -/

section
variable {b : Blocks} {k x : Nat} {l : Link}

theorem Blocks.leaveInFlight_leavesLink (h : k ≠ x) : b.LeavesLink (b.leaveInFlight x) k where
  link := rfl
  entry := Blocks.entry_leaveInFlight_other h
  queue := Iff.rfl
  deferred := Iff.rfl
  outstanding := b.outstanding_leaveInFlight x k

theorem Blocks.setLinkState_leavesLink (st : LinkState) (h : k ≠ x) : b.LeavesLink (b.setLinkState x st) k where
  link := Blocks.link_setLinkState_other st h
  entry := rfl
  queue := Iff.rfl
  deferred := Iff.rfl
  outstanding := rfl

theorem Blocks.joinQueue_leavesLink (h : k ≠ x) : b.LeavesLink (b.joinQueue x) k where
  link := b.link_joinQueue x k
  entry := b.entry_joinQueue x k
  queue := by rw [Blocks.mem_joinQueue]; simp [h]
  deferred := by rw [Blocks.joinQueue_engine]
  outstanding := by rw [Blocks.outstanding, (b.joinQueue_frame x).2.2.1]; rfl

/-- R40: the return of a link leaves every other. -/
theorem Blocks.returnLink_leavesLink (h : k ≠ x) : b.LeavesLink (b.returnLink x) k := by
  cases hl : b.link x with
  | none => unfold Blocks.returnLink; rw [hl]; exact .refl b k
  | some l =>
    have pending : b.LeavesLink (b.setLinkState x .pending) k := Blocks.setLinkState_leavesLink .pending h
    rw [Blocks.returnLink_eq hl]
    split
    · split
      · exact Blocks.release_leavesLink h
      · exact ((Blocks.leaveInFlight_leavesLink h).trans (Blocks.setLinkState_leavesLink .pending h)).trans
          (Blocks.joinQueue_leavesLink h)
    · split
      · exact pending.trans (Blocks.joinQueue_leavesLink h)
      · split
        · exact pending
        · exact .refl b k

theorem Blocks.returns_leavesLink {ids : List Nat} (h : k ∉ ids) : b.LeavesLink (ids.foldl Blocks.returnLink b) k := by
  induction ids generalizing b with
  | nil => exact .refl b k
  | cons x ids ih =>
    rw [List.mem_cons, not_or] at h
    obtain ⟨hx, hk⟩ := h
    exact (Blocks.returnLink_leavesLink hx).trans (ih hk)

/-- R40: a return brings no order to the backlog. -/
theorem Blocks.returnLink_backlog {o : BusOrder} (ho : o ∈ (b.returnLink x).engine.backlog) : o ∈ b.engine.backlog := by
  have joined : ∀ c : Blocks, (c.joinQueue x).engine.backlog = c.engine.backlog := fun c => by rw [Blocks.joinQueue_engine]
  cases hl : b.link x with
  | none => unfold Blocks.returnLink at ho; rw [hl] at ho; exact ho
  | some l =>
    rw [Blocks.returnLink_eq hl] at ho
    split at ho
    · split at ho
      · exact (Blocks.backlog_leaveInFlight (b := b) ho).1
      · rw [joined] at ho
        exact (Blocks.backlog_leaveInFlight (b := b) ho).1
    · split at ho
      · rw [joined] at ho
        exact ho
      · split at ho <;> exact ho

theorem Blocks.returns_backlog {ids : List Nat} {o : BusOrder} (ho : o ∈ (ids.foldl Blocks.returnLink b).engine.backlog) :
    o ∈ b.engine.backlog := by
  induction ids generalizing b with
  | nil => exact ho
  | cons x ids ih => exact Blocks.returnLink_backlog (ih ho)

/-- R40: where a return leaves its own link. -/
structure Blocks.Returns (b c : Blocks) (k : Nat) (l : Link) : Prop where
  suspect : l.state = .suspect → (k ∈ c.engine.queue ↔ k ∈ b.engine.queue) ∧ c.entry k = b.entry k
  flying : l.state.flying = true → c.entry k = none ∧ ∀ o ∈ c.engine.backlog, o.forLink k = false
  wanted : l.state.flying = true → l.removal = false → k ∈ c.engine.queue
  flagged : l.state.flying = true → l.removal = true → k ∉ c.engine.queue ∧ k ∉ c.engine.deferred
  carried : l.state = .carried → k ∈ c.engine.queue ∧ c.entry k = b.entry k
  idle : l.state = .pending ∨ l.state = .deferred ∨ l.state = .releasing →
    (k ∈ c.engine.queue ↔ k ∈ b.engine.queue) ∧ (k ∈ c.engine.deferred ↔ k ∈ b.engine.deferred) ∧ c.entry k = b.entry k

theorem Blocks.returnLink_returns (hl : b.link k = some l) : b.Returns (b.returnLink k) k l := by
  have back := fun h => Blocks.returnLink_queued (b := b) hl h
  have returned := Blocks.returnLink_eq hl
  refine ⟨fun state => ?_, fun flies => ⟨Blocks.returnLink_entry_flying hl flies, ?_⟩, fun flies kept => back (.inr ⟨flies, kept⟩),
    fun flies removal => ?_, fun state => ⟨back (.inl state), ?_⟩, fun state => ?_⟩
  · rw [returned]
    simp only [state, LinkState.flying, Bool.false_eq_true, if_false, if_true, reduceCtorEq]
    exact ⟨Iff.rfl, rfl⟩
  · rw [returned, if_pos flies]
    split
    · exact fun o ho => (Blocks.backlog_leaveInFlight (b := b) ho).2
    · intro o ho
      rw [Blocks.joinQueue_engine] at ho
      exact (Blocks.backlog_leaveInFlight (b := b) ho).2
  · rw [returned, if_pos flies, if_pos removal]
    have gone := Blocks.gone_release hl
    exact ⟨gone.queue, gone.deferred⟩
  · rw [returned]
    simp only [state, LinkState.flying, Bool.false_eq_true, if_false, if_true]
    exact Blocks.entry_joinQueue ..
  · have same : b.returnLink k = b := by
      rw [returned]
      rcases state with h | h | h <;> simp [h, LinkState.flying]
    rw [same]
    exact ⟨Iff.rfl, Iff.rfl, rfl⟩

/-- What leaves the link before and after changes nothing of where its return leaves it. -/
theorem Blocks.Returns.between {a c d : Blocks} (before : a.LeavesLink b k) (h : b.Returns c k l) (after : c.LeavesLink d k)
    (backlog : ∀ o ∈ d.engine.backlog, o ∈ c.engine.backlog) : a.Returns d k l := by
  obtain ⟨suspect, flying, wanted, flagged, carried, idle⟩ := h
  refine ⟨fun state => ?_, fun flies => ?_, fun flies kept => ?_, fun flies removal => ?_, fun state => ?_, fun state => ?_⟩
  · rw [after.queue, after.entry, ← before.queue, ← before.entry]; exact suspect state
  · rw [after.entry]; exact ⟨(flying flies).1, fun o ho => (flying flies).2 o (backlog o ho)⟩
  · rw [after.queue]; exact wanted flies kept
  · rw [after.queue, after.deferred]; exact flagged flies removal
  · rw [after.queue, after.entry, ← before.entry]; exact carried state
  · rw [after.queue, after.deferred, after.entry, ← before.queue, ← before.deferred, ← before.entry]; exact idle state

/-- R40: a link among those that return, each once. -/
theorem Blocks.returns_own {ids : List Nat} (once : ids.Nodup) (hk : k ∈ ids) (hl : b.link k = some l) :
    b.Returns (ids.foldl Blocks.returnLink b) k l := by
  obtain ⟨first, last, rfl⟩ := List.append_of_mem hk
  obtain ⟨apart, -⟩ := List.nodup_cons.mp (List.nodup_middle.mp once)
  rw [List.mem_append, not_or] at apart
  have before := Blocks.returns_leavesLink (b := b) apart.1
  rw [List.foldl_append, List.foldl_cons]
  exact (Blocks.returnLink_returns (before.link.trans hl)).between before (Blocks.returns_leavesLink apart.2)
    fun o ho => Blocks.returns_backlog ho

/-! ### The order of the restore queue (R24, R40) -/

theorem rankInsert_sublist (st : LinkStore) (l : Link) (queue : List Nat) : queue.Sublist (rankInsert st l queue) := by
  obtain ⟨above, below, rfl, inserted, -⟩ := rankInsert_split st l queue
  rw [inserted]
  exact (List.Sublist.refl above).append (List.sublist_cons_self _ _)

end

/-- R24, R40: the queue keeps its order, and what left it is RELEASING. -/
def Blocks.KeepsOrder (b c : Blocks) : Prop :=
  (b.engine.queue.filter (fun k => k ∈ c.engine.queue)).Sublist c.engine.queue
    ∧ ∀ k ∈ b.engine.queue, k ∈ c.engine.queue ∨ ∃ m, c.link k = some m ∧ m.state = .releasing

section
variable {b c : Blocks} {x : Nat} {l : Link}

theorem Blocks.KeepsOrder.refl (b : Blocks) : b.KeepsOrder b := ⟨List.filter_sublist, fun _ hk => .inl hk⟩

/-- A change of the state of a link that is not RELEASING. -/
theorem Blocks.KeepsOrder.setLinkState (h : b.KeepsOrder c) (hl : c.link x = some l) (stays : l.state ≠ .releasing) :
    b.KeepsOrder (c.setLinkState x .pending) := by
  refine ⟨h.1, fun k hk => (h.2 k hk).imp_right fun ⟨m, hm, releasing⟩ => ⟨m, ?_, releasing⟩⟩
  have hx : k ≠ x := by
    rintro rfl
    obtain rfl := Option.some.inj (hm.symm.trans hl)
    exact stays releasing
  exact (Blocks.link_setLinkState_other _ hx).trans hm

/-- A link that is not RELEASING joins the queue, or stays where it is. -/
theorem Blocks.KeepsOrder.joinQueue (h : b.KeepsOrder c) (hl : c.link x = some l) (stays : l.state ≠ .releasing) :
    b.KeepsOrder (c.joinQueue x) := by
  obtain ⟨order, left⟩ := h
  refine ⟨?_, fun k hk => ?_⟩
  · unfold Blocks.joinQueue
    split
    · exact order
    next fresh =>
      rw [hl]
      have notThere : x ∉ b.engine.queue := fun hx => (left x hx).elim fresh fun ⟨m, hm, releasing⟩ => by
        obtain rfl := Option.some.inj (hm.symm.trans hl)
        exact stays releasing
      have same : b.engine.queue.filter (fun k => k ∈ rankInsert c.store l c.engine.queue)
          = b.engine.queue.filter (fun k => k ∈ c.engine.queue) := by
        refine List.filter_congr fun k hk => ?_
        have hx : k ≠ x := fun e => notThere (e ▸ hk)
        simp [mem_rankInsert, Blocks.link_id hl, hx]
      rw [same]
      exact order.trans (rankInsert_sublist ..)
  · rw [Blocks.link_joinQueue]
    exact (left k hk).imp_left fun hk => Blocks.mem_joinQueue.mpr (.inl hk)

theorem Blocks.KeepsOrder.release (h : b.KeepsOrder c) (hl : c.link x = some l) : b.KeepsOrder (c.release x) := by
  obtain ⟨order, left⟩ := h
  have queue : (c.release x).engine.queue = c.engine.queue.filter (fun k => k != x) := rfl
  refine ⟨?_, fun k hk => ?_⟩
  · have same : b.engine.queue.filter (fun k => k ∈ c.engine.queue.filter (fun k => k != x))
        = (b.engine.queue.filter (fun k => k ∈ c.engine.queue)).filter (fun k => k != x) := by
      rw [List.filter_filter]
      exact List.filter_congr fun k _ => by by_cases hx : k = x <;> simp [hx]
    rw [queue, same]
    exact order.filter _
  · by_cases hx : k = x
    · subst hx
      exact .inr ⟨_, Blocks.link_release_same hl, rfl⟩
    · rw [queue, Blocks.link_release_other hx]
      exact (left k hk).imp_left fun hk => List.mem_filter.mpr ⟨hk, by simpa using hx⟩

theorem Blocks.KeepsOrder.returnLink (h : b.KeepsOrder c) (x : Nat) : b.KeepsOrder (c.returnLink x) := by
  cases hl : c.link x with
  | none => unfold Blocks.returnLink; rw [hl]; exact h
  | some l =>
    rw [Blocks.returnLink_eq hl]
    split
    next flies =>
      have stays : l.state ≠ .releasing := fun e => by rw [e] at flies; cases flies
      split
      · exact h.release hl
      · have left : b.KeepsOrder (c.leaveInFlight x) := ⟨h.1, h.2⟩
        exact (left.setLinkState (c := c.leaveInFlight x) hl stays).joinQueue
          (Blocks.link_setLinkState_same (b := c.leaveInFlight x) _ hl) (by simp)
    · split
      next carried =>
        exact (h.setLinkState hl (by rw [carried]; decide)).joinQueue (Blocks.link_setLinkState_same _ hl) (by simp)
      · split
        next suspect => exact h.setLinkState hl (by rw [suspect]; decide)
        · exact h

theorem Blocks.KeepsOrder.returns (h : b.KeepsOrder c) (ids : List Nat) : b.KeepsOrder (ids.foldl Blocks.returnLink c) := by
  induction ids generalizing c with
  | nil => exact h
  | cons x ids ih => exact ih (h.returnLink x)

end

/-! ### What is apart from the links -/

/-- The blocks without their links and the engine's collections and placed orders. -/
def Blocks.apartLinks (b : Blocks) : Blocks := { b with
  store := { b.store with links := [] }
  engine := { b.engine with queue := [], deferred := [], inFlight := [], backlog := [] }
  bus := { b.bus with relinkQueue := [] } }

theorem Blocks.eq_of_apartLinks {b c : Blocks} (h : c.apartLinks = b.apartLinks) : c = { b with
    store := { b.store with links := c.store.links }
    engine := { b.engine with
      queue := c.engine.queue, deferred := c.engine.deferred, inFlight := c.engine.inFlight, backlog := c.engine.backlog }
    bus := { b.bus with relinkQueue := c.bus.relinkQueue } } := by
  obtain ⟨_, _, ⟨⟩, ⟨⟩, ⟨⟩, _, _, _⟩ := b
  obtain ⟨_, _, ⟨⟩, ⟨⟩, ⟨⟩, _, _, _⟩ := c
  cases h
  rfl

theorem Blocks.apartLinks_joinQueue (b : Blocks) (x : Nat) : (b.joinQueue x).apartLinks = b.apartLinks := by
  unfold Blocks.joinQueue
  split
  · rfl
  · split <;> rfl

theorem Blocks.apartLinks_returnLink (b : Blocks) (x : Nat) : (b.returnLink x).apartLinks = b.apartLinks := by
  cases hl : b.link x with
  | none => unfold Blocks.returnLink; rw [hl]
  | some l =>
    rw [Blocks.returnLink_eq hl]
    split
    · split
      · rfl
      · rw [Blocks.apartLinks_joinQueue]; rfl
    · split
      · rw [Blocks.apartLinks_joinQueue]; rfl
      · split <;> rfl

theorem Blocks.apartLinks_slotInPlace (b : Blocks) (i : SlotId) : (b.slotInPlace i).apartLinks = b.apartLinks :=
  foldl_keeps Blocks.apartLinks (fun c x => c.apartLinks_returnLink x) _ _

/-! ### The report (R40, R44) -/

section
variable {b : Blocks} {i : SlotId} {k : Nat} {l : Link}

theorem Link.endsOn_iff : l.endsOn i = true ↔ l.epA.slot = i ∨ l.epB.slot = i := by simp [Link.endsOn]

/-- R44: the DETACH orders that wait for an end on the slot are withdrawn. -/
theorem Blocks.detachSlot_withdraws {o : BusOrder} {e : LinkEnd} (hl : b.link k = some l) (ends : (l.endpoint e).slot = i)
    (ho : o ∈ (b.detachSlot i).engine.backlog) (detach : o.code = .detach) : o.forEnd k e = false := by
  obtain ⟨-, stays⟩ := List.mem_filter.mp (by exact ho)
  refine Bool.eq_false_iff.mpr fun names => ?_
  obtain ⟨tag, named, same⟩ := (Option.any_eq_true _ _).mp names
  simp only [Bool.and_eq_true, beq_iff_eq] at same
  obtain ⟨rfl, rfl⟩ := same
  simp [detach, named, hl, ends] at stays

/-- R40: the links of the slot are told once each. -/
theorem LinkStore.Law.linkIds_nodup (law : b.store.Law) (p : Link → Bool) : (b.linkIds p).Nodup := by
  obtain ⟨sorted, -⟩ := law
  exact List.pairwise_map.mpr ((sorted.filter _).imp fun h => h.ne)

/-- R40: a link with an end on the slot returns. -/
theorem Blocks.slotInPlace_returns (law : b.store.Law) (hl : b.link k = some l) (touched : l.endsOn i = true) :
    b.Returns (b.slotInPlace i) k l := by
  have named := (law.mem_linkIds hl (fun l => l.endsOn i)).mpr touched
  have own := Blocks.returns_own (law.linkIds_nodup (fun l => l.endsOn i)) named (Blocks.link_detachSlot i hl)
  obtain ⟨suspect, flying, wanted, flagged, carried, idle⟩ := own
  exact ⟨suspect, flying, wanted, flagged, carried, idle⟩

/-- R40: a link with no end on the slot stays, its collections too. -/
theorem Blocks.slotInPlace_leaves (law : b.store.Law) (hl : b.link k = some l) (apart : l.endsOn i = false) :
    (b.detachSlot i).LeavesLink (b.slotInPlace i) k :=
  Blocks.returns_leavesLink fun named => by
    rw [law.mem_linkIds hl (fun l => l.endsOn i), apart] at named
    cases named

/-- R40, R44: the record of a link after the report. -/
theorem Blocks.slotInPlace_link (law : b.store.Law) (hl : b.link k = some l) : (b.slotInPlace i).link k =
    some (if l.endsOn i then (l.detachedFrom i).returned else l.detachedFrom i) := by
  have returned := Blocks.link_foldl_returnLink (b.linkIds (fun l => l.endsOn i)) (Blocks.link_detachSlot i hl)
  simp only [law.mem_linkIds hl] at returned
  exact returned

/-- R44: a return moves the state and the deferral of a record alone. -/
theorem Link.reported_fields (l : Link) (i : SlotId) (p : Prop) [Decidable p] :
    ∃ st d, (if p then (l.detachedFrom i).returned else l.detachedFrom i)
      = { l with attA := l.attA && l.epA.slot != i, attB := l.attB && l.epB.slot != i, state := st, deferral := d } := by
  split
  · rw [Link.returned_eq]
    exact ⟨_, _, rfl⟩
  · exact ⟨_, _, rfl⟩

theorem Link.returned_pending (back : l.state = .suspect ∨ l.state = .carried ∨ (l.state.flying = true ∧ l.removal = false)) :
    l.returned.state = .pending ∧ l.returned.deferral = l.deferral := by
  unfold Link.returned
  rcases back with h | h | ⟨flies, kept⟩
  · simp [h, LinkState.flying]
  · simp [h, LinkState.flying]
  · simp [flies, kept]

theorem Link.returned_releasing (flies : l.state.flying = true) (removal : l.removal = true) :
    l.returned.state = .releasing ∧ l.returned.deferral = none := by
  unfold Link.returned
  rw [if_pos flies, if_pos removal]
  exact ⟨rfl, rfl⟩

theorem Link.returned_idle (idle : l.state = .pending ∨ l.state = .deferred ∨ l.state = .releasing) : l.returned = l := by
  unfold Link.returned
  rcases idle with h | h | h <;> simp [h, LinkState.flying]

/-- R40, R44: what the report makes of the links. -/
theorem Blocks.slotInPlace_reported (law : b.store.Law) (i : SlotId) : SlotReported b (b.slotInPlace i) i := by
  have backlog : ∀ o ∈ (b.slotInPlace i).engine.backlog, o ∈ (b.detachSlot i).engine.backlog := fun o ho =>
    Blocks.returns_backlog ho
  refine ⟨Blocks.eq_of_apartLinks (b.apartLinks_slotInPlace i), ?_, fun o ho => (List.mem_filter.mp (backlog o ho)).1,
    fun k l hl => ⟨_, Blocks.slotInPlace_link law hl, ?_⟩⟩
  · exact ((Blocks.KeepsOrder.refl (b.detachSlot i)).returns (b.linkIds (fun l => l.endsOn i))).1
  · obtain ⟨st, d, fields⟩ := l.reported_fields i (l.endsOn i = true)
    dsimp only
    rw [← Link.endsOn_iff]
    refine ⟨by rw [fields], by rw [fields], by rw [fields],
      fun e o ends ho detach => Blocks.detachSlot_withdraws hl ends (backlog o ho) detach,
      fun touched state => ?_, fun touched flies kept => ?_, fun touched flies removal => ?_, fun touched state => ?_,
      fun stays => ?_⟩
    · obtain ⟨queue, entry⟩ := (Blocks.slotInPlace_returns law hl touched).suspect state
      rw [if_pos touched]
      exact ⟨Link.returned_pending (l := l.detachedFrom i) (.inl state), queue, entry⟩
    · have returns := Blocks.slotInPlace_returns law hl touched
      rw [if_pos touched]
      exact ⟨Link.returned_pending (l := l.detachedFrom i) (.inr (.inr ⟨flies, kept⟩)), returns.wanted flies kept,
        returns.flying flies⟩
    · have returns := Blocks.slotInPlace_returns law hl touched
      obtain ⟨releasing, undeferred⟩ := Link.returned_releasing (l := l.detachedFrom i) flies removal
      obtain ⟨queue, deferred⟩ := returns.flagged flies removal
      rw [if_pos touched]
      exact ⟨releasing, undeferred, queue, deferred, returns.flying flies⟩
    · obtain ⟨queue, entry⟩ := (Blocks.slotInPlace_returns law hl touched).carried state
      rw [if_pos touched]
      exact ⟨Link.returned_pending (l := l.detachedFrom i) (.inr (.inl state)), queue, entry⟩
    · by_cases touched : l.endsOn i = true
      · have idle := stays.resolve_left (not_not.mpr touched)
        rw [if_pos touched, Link.returned_idle (l := l.detachedFrom i) idle]
        exact ⟨rfl, rfl, (Blocks.slotInPlace_returns law hl touched).idle idle⟩
      · have leaves := Blocks.slotInPlace_leaves law hl (by simpa using touched)
        rw [if_neg touched]
        exact ⟨rfl, rfl, leaves.queue, leaves.deferred, leaves.entry⟩

end

end Sys2Proof.Machine
end

section
/-! CERTIFICATE. SLOT RESTART and REVERT (R93, R116, R120): the DARK slot an accepted one leaves, and the order of their checks. -/

namespace Sys2Proof.Machine

/-! ### A slot turned DARK (R93, R137) -/

/-- What a slot that was turned DARK shows. -/
def SlotRec.darkened (r : SlotRec) :=
  (r.state, r.revertMark, r.deadline, r.latestId, r.identity, r.lostReason, r.coverReason, r.storedTerm)

/-- R93, R137: the slot is DARK and shed, with its revert mark as given. -/
structure Blocks.DarkIn (b c : Blocks) (i : SlotId) (mark : Bool) : Prop where
  shows : (c.slot i).darkened
    = (.dark, mark, none, none, none, none, (b.slot i).coverReason, (b.slot i).storedTerm)
  power : c.powerRec i = { closed := false, charge := 0, ramp := none, dark := some b.power.darkTime,
                           trips := (b.powerRec i).trips }
  out : i ∉ c.power.queue
  holds : ∀ u, (c.slot u).coveredSlot = (b.slot u).coveredSlot

section
variable {b : Blocks} {i : SlotId}

/-- R113: a slot that holds nothing, or is not LIVE, enters DARK alone. -/
theorem Blocks.enterDark_alone (alone : (b.slot i).state ≠ .live ∨ (b.slot i).coveredSlot = none) :
    b.enterState i .dark = b.changeState i .dark := by
  rw [Blocks.enterState_away (by decide)]
  split
  next live =>
    have free := alone.resolve_left (not_not.mpr live)
    have held : ((b.changeState i .dark).slot i).coveredSlot = none :=
      (Blocks.changeState_keeps SlotRec.coveredSlot (fun _ _ => rfl) (fun _ _ => rfl) b i i .dark).trans free
    unfold Blocks.spareLeftLive
    rw [held]
  · rfl

/-- R83, R93, R137: a slot goes DARK and is shed. -/
theorem Blocks.enterDark_shed (moves : (b.slot i).state ≠ .dark)
    (alone : (b.slot i).state ≠ .live ∨ (b.slot i).coveredSlot = none)
    (discharged : (b.powerRec i).closed = false → (b.powerRec i).charge = 0) :
    b.DarkIn ((b.enterState i .dark).powerShed i) i (b.slot i).revertMark := by
  have power : (b.changeState i .dark).power = b.power := by simp
  have entered := (Blocks.changeState_enters moves).2
  have before := b.abandonOrder_keeps (fun r => (r.revertMark, r.coverReason, r.storedTerm)) (fun _ _ => rfl) i i
  simp only [Prod.mk.injEq] at before
  obtain ⟨mark, reason, term⟩ := before
  rw [Blocks.enterDark_alone alone]
  refine ⟨?_, ?_, ?_, fun u => ?_⟩
  · rw [Blocks.powerShed_own, entered]
    simp [SlotRec.darkened, SlotRec.enter, SlotState.powered, SlotState.timed, mark, reason, term]
  · rw [Blocks.powerShed_rec_own, Blocks.powerRec_congr power, power, PowerRec.shed]
    split
    · rfl
    next opened => rw [discharged (by simpa using opened)]
  · rw [Blocks.powerShed_power]
    simp
  · have kept := Blocks.changeState_keeps SlotRec.coveredSlot (fun _ _ => rfl) (fun _ _ => rfl) b i u .dark
    by_cases hu : u = i
    · subst hu
      rw [Blocks.powerShed_own]
      exact kept
    · rw [Blocks.powerShed_other hu]
      exact kept

/-- R93: a LIVE slot switched off in place. -/
theorem Blocks.restartLive_dark (live : (b.slot i).state = .live) (free : (b.slot i).coveredSlot = none)
    (discharged : (b.powerRec i).closed = false → (b.powerRec i).charge = 0) :
    b.DarkIn (b.restartLive i) i (b.slot i).revertMark := by
  obtain ⟨shows, power, out, holds⟩ := Blocks.enterDark_shed (b := b) (i := i) (by rw [live]; decide) (.inr free) discharged
  have slots : ∀ c : Blocks, ∀ u, (c.slotInPlace i).slot u = c.slot u := fun c => Blocks.slot_congr (by simp)
  have same : ∀ c : Blocks, (c.slotInPlace i).power = c.power := fun c => by simp
  refine ⟨?_, ?_, ?_, fun u => ?_⟩
  · rw [Blocks.restartLive, slots]; exact shows
  · rw [Blocks.restartLive, Blocks.powerRec_congr (same _)]; exact power
  · rw [Blocks.restartLive, same]; exact out
  · rw [Blocks.restartLive, slots]; exact holds u

/-- R93: a LOST slot brought back. -/
theorem Blocks.restartLost_dark (lost : (b.slot i).state = .lost)
    (discharged : (b.powerRec i).closed = false → (b.powerRec i).charge = 0) :
    b.DarkIn (b.restartLost i) i (b.slot i).revertMark :=
  Blocks.enterDark_shed (by rw [lost]; decide) (.inl (by rw [lost]; decide)) discharged

/-- R116: a held slot whose revert begins. -/
theorem Blocks.beginRevert_dark (held : (b.slot i).state = .covered ∨ (b.slot i).state = .lost)
    (discharged : (b.powerRec i).closed = false → (b.powerRec i).charge = 0) : b.DarkIn (b.beginRevert i) i true := by
  have marked := Blocks.slot_modSlot_same b i (fun r => { r with revertMark := true })
  have apart : (b.slot i).state ≠ .dark ∧ (b.slot i).state ≠ .live := by
    rcases held with h | h <;> rw [h] <;> decide
  obtain ⟨shows, power, out, holds⟩ := Blocks.enterDark_shed (b := b.modSlot i (fun r => { r with revertMark := true })) (i := i)
    (by rw [marked]; exact apart.1) (.inl (by rw [marked]; exact apart.2)) discharged
  rw [marked] at shows
  refine ⟨shows, power, out, fun u => (holds u).trans ?_⟩
  exact Blocks.modSlot_keeps SlotRec.coveredSlot b i u fun _ => rfl

end

/-- R93: a DARK slot stays as it is to the end of the event. -/
theorem State.turnedDark {s : State} {f : Frame} {i : SlotId} {mark : Bool} {effect : Blocks → Blocks}
    (dark : s.blk.DarkIn (effect s.blk) i mark) : TurnedDark s (s.carriedOut f effect .ok []) i mark := by
  obtain ⟨settles, -⟩ := s.carriedOut_settles f effect .ok []
  obtain ⟨shows, power, out, holds⟩ := dark
  simp only [SlotRec.darkened, Prod.mk.injEq] at shows
  obtain ⟨state, marked, deadline, latestId, identity, lostReason, coverReason, storedTerm⟩ := shows
  have rest : (effect s.blk).AtRest i := ⟨by rw [state]; decide, by rw [power], out⟩
  obtain ⟨state', lostReason', latestId', identity'⟩ := settles.shows rest
  obtain ⟨-, storedTerm', -, -, coverReason', marked'⟩ := settles.lasts i
  obtain ⟨⟨-, -, out'⟩, -, power', deadline'⟩ := settles.rests i rest
  exact ⟨state'.trans state, marked'.trans marked, deadline' deadline, latestId'.trans latestId, identity'.trans identity,
    lostReason'.trans lostReason, coverReason'.trans coverReason, storedTerm'.trans storedTerm, power'.trans power, out',
    fun u => (settles.lasts u).2.2.2.1.trans (holds u)⟩

/-! ### The checks (R93, R116, R120) -/

theorem judgeRequest_slotRestart (tag v : Byte) (s : State) :
    judgeRequest { kind := 0x14, tag, body := [v] } s = s.slotRequest [v] Blocks.restartSlot := rfl

theorem judgeRequest_revert (tag v : Byte) (s : State) :
    judgeRequest { kind := 0x16, tag, body := [v] } s = s.slotRequest [v] Blocks.revertSlot := rfl

section
variable {b : Blocks} {i : SlotId}

/-- R93, R120: a SLOT RESTART that is refused. -/
theorem Blocks.restartSlot_refused (away : (b.slot i).coveredSlot.isSome = true ∨ (b.slot i).revertMark = true
    ∨ ((b.slot i).state ≠ .live ∧ (b.slot i).state ≠ .lost)) : b.restartSlot i = none := by
  unfold Blocks.restartSlot
  dsimp only
  by_cases covered : (b.slot i).state = .covered
  · rw [if_pos covered]
  · rw [if_neg covered]
    rcases away with holds | mark | ⟨live, lost⟩
    · rw [if_pos (.inl holds)]
    · rw [if_pos (.inr mark)]
    · split
      · rfl
      · simp [lost]

theorem SlotRec.not_turnedAway {r : SlotRec} {p : Prop} (h : ¬(r.coveredSlot.isSome = true ∨ r.revertMark = true ∨ p)) :
    r.coveredSlot = none ∧ r.revertMark = false := by
  rw [not_or, not_or] at h
  obtain ⟨free, steady, -⟩ := h
  exact ⟨by simpa using free, by simpa using steady⟩

/-- R93, R120: a SLOT RESTART that no check turns away, by the state of its slot and by who holds it. -/
theorem Blocks.restartSlot_taken (free : (b.slot i).coveredSlot = none) (steady : (b.slot i).revertMark = false) :
    ((b.slot i).state = .live → b.restartSlot i = some (b.restartLive i))
    ∧ ((b.slot i).state = .lost → (b.holder i).isSome = true → b.restartSlot i = some (b.beginRevert i))
    ∧ ((b.slot i).state = .lost → (b.holder i).isSome = false → b.restartSlot i = some (b.restartLost i)) := by
  unfold Blocks.restartSlot
  refine ⟨fun live => ?_, fun lost held => ?_, fun lost unheld => ?_⟩
  · simp [free, steady, live]
  · simp [free, steady, lost, held]
  · simp [free, steady, lost, unheld]

theorem Blocks.revertSlot_refused (h : ¬((∃ t, (b.slot t).coveredSlot = some i)
    ∧ ((b.slot i).state = .covered ∨ (b.slot i).state = .lost))) : b.revertSlot i = none :=
  if_neg (by rwa [Blocks.holder_isSome])

theorem Blocks.revertSlot_taken (held : ∃ t, (b.slot t).coveredSlot = some i)
    (state : (b.slot i).state = .covered ∨ (b.slot i).state = .lost) : b.revertSlot i = some (b.beginRevert i) :=
  if_pos ⟨Blocks.holder_isSome.mpr held, state⟩

end

section
variable {s : State} {tag v : Byte} {i : SlotId} (ready : s.Ready) (hv : v.toNat = i.val)
include ready hv

/-- A SLOT RESTART that is carried out. -/
theorem exec_slotRestart {effect : Blocks → Blocks} (h : s.blk.restartSlot i = some (effect s.blk)) :
    exec (.slotRestart tag [v]) s = .next (s.carriedOut { kind := 0x14, tag, body := [v] } effect .ok []) :=
  exec_carriedOut ready rfl ((judgeRequest_slotRestart tag v _).trans (State.slotRequest_done hv h))

/-- A REVERT that is carried out. -/
theorem exec_revert {effect : Blocks → Blocks} (h : s.blk.revertSlot i = some (effect s.blk)) :
    exec (.revert tag [v]) s = .next (s.carriedOut { kind := 0x16, tag, body := [v] } effect .ok []) :=
  exec_carriedOut ready rfl ((judgeRequest_revert tag v _).trans (State.slotRequest_done hv h))

end

/-- Settles O24, from the report of a slot in place, the DARK slot each effect leaves, and the checks in their order. -/
theorem restartAndRevertTurnTheSlotDark : Obligations.RestartAndRevertTurnTheSlotDark := by
  unfold Obligations.RestartAndRevertTurnTheSlotDark
  refine ⟨fun b i law => Blocks.slotInPlace_reported law i, fun s tag v i ready hv discharged => ?_, fun s tag v ready =>
    ⟨fun far => ?_, fun i hv => ⟨fun away => ?_, fun stays live => ?_, fun stays lost held => ?_, fun stays lost unheld => ?_⟩⟩,
    fun s tag v ready => ⟨fun far => ?_, fun i hv => ⟨fun barred => ?_, fun ⟨held, state⟩ => ?_⟩⟩⟩
  · refine ⟨fun free steady state => ?_, fun free steady lost held => ?_, fun held state => ?_⟩
    · obtain ⟨live, -, lost⟩ := Blocks.restartSlot_taken free steady
      rcases state with state | ⟨state, unheld⟩
      · exact ⟨_, exec_slotRestart (effect := fun b => b.restartLive i) ready hv (live state),
          State.turnedDark (steady ▸ Blocks.restartLive_dark state free discharged)⟩
      · rw [← Blocks.holder_isSome, Bool.not_eq_true] at unheld
        exact ⟨_, exec_slotRestart (effect := fun b => b.restartLost i) ready hv (lost state unheld),
          State.turnedDark (steady ▸ Blocks.restartLost_dark state discharged)⟩
    · obtain ⟨-, reverts, -⟩ := Blocks.restartSlot_taken free steady
      exact ⟨_, exec_slotRestart (effect := fun b => b.beginRevert i) ready hv (reverts lost (Blocks.holder_isSome.mpr held)),
        State.turnedDark (Blocks.beginRevert_dark (.inr lost) discharged)⟩
    · exact ⟨_, exec_revert (effect := fun b => b.beginRevert i) ready hv (Blocks.revertSlot_taken held state),
        State.turnedDark (Blocks.beginRevert_dark state discharged)⟩
  · exact exec_answers ready rfl ((judgeRequest_slotRestart tag v _).trans (State.slotRequest_none far))
  · exact exec_answers ready rfl ((judgeRequest_slotRestart tag v _).trans
      (State.slotRequest_refused hv (Blocks.restartSlot_refused away)))
  · obtain ⟨free, steady⟩ := SlotRec.not_turnedAway stays
    exact exec_slotRestart ready hv ((Blocks.restartSlot_taken free steady).1 live)
  · obtain ⟨free, steady⟩ := SlotRec.not_turnedAway stays
    exact exec_slotRestart ready hv ((Blocks.restartSlot_taken free steady).2.1 lost (Blocks.holder_isSome.mpr held))
  · obtain ⟨free, steady⟩ := SlotRec.not_turnedAway stays
    rw [← Blocks.holder_isSome, Bool.not_eq_true] at unheld
    exact exec_slotRestart ready hv ((Blocks.restartSlot_taken free steady).2.2 lost unheld)
  · exact exec_answers ready rfl ((judgeRequest_revert tag v _).trans (State.slotRequest_none far))
  · exact exec_answers ready rfl ((judgeRequest_revert tag v _).trans
      (State.slotRequest_refused hv (Blocks.revertSlot_refused barred)))
  · exact exec_revert ready hv (Blocks.revertSlot_taken held state)

end Sys2Proof.Machine
end

section
/-! CERTIFICATE. START SHELF (R80): every slot in OFF is queued, and no episode is touched. -/

namespace Sys2Proof.Machine

/-! ### What admission moves (R139, R140) -/

/-- R139: the blocks after some admissions: QUEUED slots may be RAMPING, and the episode controller stays. -/
structure Blocks.Admits (b c : Blocks) : Prop where
  ep : c.ep = b.ep
  moves : ∀ i, (c.slot i).state = (b.slot i).state ∨ ((b.slot i).state = .queued ∧ (c.slot i).state = .ramping)

namespace Blocks.Admits

variable {b c d : Blocks}

theorem refl (b : Blocks) : b.Admits b := ⟨rfl, fun _ => .inl rfl⟩

theorem trans (h : b.Admits c) (h' : c.Admits d) : b.Admits d := by
  refine ⟨h'.ep.trans h.ep, fun i => ?_⟩
  rcases h.moves i with same | ⟨queued, ramping⟩
  · rw [← same]
    exact h'.moves i
  · refine .inr ⟨queued, ?_⟩
    rcases h'.moves i with same | ⟨still, -⟩
    · exact same.trans ramping
    · rw [ramping] at still
      cases still

/-- The states of the slots and the episode controller stay. -/
theorem of_same (ep : c.ep = b.ep) (state : ∀ i, (c.slot i).state = (b.slot i).state) : b.Admits c :=
  ⟨ep, fun i => .inl (state i)⟩

theorem of_reg (ep : c.ep = b.ep) (reg : c.reg = b.reg) : b.Admits c :=
  of_same ep fun i => by rw [Blocks.slot_congr reg i]

theorem modSlot (b : Blocks) (j : SlotId) {f : SlotRec → SlotRec} (hf : ∀ r, (f r).state = r.state) :
    b.Admits (b.modSlot j f) := of_same rfl fun i => Blocks.modSlot_keeps SlotRec.state b j i hf

theorem foldl {α : Type} {f : Blocks → α → Blocks} (hf : ∀ (b : Blocks) x, b.Admits (f b x)) (xs : List α) (b : Blocks) :
    b.Admits (xs.foldl f b) := by
  induction xs generalizing b with
  | nil => exact refl b
  | cons x xs ih => exact (hf b x).trans (ih (f b x))

/-- R140: an admission takes a QUEUED slot to RAMPING. -/
theorem admitSlot (b : Blocks) (j : SlotId) : b.Admits (b.admitSlot j) := by
  unfold Blocks.admitSlot
  split
  · exact refl b
  · dsimp only
    split
    next queued =>
      rw [Blocks.enterState_away (by decide), if_neg (by rw [queued]; decide)]
      refine ⟨by simp, fun i => ?_⟩
      have started : ∀ c : Blocks, ((c.startDeadline j).slot i).state = (c.slot i).state := fun c =>
        Blocks.modSlot_keeps SlotRec.state c j i fun _ => rfl
      rw [started]
      by_cases hi : i = j
      · subst hi
        exact .inr ⟨queued, Blocks.changeState_state ..⟩
      · rw [Blocks.changeState_other _ _ hi]
        exact .inl rfl
    · exact of_reg rfl rfl

theorem judgeAdmission (b : Blocks) : b.Admits b.judgeAdmission := by
  suffices loop : ∀ n (b : Blocks), b.Admits (Blocks.admitLoop n b) from loop 16 b
  intro n
  induction n with
  | zero => exact refl
  | succ n ih =>
    intro b
    unfold Blocks.admitLoop
    split
    · exact (admitSlot b _).trans (ih _)
    · exact refl b

theorem powerQueue (b : Blocks) (j : SlotId) : b.Admits (b.powerQueue j) := by
  unfold Blocks.powerQueue
  split
  · exact refl b
  · exact (of_reg (by simp) (by simp)).trans (judgeAdmission _)

theorem notePlacement (b : Blocks) (j : SlotId) (o : BusOrder) : b.Admits (b.notePlacement j o) := by
  refine of_same (by simp) fun i => ?_
  have kept : ∀ (c : Blocks) (f : SlotRec → SlotRec), (∀ r, (f r).state = r.state) →
      ((c.modSlot j f).slot i).state = (c.slot i).state := fun c f hf => Blocks.modSlot_keeps SlotRec.state c j i hf
  unfold Blocks.notePlacement
  dsimp only
  split
  · split
    · rw [Blocks.slot_testsReset, kept, kept] <;> exact fun _ => rfl
    · rw [kept, kept] <;> exact fun _ => rfl
  · rw [kept, kept] <;> exact fun _ => rfl
  · rw [kept, kept] <;> exact fun _ => rfl
  · rw [kept]; exact fun _ => rfl

theorem placeRegistry (b : Blocks) : b.Admits b.placeRegistry := by
  refine foldl (fun b j => ?_) _ b
  unfold Blocks.placeWanted
  split
  · exact refl b
  next o _ =>
    have placed : b.Admits { b with bus := { b.bus with registryQueue := b.bus.registryQueue ++ [o] } } := of_reg rfl rfl
    exact placed.trans (notePlacement _ j o)

theorem finishCoverLoads (b : Blocks) : b.Admits b.finishCoverLoads := by
  refine foldl (fun b j => ?_) _ b
  unfold Blocks.finishCoverLoad
  split
  · exact modSlot b j fun _ => rfl
  · exact refl b

/-- R70: with the shelf in STANDBY no episode closes. -/
theorem judgeClose (b : Blocks) (t : Nat) (standby : b.ep.shelf = .standby) : b.judgeClose t = b := by
  refine if_neg fun closes => ?_
  obtain ⟨recovering, -⟩ := Blocks.closes_iff.mp closes
  rw [standby] at recovering
  cases recovering

/-- R48: at the end of an event in STANDBY there is neither a freeze nor a close. -/
theorem settle (b : Blocks) (t : Nat) (standby : b.ep.shelf = .standby) : b.Admits (b.settle t) := by
  have engine : b.Admits (Blocks.judgeEngine t b.finishCoverLoads).standDown :=
    (finishCoverLoads b).trans (of_reg (by simp) (by simp))
  have admitted := engine.trans (judgeAdmission _)
  have standing : (Blocks.judgeEngine t b.finishCoverLoads).standDown.judgeAdmission.ep.shelf = .standby := by
    rw [admitted.ep]; exact standby
  rw [Blocks.settle_thawed t (.inl (by rw [standby]; decide)), judgeClose _ t standing]
  exact (admitted.trans (placeRegistry _)).trans (of_reg (by simp) (by simp))

end Blocks.Admits

/-! ### The slots that are queued (R80) -/

/-- R77, R80: a slot in OFF is queued, and may be admitted at once; every other slot may be admitted. -/
theorem Blocks.queueSlot_queues {b : Blocks} {j : SlotId} (off : (b.slot j).state = .off) :
    (b.queueSlot j).ep = b.ep
      ∧ ((b.queueSlot j).slot j).state ∈ [SlotState.queued, .ramping]
      ∧ ∀ i, i ≠ j → ((b.queueSlot j).slot i).state = (b.slot i).state
          ∨ ((b.slot i).state = .queued ∧ ((b.queueSlot j).slot i).state = .ramping) := by
  have entered : b.enterState j .queued = b.changeState j .queued := by
    rw [Blocks.enterState_away (by decide), if_neg (by rw [off]; decide)]
  have admits := Blocks.Admits.powerQueue (b.changeState j .queued) j
  unfold Blocks.queueSlot
  rw [entered]
  refine ⟨admits.ep.trans (by simp), ?_, fun i hi => ?_⟩
  · have own : ((b.changeState j .queued).slot j).state = .queued := Blocks.changeState_state ..
    rcases admits.moves j with same | ⟨-, ramping⟩
    · rw [same, own]; decide
    · rw [ramping]; decide
  · have other := b.changeState_other .queued hi
    rw [← other]
    exact admits.moves i

/-- R80: the slots taken so far are queued or admitted, the others in OFF wait for their turn. -/
def Blocks.Starts (b : Blocks) (done : List SlotId) (c : Blocks) : Prop :=
  c.ep = b.ep ∧ ∀ i, (b.slot i).state = .off →
    if i ∈ done then (c.slot i).state ∈ [SlotState.queued, .ramping] else (c.slot i).state = .off

theorem Blocks.startSlots_starts (b : Blocks) : b.Starts allSlots (allSlots.foldl Blocks.startSlot b) := by
  refine foldl_done (fun done c j fresh ⟨ep, h⟩ => ?_) allSlots_nodup ⟨rfl, fun i off => by simpa using off⟩
  unfold Blocks.startSlot
  split
  next off =>
    obtain ⟨same, own, others⟩ := Blocks.queueSlot_queues off
    refine ⟨same.trans ep, fun i hi => ?_⟩
    have hi := h i hi
    by_cases here : i = j
    · subst here
      rw [if_pos (by simp)]
      exact own
    · simp only [List.mem_append, List.mem_singleton, here, or_false]
      split
      next past =>
        rw [if_pos past] at hi
        rcases others i here with same | ⟨-, ramping⟩
        · rw [same]; exact hi
        · rw [ramping]; decide
      next ahead =>
        rw [if_neg ahead] at hi
        rcases others i here with same | ⟨queued, -⟩
        · rw [same]; exact hi
        · rw [hi] at queued; cases queued
  next stays =>
    refine ⟨ep, fun i hi => ?_⟩
    have here : i ≠ j := by
      rintro rfl
      have hi := h i hi
      rw [if_neg fresh] at hi
      exact stays hi
    simpa [here] using h i hi

theorem judgeRequest_startShelf (tag : Byte) (s : State) :
    judgeRequest { kind := 0x06, tag, body := [] } s =
      if s.blk.ep.shelf = .cold then (s.settled Blocks.startShelf, some (.ok, [])) else s.refuse .state := rfl

/-- Settles O15, from the slots that are queued one after another and the end of an event in STANDBY. -/
theorem startShelfQueuesTheSlots : Obligations.StartShelfQueuesTheSlots := by
  unfold Obligations.StartShelfQueuesTheSlots
  refine ⟨fun b i => rfl, fun s tag ready => ⟨fun warm => ?_, fun cold => ?_⟩⟩
  · exact exec_answers ready rfl ((judgeRequest_startShelf tag _).trans (if_neg warm))
  · obtain ⟨-, feed, time, pending⟩ := s.carriedOut_settles { kind := 0x06, tag, body := [] } Blocks.startShelf .ok []
    have blk : (s.carriedOut { kind := 0x06, tag, body := [] } Blocks.startShelf .ok []).blk
        = (s.blk.startShelf.settle s.time).told := by
      rw [State.carriedOut, State.deliver_blk]
      simp only [State.replied, State.settled, State.holding]
    obtain ⟨ep, starts⟩ : (s.blk.setShelf .standby).Starts allSlots s.blk.startShelf := Blocks.startSlots_starts _
    have settles := Blocks.Admits.settle s.blk.startShelf s.time (by rw [ep]; rfl)
    refine ⟨_, exec_carriedOut ready rfl ((judgeRequest_startShelf tag _).trans (if_pos cold)), rfl, ?_, fun i off => ?_,
      feed, time, pending⟩
    · rw [blk, (Blocks.told_frame _).2.2.2.2.2]
      exact settles.ep.trans ep
    · have queued := starts i off
      rw [if_pos (mem_allSlots i)] at queued
      have told : ∀ c : Blocks, c.told.slot i = c.slot i := fun c => Blocks.slot_congr (by simp) i
      rw [blk, told]
      rcases settles.moves i with same | ⟨-, ramping⟩
      · rw [same]
        simpa using queued
      · exact .inr ramping

end Sys2Proof.Machine
end

section
/-! CERTIFICATE. LOAD SLOT (R76, R77): what its body spells, the checks in their order, and the plan an accepted one loads. -/

namespace Sys2Proof.Machine

/-! ### The body of a LOAD SLOT (R76 step 1, R176) -/

theorem Role.ofCode_eq_some {n : Nat} {v : Role} : Role.ofCode n = some v ↔ (n, v) ∈ [(0, Role.working), (1, .spare)] := by
  unfold Role.ofCode
  split <;> cases v <;> simp_all

theorem ShedPolicy.ofCode_eq_some {n : Nat} {v : ShedPolicy} :
    ShedPolicy.ofCode n = some v ↔ (n, v) ∈ [(0, ShedPolicy.keep), (1, .shed)] := by
  unfold ShedPolicy.ofCode
  split <;> cases v <;> simp_all

theorem MergeFunction.ofCode_eq_some {n : Nat} {v : MergeFunction} :
    MergeFunction.ofCode n = some v ↔ (n, v) ∈ [(0, MergeFunction.stored), (1, .card), (2, .agree), (3, .fill)] := by
  unfold MergeFunction.ofCode
  split <;> cases v <;> simp_all

theorem GroupSet.ofBits_eq_some {v : Byte} {g : GroupSet} : GroupSet.ofBits v.toNat = some g ↔ v.toNat < 16
    ∧ g.line = v.getLsbD 0 ∧ g.level = v.getLsbD 1 ∧ g.signal = v.getLsbD 2 ∧ g.admin = v.getLsbD 3 := by
  unfold GroupSet.ofBits
  obtain ⟨line, level, signal, admin⟩ := g
  split
  next small =>
    simp only [Option.some.injEq, GroupSet.mk.injEq, BitVec.testBit_toNat, small, true_and]
    exact ⟨fun ⟨h0, h1, h2, h3⟩ => ⟨h0.symm, h1.symm, h2.symm, h3.symm⟩,
      fun ⟨h0, h1, h2, h3⟩ => ⟨h0.symm, h1.symm, h2.symm, h3.symm⟩⟩
  next large => simp [large]

theorem readYesNo_eq_some {v : Byte} {x : Bool} : readYesNo v = some x ↔ (v.toNat, x) ∈ [(0, false), (1, true)] := by
  by_cases small : v.toNat ≤ 1
  · have named : v = 0 ∨ v = 1 :=
      (Nat.le_one_iff_eq_zero_or_eq_one.mp small).imp (fun h => BitVec.eq_of_toNat_eq h) fun h => BitVec.eq_of_toNat_eq h
    rcases named with rfl | rfl <;> cases x <;> decide
  · rw [readYesNo_none (by omega)]
    simp only [List.mem_cons, Prod.mk.injEq, List.not_mem_nil, or_false, reduceCtorEq, false_iff]
    omega

/-- R76 step 1: the seventeen bytes read as a plan, field by field. -/
theorem readPlan_eq_some {role type minRev ports policy rank in1 in0 st1 st0 ra1 ra0 de1 de0 fn groups cover : Byte} {p : Plan} :
    readPlan [role, type, minRev, ports, policy, rank, in1, in0, st1, st0, ra1, ra0, de1, de0, fn, groups, cover] = some p ↔
      (1 ≤ type.toNat ∧ minRev.toNat ≤ 15 ∧ 1 ≤ ports.toNat ∧ ports.toNat ≤ 32 ∧ rank.toNat ≤ 3
          ∧ 1 ≤ ofU16 in1 in0 ∧ ofU16 in1 in0 ≤ 2000 ∧ 1 ≤ ofU16 st1 st0 ∧ ofU16 st1 st0 ≤ 2000)
        ∧ Role.ofCode role.toNat = some p.role ∧ ShedPolicy.ofCode policy.toNat = some p.policy
        ∧ MergeFunction.ofCode fn.toNat = some p.mergeFunction ∧ GroupSet.ofBits groups.toNat = some p.mergeGroups
        ∧ readYesNo cover = some p.coverEnabled
        ∧ p.cardType = type.toNat ∧ p.minRevision = minRev.toNat ∧ p.portCount = ports.toNat ∧ p.admissionRank = rank.toNat
        ∧ p.inrush = ofU16 in1 in0 ∧ p.steady = ofU16 st1 st0 ∧ p.rampTime = ofU16 ra1 ra0
        ∧ p.returnDeadline = ofU16 de1 de0 := by
  unfold readPlan
  dsimp only
  constructor
  · intro h
    split at h
    next hr hp hf hg hc =>
      split at h
      next range => cases h; exact ⟨range, hr, hp, hf, hg, hc, rfl, rfl, rfl, rfl, rfl, rfl, rfl, rfl⟩
      · cases h
    · cases h
  · rintro ⟨range, hr, hp, hf, hg, hc, hType, hMin, hPorts, hRank, hIn, hSt, hRa, hDe⟩
    rw [hr, hp, hf, hg, hc]
    dsimp only
    rw [if_pos range, ← hType, ← hMin, ← hPorts, ← hRank, ← hIn, ← hSt, ← hRa, ← hDe]

/-- R76 step 1, 11.4: a plan is read exactly as it is spelled. -/
theorem readPlan_iff {fields : List Byte} (len : fields.length = 17) {p : Plan} :
    readPlan fields = some p ↔ PlanSpelled fields p := by
  match fields, len with
  | [role, type, minRev, ports, policy, rank, in1, in0, st1, st0, ra1, ra0, de1, de0, fn, groups, cover], _ =>
    rw [readPlan_eq_some]
    simp only [Role.ofCode_eq_some, ShedPolicy.ofCode_eq_some, MergeFunction.ofCode_eq_some, GroupSet.ofBits_eq_some,
      readYesNo_eq_some, PlanSpelled, numberAt, wordAt, List.getD_cons_zero, List.getD_cons_succ, ofU16_eq, List.length_cons,
      List.length_nil]
    constructor
    · rintro ⟨⟨hType, hMin, one, most, hRank, in1, in2, st1, st2⟩, hr, hp, hf, ⟨small, groups⟩, hc, eType, eMin, ePorts, eRank,
        eIn, eSt, eRa, eDe⟩
      exact ⟨trivial, hr, eType, eType ▸ hType, eMin, eMin ▸ hMin, ePorts, ePorts ▸ one, ePorts ▸ most, hp, eRank,
        eRank ▸ hRank, eIn, eIn ▸ in1, eIn ▸ in2, eSt, eSt ▸ st1, eSt ▸ st2, eRa, eDe, hf, small, groups.1, groups.2.1,
        groups.2.2.1, groups.2.2.2, hc⟩
    · rintro ⟨-, hr, eType, hType, eMin, hMin, ePorts, one, most, hp, eRank, hRank, eIn, in1, in2, eSt, st1, st2, eRa, eDe, hf,
        small, line, level, signal, admin, hc⟩
      exact ⟨⟨eType ▸ hType, eMin ▸ hMin, ePorts ▸ one, ePorts ▸ most, eRank ▸ hRank, eIn ▸ in1, eIn ▸ in2, eSt ▸ st1,
        eSt ▸ st2⟩, hr, hp, hf, ⟨small, line, level, signal, admin⟩, hc, eType, eMin, ePorts, eRank, eIn, eSt, eRa, eDe⟩

/-- R76 step 1: no plan is read where there are no fields. -/
theorem readPlan_nil {p : Plan} : readPlan [] = some p ↔ PlanSpelled [] p :=
  ⟨nofun, fun ⟨len, _⟩ => nomatch len⟩

/-- R76 step 1, 11.4: a LOAD SLOT is read exactly as it is spelled. -/
theorem readLoadSlot_iff {body : List Byte} (len : body.length = 2 ∨ body.length = 19) {i : SlotId} {plan : Option Plan} :
    readLoadSlot body = some (i, plan) ↔ LoadSlotSpelled body i plan := by
  match body, len with
  | slot :: planned :: rest, len =>
    have fields : ∀ p, readPlan rest = some p ↔ PlanSpelled rest p := fun p => by
      rcases len with len | len
      · obtain rfl : rest = [] := List.length_eq_zero_iff.mp (by simpa using len)
        exact readPlan_nil
      · exact readPlan_iff (by simpa using len)
    have first : numberAt (slot :: planned :: rest) 0 = slot.toNat := rfl
    have second : numberAt (slot :: planned :: rest) 1 = planned.toNat := rfl
    simp only [LoadSlotSpelled, first, second, List.drop_succ_cons, List.drop_zero, ← fields]
    unfold readLoadSlot
    dsimp only
    constructor
    · intro h
      split at h
      next j hslot hplanned =>
        obtain ⟨p, hp, same⟩ := Option.map_eq_some_iff.mp h
        cases same
        exact ⟨readSlot_eq_some.mp hslot, .inr ⟨by simpa using readYesNo_eq_some.mp hplanned, p, rfl, hp⟩⟩
      next j hslot hplanned =>
        cases h
        exact ⟨readSlot_eq_some.mp hslot, .inl ⟨by simpa using readYesNo_eq_some.mp hplanned, rfl⟩⟩
      · cases h
    · rintro ⟨hslot, ⟨no, rfl⟩ | ⟨yes, p, rfl, hp⟩⟩
      · rw [readSlot_eq_some.mpr hslot, (readYesNo_eq_some (x := false)).mpr (by simp [no])]
      · rw [readSlot_eq_some.mpr hslot, (readYesNo_eq_some (x := true)).mpr (by simp [yes])]
        simp [hp]

/-! ### The checks (R76 steps 2 and 3) -/

/-- A sum with one term exchanged, over a list without repetitions. -/
theorem sum_map_exchanged {α : Type} [DecidableEq α] {i : α} {xs : List α} (once : xs.Nodup) (hi : i ∈ xs) (a : Nat) (g : α → Nat) :
    (xs.map (fun j => if j = i then a else g j)).sum = a + ((xs.filter (fun j => j != i)).map g).sum := by
  have counted : (xs.map (fun j => if j = i then a else g j)).sum
      = xs.count i * a + ((xs.filter (fun j => j != i)).map g).sum := by
    clear once hi
    induction xs with
    | nil => simp
    | cons x xs ih =>
      by_cases hx : x = i
      · subst hx
        simp only [List.map_cons, if_true, List.sum_cons, ih, List.count_cons_self, bne_self_eq_false, Bool.false_eq_true,
          not_false_eq_true, List.filter_cons_of_neg, Nat.add_mul]
        omega
      · rw [List.filter_cons_of_pos (by simpa using hx), List.count_cons_of_ne hx]
        simp only [List.map_cons, if_neg hx, List.sum_cons, ih]
        omega
  rw [counted, List.count_eq_one_of_mem once hi, Nat.one_mul]

theorem sum_filterMap {α β : Type} (f : α → Option β) (g : β → Nat) (xs : List α) :
    ((xs.filterMap f).map g).sum = (xs.map (fun x => ((f x).map g).getD 0)).sum := by
  induction xs with
  | nil => rfl
  | cons x xs ih => cases hx : f x <;> simp [hx, ih]

/-- R76 step 3: the steady charge that counts for a KEEP slot. -/
def Plan.keptSteady (p : Plan) : Nat :=
  match p.policy with
  | .keep => p.steady
  | .shed => 0

theorem Plan.keptSteady_eq (p : Plan) : (if p.policy = .keep then p.steady else 0) = p.keptSteady := by
  unfold Plan.keptSteady
  cases p.policy <;> rfl

section
variable {b : Blocks} {i : SlotId} {p : Plan}

/-- The plans of the other slots. -/
def Blocks.otherPlans (b : Blocks) (i : SlotId) : List Plan :=
  (allSlots.filter (fun j => j != i)).filterMap (fun j => (b.slot j).plan)

theorem Blocks.mem_otherPlans {q : Plan} : q ∈ b.otherPlans i ↔ ∃ j, j ≠ i ∧ (b.slot j).plan = some q := by
  simp [Blocks.otherPlans, mem_allSlots]

/-- R76 step 3: the KEEP steadies with the new plan in place. -/
theorem Blocks.keptSum_eq (b : Blocks) (i : SlotId) (p : Plan) :
    ((List.finRange 16).map (fun j => if j = i then p.keptSteady else (((b.slot j).plan).map Plan.keptSteady).getD 0)).sum
      = p.keptSteady + ((b.otherPlans i).map Plan.keptSteady).sum := by
  rw [Blocks.otherPlans, sum_filterMap]
  exact sum_map_exchanged allSlots_nodup (mem_allSlots i) _ _

/-- R76 step 2: the slot may be replanned. -/
theorem Blocks.replannable_iff : b.replannable i = true ↔ b.ep.shelf = .cold
    ∨ (((b.slot i).state = .vacant ∨ (b.slot i).state = .lost) ∧ (∀ t, (b.slot t).coveredSlot ≠ some i)
      ∧ ∀ l ∈ b.store.links, l.references i = false) := by
  have unheld : (b.holder i).isNone = true ↔ ∀ t, (b.slot t).coveredSlot ≠ some i := by
    rw [← not_exists, ← Blocks.holder_isSome]
    cases b.holder i <;> simp
  simp only [Blocks.replannable, Bool.or_eq_true, Bool.and_eq_true, beq_iff_eq, unheld, Bool.not_eq_true', List.any_eq_false,
    Bool.not_eq_true, and_assoc]

/-- R76 step 3, last case. -/
theorem Blocks.planStrands_iff {plan : Option Plan} : b.planStrands i plan = true ↔ PlanStrands b i plan := by
  have refused : ∀ e : Endpoint, (e.names i && plan.all (fun p => p.role == .spare || decide (p.portCount ≤ e.port.val))) = true ↔
      (e.slot = i ∨ e.home = some i) ∧ ∀ p, plan = some p → p.role = .spare ∨ p.portCount ≤ e.port.val := by
    intro e
    cases plan <;> simp [Endpoint.names]
  unfold Blocks.planStrands PlanStrands
  dsimp only
  simp only [Bool.and_eq_true, beq_iff_eq, List.any_eq_true, Bool.or_eq_true, refused, List.mem_cons, List.not_mem_nil, or_false,
    exists_eq_or_imp, exists_eq_left]

/-- R76 step 3: the roles of the new plan and of the others agree. -/
def Blocks.RolesAgree (b : Blocks) (i : SlotId) (p : Plan) : Prop :=
  (p.role = .spare → p.coverEnabled = false ∧ ∀ j q, j ≠ i ∧ (b.slot j).plan = some q →
      q.role = .working ∧ (q.coverEnabled = true → q.portCount ≤ p.portCount))
    ∧ (p.role = .working → p.coverEnabled = true → ∀ j q, j ≠ i ∧ (b.slot j).plan = some q → q.role = .spare →
        p.portCount ≤ q.portCount)

theorem Blocks.forall_otherPlans {P : Plan → Prop} :
    (∀ q ∈ b.otherPlans i, P q) ↔ ∀ j q, j ≠ i ∧ (b.slot j).plan = some q → P q := by
  simp only [Blocks.mem_otherPlans]
  exact ⟨fun h j q hq => h q ⟨j, hq⟩, fun h q ⟨j, hq⟩ => h j q hq⟩

theorem Blocks.rolesAgree_iff : (match p.role with
      | .spare =>
        !(b.otherPlans i).any (fun q => q.role == .spare) && !p.coverEnabled
          && (b.otherPlans i).all (fun q => q.role == .spare || !q.coverEnabled || decide (q.portCount ≤ p.portCount))
      | .working =>
        !p.coverEnabled || (b.otherPlans i).all (fun q => q.role == .working || decide (p.portCount ≤ q.portCount))) = true
    ↔ b.RolesAgree i p := by
  unfold Blocks.RolesAgree
  simp only [← Blocks.forall_otherPlans (b := b) (i := i)]
  cases role : p.role with
  | spare =>
    simp only [Bool.and_eq_true, Bool.not_eq_true', List.any_eq_false, List.all_eq_true, beq_iff_eq, Bool.or_eq_true,
      decide_eq_true_eq, true_imp_iff, reduceCtorEq, false_imp_iff, and_true]
    constructor
    · rintro ⟨⟨lone, plain⟩, fits⟩
      refine ⟨plain, fun q hq => ?_⟩
      have works : q.role = .working := by
        have := lone q hq
        cases h : q.role <;> simp_all
      refine ⟨works, fun covers => ?_⟩
      simpa [works, covers] using fits q hq
    · rintro ⟨plain, others⟩
      refine ⟨⟨fun q hq => by simp [(others q hq).1], plain⟩, fun q hq => ?_⟩
      cases covers : q.coverEnabled with
      | false => simp
      | true => exact .inr ((others q hq).2 covers)
  | working =>
    simp only [Bool.or_eq_true, Bool.not_eq_true', List.all_eq_true, beq_iff_eq, decide_eq_true_eq, reduceCtorEq,
      false_imp_iff, true_and, true_imp_iff]
    constructor
    · intro h covers q hq spare
      rcases h with plain | fits
      · rw [covers] at plain; cases plain
      · simpa [spare] using fits q hq
    · intro h
      cases covers : p.coverEnabled with
      | false => exact .inl rfl
      | true =>
        refine .inr fun q hq => ?_
        cases spare : q.role with
        | working => exact .inl rfl
        | spare => exact .inr (h covers q hq spare)

/-- R76 step 3, its parts named. -/
theorem planAgrees_parts {cap : Nat} : PlanAgrees b cap i p ↔ p.steady ≤ p.inrush ∧ p.inrush ≤ cap
    ∧ ((List.finRange 16).map (fun j => if j = i then p.keptSteady else (((b.slot j).plan).map Plan.keptSteady).getD 0)).sum
        ≤ cap
    ∧ b.RolesAgree i p ∧ ¬PlanStrands b i (some p) :=
  ⟨fun ⟨steady, inrush, sum, spare, working, stays⟩ => ⟨steady, inrush, sum, ⟨spare, working⟩, stays⟩,
    fun ⟨steady, inrush, sum, ⟨spare, working⟩, stays⟩ => ⟨steady, inrush, sum, spare, working, stays⟩⟩

/-- R76 step 3: the new plan agrees with itself, with the cap and with the other plans. -/
theorem Blocks.planAgrees_iff {cap : Nat} : b.planAgrees cap i p = true ↔ PlanAgrees b cap i p := by
  rw [planAgrees_parts, Blocks.keptSum_eq, ← Blocks.rolesAgree_iff, ← Blocks.planStrands_iff]
  unfold Blocks.planAgrees
  simp only [Plan.keptSteady_eq, Bool.and_eq_true, decide_eq_true_eq, Bool.not_eq_true', Bool.not_eq_true, and_assoc]
  rfl

end

/-! ### The plan that is loaded (R76 step 4, R77) -/

theorem Plan.clamped_eq (p : Plan) : p.clamped =
    { p with rampTime := max 10 (min p.rampTime 2550), returnDeadline := max 1 (min p.returnDeadline 600) } := by
  simp only [Plan.clamped, clamp, Nat.min_comm]

theorem judgeRequest_loadSlot {body : List Byte} (len : body.length = 2 ∨ body.length = 19) (tag : Byte) (s : State) :
    judgeRequest { kind := 0x05, tag, body } s = ownLoadSlot body s :=
  if_pos (by simpa using len)

section
variable (s : State) {body : List Byte} {i : SlotId}

theorem ownLoadSlot_unread (unread : readLoadSlot body = none) : ownLoadSlot body s = s.refuse .badArg := by
  unfold ownLoadSlot
  rw [unread]

variable {plan : Option Plan} (read : readLoadSlot body = some (i, plan))
include read

theorem ownLoadSlot_refused (taken : s.blk.replannable i = false) : ownLoadSlot body s = s.refuse .state := by
  unfold ownLoadSlot
  rw [read]
  exact if_pos taken

theorem ownLoadSlot_unplans (free : s.blk.replannable i = true) (unplanned : plan = none) : ownLoadSlot body s =
    if s.blk.planStrands i none then s.refuse .badArg else (s.settled (Blocks.loadPlan i none), some (.ok, [0, 0, 0, 0])) := by
  subst unplanned
  unfold ownLoadSlot
  rw [read]
  exact if_neg (by simp [free])

theorem ownLoadSlot_plans {p : Plan} (free : s.blk.replannable i = true) (planned : plan = some p) : ownLoadSlot body s =
    if s.blk.planAgrees s.feed.cap i p = false then s.refuse .badArg
    else (s.settled (Blocks.loadPlan i (some p.clamped)),
      some (if p.clamped = p then .ok else .clamped, u16 p.clamped.rampTime ++ u16 p.clamped.returnDeadline)) := by
  have status : Status.accepted (p.clamped != p) = if p.clamped = p then .ok else .clamped := by
    simp only [Status.accepted, bne_iff_ne, ne_eq, ite_not]
  subst planned
  unfold ownLoadSlot
  rw [read, ← status]
  exact if_neg (by simp [free])

end

/-- Settles O14, from what a body spells, the checks in their order, and the plan that is loaded. -/
theorem loadSlotReplacesThePlan : Obligations.LoadSlotReplacesThePlan := by
  unfold Obligations.LoadSlotReplacesThePlan
  intro s tag body ready len
  have judged := fun t => judgeRequest_loadSlot len tag t
  refine ⟨fun unspelled => ?_, fun i plan spelled => ?_⟩
  · have unread : readLoadSlot body = none :=
      Option.eq_none_iff_forall_ne_some.mpr fun ⟨i, plan⟩ read => unspelled i plan ((readLoadSlot_iff len).mp read)
    exact exec_answers ready rfl ((judged _).trans (ownLoadSlot_unread _ unread))
  · have read := (readLoadSlot_iff len).mpr spelled
    dsimp only
    rw [← Blocks.replannable_iff]
    refine ⟨fun taken => ?_, fun free unplanned stays => ?_, fun free unplanned strands => ?_, fun free p planned apart => ?_,
      fun free p q planned agrees clamped => ?_⟩
    · exact exec_answers ready rfl ((judged _).trans (ownLoadSlot_refused (s.holding _) read (by simpa using taken)))
    · exact exec_carriedOut ready rfl ((judged _).trans ((ownLoadSlot_unplans (s.holding _) read free unplanned).trans
        (if_neg (Blocks.planStrands_iff.not.mpr stays))))
    · exact exec_answers ready rfl ((judged _).trans ((ownLoadSlot_unplans (s.holding _) read free unplanned).trans
        (if_pos (Blocks.planStrands_iff.mpr strands))))
    · exact exec_answers ready rfl ((judged _).trans ((ownLoadSlot_plans (s.holding _) read free planned).trans
        (if_pos (Bool.eq_false_iff.mpr (Blocks.planAgrees_iff.not.mpr apart)))))
    · obtain rfl : q = p.clamped := clamped.trans p.clamped_eq.symm
      exact exec_carriedOut ready rfl ((judged _).trans ((ownLoadSlot_plans (s.holding _) read free planned).trans
        (if_neg (by rw [Bool.not_eq_false]; exact Blocks.planAgrees_iff.mpr agrees))))

end Sys2Proof.Machine
end

section
/-! SUPPORT. The outcome of an order of the registry (R83, R89, R92): the order ended, the loss or the restart it can bring, and a
slot that becomes LIVE (R113, R117). -/

namespace Sys2Proof.Machine

section
variable {b : Blocks} {i j : SlotId} {st : SlotState}

theorem Blocks.modSlot_modSlot (b : Blocks) (i : SlotId) (f g : SlotRec → SlotRec) :
    (b.modSlot i f).modSlot i g = b.modSlot i (fun r => g (f r)) := by
  simp [Blocks.modSlot]

/-! ### The order ended (R83) -/

/-- R83: the slot's order has come to its end. -/
def Blocks.orderEnded (b : Blocks) (i : SlotId) : Blocks := b.modSlot i (fun r => { r with order := none })

theorem Blocks.orderEnded_slot (b : Blocks) (i : SlotId) : (b.orderEnded i).slot i = { b.slot i with order := none } :=
  Blocks.slot_modSlot_same ..

section
variable {o : BusOrder} {use : RegistryUse} (hp : o.purpose = .registry use)
  (held : (b.slot o.slot).order.any RegistryOrder.abandoned = false)
include hp

/-- R83: the outcome of an abandoned order is discarded. -/
theorem Blocks.deliver_abandoned (left : (b.slot o.slot).order.any RegistryOrder.abandoned = true) (t : Nat)
    (out : OrderOutcome) (given : List (List Byte)) : Blocks.deliver t b o out given = b.orderEnded o.slot := by
  unfold Blocks.deliver
  rw [hp]
  exact if_pos left

include held

/-- R83, R150: the outcome of an order of a loading, of a write set or of a cover load that did not complete DONE. -/
theorem Blocks.deliver_failed (loads : use ≠ .identify ∧ ∀ reverts, use ≠ .clear reverts) {out : OrderOutcome} (failed : out ≠ .done)
    (t : Nat) (given : List (List Byte)) : Blocks.deliver t b o out given = (b.orderEnded o.slot).orderFailed o.slot out := by
  unfold Blocks.deliver
  rw [hp]
  simp only [Blocks.registryOutcome, held, Bool.false_eq_true, if_false]
  cases use with
  | identify => exact absurd rfl loads.1
  | clear reverts => exact absurd rfl (loads.2 reverts)
  | writeSet => rfl
  | loadRead | loadWrite | coverRun | setTerm => exact if_neg failed

end

/-! ### The loss and the restart an outcome brings (R89, R92) -/

theorem Blocks.loseInService_lostFor (serves : (b.slot i).state.inService = true) (reason : LossReason) :
    LostFor (b.loseInService i reason) i reason := by
  rw [Blocks.loseInService, if_pos serves]
  exact b.lose_lostFor i reason

theorem Blocks.spareLeftLive_own (uncovered : (b.slot i).state ≠ .covered) : (b.spareLeftLive i).slot i = b.slot i := by
  unfold Blocks.spareLeftLive
  split
  · rfl
  next s _ =>
    split
    next covered =>
      have apart : i ≠ s := by rintro rfl; exact uncovered covered
      rw [Blocks.slot_tally, Blocks.changeState_other _ _ apart, Blocks.slot_modSlot_other _ _ _ _ apart]
    · rfl

theorem Blocks.changeState_own (idle : (b.slot i).order = none) (moves : (b.slot i).state ≠ st) :
    (b.changeState i st).slot i = (b.slot i).enter st := by
  rw [(Blocks.changeState_orderless idle).1, SlotRec.moved, if_neg moves]

/-- R78, R113: the record of a slot without an order that goes to a state other than LIVE. -/
theorem Blocks.enterState_record (idle : (b.slot i).order = none) (moves : (b.slot i).state ≠ st) (away : st ≠ .live)
    (uncovered : st ≠ .covered) : (b.enterState i st).slot i = (b.slot i).enter st := by
  have own := Blocks.changeState_own idle moves
  rw [Blocks.enterState_away away]
  split
  · rw [Blocks.spareLeftLive_own (by rw [own]; exact uncovered), own]
  · exact own

/-- R69, R113: a slot that goes to a state other than LIVE, and takes no covered slot with it, counts nothing. -/
theorem Blocks.enterState_ep (away : st ≠ .live) (alone : (b.slot i).state ≠ .live ∨ (b.slot i).coveredSlot = none) :
    (b.enterState i st).ep = b.ep := by
  have moved : (b.changeState i st).ep = b.ep := (b.changeState_frame i st).2.2.2.1
  rw [Blocks.enterState_away away]
  split
  next live =>
    have free : ((b.changeState i st).slot i).coveredSlot = none :=
      (Blocks.changeState_keeps SlotRec.coveredSlot (fun _ _ => rfl) (fun _ _ => rfl) b i i st).trans
        (alone.resolve_left (fun h => h live))
    simp only [Blocks.spareLeftLive, free, moved]
  · exact moved

/-- R92: what a restart of a LIVE slot without an order leaves. -/
theorem Blocks.cardRestart_record (idle : (b.slot i).order = none) (live : (b.slot i).state = .live) :
    (b.cardRestart i).slot i = { (b.slot i).enter .identifying with
        latestId := some .fresh, attention := false, deadline := some (b.slot i).deadlineTime }
      ∧ EndsDetached (b.cardRestart i) i
      ∧ ((b.slot i).coveredSlot = none → (b.cardRestart i).ep = b.ep.modOpen Episode.countSlotFresh) := by
  have record := Blocks.enterState_record (st := .identifying) idle (by rw [live]; decide) (by decide) (by decide)
  have restarts : b.cardRestart i = _ := if_pos (Blocks.isLive_iff.mpr live)
  rw [restarts]
  refine ⟨?_, Blocks.endsDetached_slotInPlace _ i, fun free => ?_⟩
  · rw [Blocks.slot_tally, Blocks.slot_congr (Blocks.slotInPlace_frame _ i).1, Blocks.startDeadline, Blocks.slot_modSlot_same,
      Blocks.slot_modSlot_same, record]
    rfl
  · rw [Blocks.tally, (Blocks.slotInPlace_frame _ i).2.2.1]
    exact congrArg (fun ep : EpisodeController => ep.modOpen Episode.countSlotFresh) (Blocks.enterState_ep (by decide) (.inr free))

/-! ### A slot becomes LIVE (R113, R117) -/

/-- R113: of the other slots the spare moves the one it holds, and that to COVERED. -/
theorem Blocks.coverAgain_slot (b : Blocks) (i j : SlotId) :
    (b.coverAgain i).slot j = b.slot j ∨ ((b.slot j).state = .lost ∧ (b.coverAgain i).slot j = (b.changeState j .covered).slot j) := by
  unfold Blocks.coverAgain
  split
  · exact .inl rfl
  next s _ =>
    split
    next lost =>
      by_cases hj : j = s
      · subst hj; exact .inr ⟨lost, rfl⟩
      · exact .inl (Blocks.changeState_other _ _ hj)
    · exact .inl rfl

theorem Blocks.coverAgain_free (free : (b.slot i).coveredSlot = none) : b.coverAgain i = b := by
  simp only [Blocks.coverAgain, free]

theorem Blocks.coverAgain_raised {e : Event} (h : e ∈ b.raised) : e ∈ (b.coverAgain i).raised := by
  unfold Blocks.coverAgain
  split
  · exact h
  · split
    · exact Blocks.changeState_tells h
    · exact h

/-- R117: the want of a CLEAR touches that field alone. -/
theorem Blocks.wantClear_slot (b : Blocks) (i j : SlotId) :
    ∃ clearWanted, (b.wantClear i).slot j = { b.slot j with clearWanted } := by
  have same : ∃ clearWanted, b.slot j = { b.slot j with clearWanted } := ⟨_, rfl⟩
  unfold Blocks.wantClear
  split
  · split
    next t _ =>
      split
      · exact same
      · by_cases hj : j = t
        · subst hj; exact ⟨true, Blocks.slot_modSlot_same ..⟩
        · rw [Blocks.slot_modSlot_other _ _ _ _ hj]; exact same
    · exact same
  · exact same

theorem Blocks.clearOutstanding_iff {t : SlotId} : b.clearOutstanding t = true ↔
    (b.slot t).order = some { code := .clear, abandoned := false }
      ∧ ∃ o ∈ b.bus.registryQueue, o.slot = t ∧ o.purpose = .registry (.clear true) := by
  simp [Blocks.clearOutstanding]

/-- R117: the CLEAR that a reverting slot wants of the spare that holds it. -/
theorem Blocks.wantClear_judged (b : Blocks) (i : SlotId) : ClearJudged b (b.wantClear i) i := by
  refine ⟨fun steady t => by rw [Blocks.wantClear, if_neg (by simp [steady])], fun mark _ t => ?_⟩
  dsimp only
  rw [← Blocks.holder_eq_some, ← Blocks.clearOutstanding_iff]
  cases hold : b.holder i with
  | none =>
    have idle : b.wantClear i = b := by simp only [Blocks.wantClear, mark, if_true, hold]
    rw [idle]
    simp
  | some u =>
    have judged : b.wantClear i = if b.clearOutstanding u then b else b.modSlot u (fun r => { r with clearWanted := true }) := by
      simp only [Blocks.wantClear, mark, if_true, hold]
    rw [judged]
    refine ⟨fun own free => ?_, fun own busy => ?_, fun other => ?_⟩
    · obtain rfl := Option.some.inj own
      rw [if_neg free, Blocks.slot_modSlot_same]
    · obtain rfl := Option.some.inj own
      rw [if_pos busy]
    · split
      · rfl
      · rw [Blocks.slot_modSlot_other _ _ _ _ fun same => other (congrArg some same.symm)]

/-- R117: what the CLEAR is judged by, before and after another change. -/
theorem ClearJudged.of_before {a c : Blocks} (h : ClearJudged b c i) (mark : (b.slot i).revertMark = (a.slot i).revertMark)
    (wanted : ∀ t, (b.slot t).clearWanted = (a.slot t).clearWanted)
    (held : ∀ t, (b.slot t).coveredSlot = (a.slot t).coveredSlot)
    (orders : (a.slot i).coveredSlot = none → b.bus = a.bus ∧ ∀ t, t ≠ i → (b.slot t).order = (a.slot t).order) :
    ClearJudged a c i := by
  obtain ⟨steady, reverts⟩ := h
  refine ⟨fun hm t => (steady (mark.trans hm) t).trans (wanted t), fun hm free t => ?_⟩
  have judged := reverts (mark.trans hm) ((held i).trans free) t
  obtain ⟨bus, order⟩ := orders free
  simp only [held, wanted, bus] at judged
  refine ⟨fun own => ?_, fun own => ?_, judged.2.2⟩
  all_goals
    have apart : t ≠ i := by rintro rfl; rw [free] at own; cases own.1
    rw [order t apart] at judged
  · exact judged.1 own
  · exact judged.2.1 own

/-- R78, R113, R117: a slot without an order that becomes LIVE. -/
theorem Blocks.becomesLive (idle : (b.slot i).order = none) (moves : (b.slot i).state ≠ .live) :
    let c := b.enterState i .live
    (∃ clearWanted, c.slot i = { (b.slot i).enter .live with clearWanted }) ∧ c.store = b.store ∧ c.engine = b.engine
      ∧ ((b.slot i).coveredSlot = none → c.ep = b.ep) ∧ .slotState i (b.slot i).state .live none ∈ c.raised
      ∧ ClearJudged b c i
      ∧ ∀ s, s ≠ i → (b.slot i).coveredSlot = some s → (b.slot s).state = .lost → (c.slot s).state = .covered := by
  intro c
  have enters : c = ((b.changeState i .live).coverAgain i).wantClear i := by simp [c, Blocks.enterState]
  have own := Blocks.changeState_own idle moves
  have reads := fun {α : Type} (g : SlotRec → α) (ho : ∀ r o, g { r with order := o } = g r)
    (he : ∀ r st, g (r.enter st) = g r) j => Blocks.changeState_keeps g ho he b i j .live
  have covered : ((b.changeState i .live).slot i).coveredSlot = (b.slot i).coveredSlot :=
    reads SlotRec.coveredSlot (fun _ _ => rfl) (fun _ _ => rfl) i
  have frame := b.enterState_frame i .live
  refine ⟨?_, frame.2.1, frame.2.2.1, fun free => ?_, ?_, ?_, fun s apart holds lost => ?_⟩
  · obtain ⟨clearWanted, same⟩ := ((b.changeState i .live).coverAgain i).wantClear_slot i i
    refine ⟨clearWanted, ?_⟩
    rw [enters, same]
    rcases (b.changeState i .live).coverAgain_slot i i with stays | ⟨lost, -⟩
    · rw [stays, own]
    · rw [Blocks.changeState_state] at lost; cases lost
  · rw [enters, (Blocks.wantClear_frame _ _).2.2.2.2.1, Blocks.coverAgain_free (covered.trans free)]
    exact (b.changeState_frame i .live).2.2.2.1
  · rw [enters, (Blocks.wantClear_frame _ _).2.2.2.2.2.1]
    refine Blocks.coverAgain_raised ?_
    rw [Blocks.changeState_raised moves, Blocks.changeState_unlost moves (by decide)]
    exact List.mem_append_right _ (List.mem_singleton_self _)
  · have again : ∀ {α : Type} (g : SlotRec → α) (_ : ∀ r o, g { r with order := o } = g r) (_ : ∀ r st, g (r.enter st) = g r) t,
        g (((b.changeState i .live).coverAgain i).slot t) = g (b.slot t) := by
      intro α g ho he t
      rcases (b.changeState i .live).coverAgain_slot i t with same | ⟨-, moved⟩
      · rw [same, reads g ho he]
      · rw [moved, Blocks.changeState_keeps g ho he, reads g ho he]
    rw [enters]
    refine ClearJudged.of_before (Blocks.wantClear_judged _ i) (again SlotRec.revertMark (fun _ _ => rfl) (fun _ _ => rfl) i)
      (again SlotRec.clearWanted (fun _ _ => rfl) (fun _ _ => rfl)) (again SlotRec.coveredSlot (fun _ _ => rfl) (fun _ _ => rfl))
      fun free => ?_
    rw [Blocks.coverAgain_free (covered.trans free)]
    exact ⟨(Blocks.changeState_orderless idle).2, fun t ht => by rw [Blocks.changeState_other _ _ ht]⟩
  · have held : ((b.changeState i .live).coverAgain i).slot s = ((b.changeState i .live).changeState s .covered).slot s := by
      simp only [Blocks.coverAgain, covered, holds, Blocks.changeState_other _ _ apart, lost, if_true, Blocks.slot_tally]
    obtain ⟨clearWanted, same⟩ := ((b.changeState i .live).coverAgain i).wantClear_slot i s
    rw [enters, same, held]
    exact Blocks.changeState_state _ s .covered

/-- R113, R117: what the rules read of a slot that becomes LIVE. -/
def SlotRec.relations (r : SlotRec) : SlotState × Bool × Bool × Option SlotId :=
  (r.state, r.revertMark, r.clearWanted, r.coveredSlot)

/-- R78, R113, R117: a slot whose order has ended and that becomes LIVE. -/
theorem Blocks.becomesLive_after {f : SlotRec → SlotRec} (idle : (f (b.slot i)).order = none)
    (kept : (f (b.slot i)).relations = (b.slot i).relations) (moves : (b.slot i).state ≠ .live) :
    let c := (b.modSlot i f).enterState i .live
    (∃ clearWanted, c.slot i = { (f (b.slot i)).enter .live with clearWanted }) ∧ c.store = b.store ∧ c.engine = b.engine
      ∧ ((b.slot i).coveredSlot = none → c.ep = b.ep) ∧ .slotState i (b.slot i).state .live none ∈ c.raised
      ∧ ClearJudged b c i
      ∧ ∀ s, s ≠ i → (b.slot i).coveredSlot = some s → (b.slot s).state = .lost → (c.slot s).state = .covered := by
  intro c
  have own := Blocks.slot_modSlot_same b i f
  have others := fun t (ht : t ≠ i) => Blocks.slot_modSlot_other b i t f ht
  simp only [SlotRec.relations, Prod.mk.injEq] at kept
  obtain ⟨state, mark, wanted, held⟩ := kept
  have reads : ∀ {α : Type} {g : SlotRec → α}, g (f (b.slot i)) = g (b.slot i) → ∀ t, g ((b.modSlot i f).slot t) = g (b.slot t) := by
    intro α g same t
    by_cases ht : t = i
    · subst ht; rw [own, same]
    · rw [others t ht]
  have live := Blocks.becomesLive (b := b.modSlot i f) (i := i) (by rw [own]; exact idle) (by rw [own, state]; exact moves)
  simp only [own, state, held] at live
  obtain ⟨record, store, engine, ep, told, judged, covered⟩ := live
  refine ⟨record, store, engine, ep, told, ?_, fun s apart holds lost => covered s apart holds (by rw [others s apart]; exact lost)⟩
  exact ClearJudged.of_before judged (reads mark i) (reads wanted) (reads held) fun _ => ⟨rfl, fun t ht => by rw [others t ht]⟩

end

end Sys2Proof.Machine
end

section
/-! CERTIFICATE. The outcomes of the orders of a loading, of a write set and of a cover load (R86, R87, R89, R92, R100, R104, R112,
R114). -/

namespace Sys2Proof.Machine

section
variable {b : Blocks} {i : SlotId}

/-- R112: the ports written to a card are those of the plan of its record source. -/
theorem Blocks.sourcePorts_eq {p : Plan} (plan : (b.slot ((b.slot i).coveredSlot.getD i)).plan = some p) :
    b.sourcePorts i = p.portCount := by
  simp [Blocks.sourcePorts, Blocks.sourcePlan, Blocks.recordSource, plan]

theorem Blocks.sourcePorts_orderEnded (b : Blocks) (i : SlotId) : (b.orderEnded i).sourcePorts i = b.sourcePorts i := by
  have source : (b.orderEnded i).recordSource i = b.recordSource i := by
    rw [Blocks.recordSource, Blocks.orderEnded_slot, Blocks.recordSource]
  have plan : ((b.orderEnded i).slot (b.recordSource i)).plan = (b.slot (b.recordSource i)).plan :=
    Blocks.modSlot_keeps SlotRec.plan b i _ fun _ => rfl
  rw [Blocks.sourcePorts, Blocks.sourcePlan, source, plan, Blocks.sourcePorts, Blocks.sourcePlan]

/-- R100: a read run that is not the last one, and the last one. -/
theorem Blocks.runRead_eq {ld : Loading} {p : Plan} (loads : (b.slot i).loading = some ld) (plan : (b.slot i).plan = some p)
    (records : List (List Byte)) :
    let buffer := (b.slot i).readBuffer ++ records.map (fun bytes => (readPortReport bytes).getD .absent)
    b.runRead i records = if p.portCount ≤ 8 * (ld.next + 1) then b.merge p i buffer
      else b.modSlot i (fun r => { r with readBuffer := buffer, loading := some { ld with next := ld.next + 1 } }) := by
  simp only [Blocks.runRead, loads, plan, runsOf_le]

theorem Loading.advance_eq (ports : Nat) (ld : Loading) : ld.advance ports =
    if ports ≤ 8 * (ld.next + 1) then { ld with step := .writeSet } else { ld with next := ld.next + 1 } := by
  simp only [Loading.advance, runsOf_le]

/-- R112: a run of the cover load that was placed for the cover there is, and any other. -/
theorem Blocks.coverRunWritten_counts {held : SlotId} {cl : CoverLoad} (holds : (b.slot i).coveredSlot = some held)
    (load : (b.slot i).coverLoad = some cl) :
    b.coverRunWritten i held cl.runs = b.modSlot i (fun r => { r with coverLoad := some { cl with runs := cl.runs + 1 } }) := by
  unfold Blocks.coverRunWritten
  dsimp only
  rw [if_pos ⟨holds, by rw [load]; exact beq_self_eq_true _⟩]
  exact Blocks.modSlot_of_record (by simp only [load, Option.map_some])

theorem Blocks.coverRunWritten_late {held : SlotId} {run : Nat}
    (late : (b.slot i).coveredSlot ≠ some held ∨ ∀ cl, (b.slot i).coverLoad = some cl → cl.runs ≠ run) :
    b.coverRunWritten i held run = b := by
  refine if_neg fun ⟨holds, counts⟩ => late.elim (fun other => other holds) fun other => ?_
  obtain ⟨cl, load, runs⟩ := (Option.any_eq_true _ _).mp counts
  exact other cl load (beq_iff_eq.mp runs)

/-- R86: the term of a slot in LOADING. -/
theorem Blocks.termGiven_loading (loading : (b.slot i).state = .loading) (term : Nat) :
    (b.orderEnded i).termGiven i term = (b.modSlot i (fun r => { r with
      order := none, storedTerm := some term, coverLoad := r.coverLoad.map (fun c => { c with done := true }) })).enterState i
        .live := by
  unfold Blocks.termGiven
  rw [if_pos (by rw [Blocks.orderEnded_slot]; exact loading), Blocks.orderEnded, Blocks.modSlot_modSlot]

/-- R86, R113, R117: what the term of a slot in LOADING brings. -/
theorem Blocks.termGiven_becomesLive (loading : (b.slot i).state = .loading) (term : Nat) :
    let c := (b.orderEnded i).termGiven i term
    let q := c.slot i
    q.state = .live ∧ q.storedTerm = some term ∧ q.latestId = (b.slot i).latestId ∧ q.deadline = none ∧ q.loading = none
      ∧ q.order = none ∧ q.coverLoad = (b.slot i).coverLoad.map (fun c => { c with done := true })
      ∧ c.store = b.store ∧ c.engine = b.engine ∧ .slotState i .loading .live none ∈ c.raised ∧ ClearJudged b c i
      ∧ ((b.slot i).coveredSlot = none → c.ep = b.ep)
      ∧ ∀ s, (b.slot i).coveredSlot = some s → (b.slot s).state = .lost → (c.slot s).state = .covered := by
  intro c q
  obtain ⟨⟨clearWanted, record⟩, store, engine, ep, told, judged, covered⟩ :=
    Blocks.becomesLive_after (b := b) (i := i) (f := fun r => { r with
      order := none, storedTerm := some term, coverLoad := r.coverLoad.map (fun c => { c with done := true }) })
      rfl rfl (by rw [loading]; decide)
  have taken : c = _ := Blocks.termGiven_loading loading term
  rw [← taken] at record store engine ep told judged covered
  have hq : q = _ := record
  rw [loading] at told
  refine ⟨by rw [hq]; rfl, by rw [hq]; rfl, by rw [hq]; rfl, by rw [hq]; rfl, by rw [hq]; rfl, by rw [hq]; rfl, by rw [hq]; rfl,
    store, engine, told, judged, ep, fun s holds lost => covered s ?_ holds lost⟩
  rintro rfl
  cases lost.symm.trans loading

end

section
variable {b : Blocks} {o : BusOrder} (held : (b.slot o.slot).order.any RegistryOrder.abandoned = false)
include held

/-- R83: the DONE of each of these orders reaches the slot, its order ended. -/
theorem Blocks.deliver_read (hp : o.purpose = .registry .loadRead) (t : Nat) (given : List (List Byte)) :
    Blocks.deliver t b o .done given = (b.orderEnded o.slot).runRead o.slot given := by
  unfold Blocks.deliver
  rw [hp]
  simp only [Blocks.registryOutcome, held, Bool.false_eq_true, if_false, if_true]
  rfl

theorem Blocks.deliver_written (hp : o.purpose = .registry .loadWrite) (t : Nat) (given : List (List Byte)) :
    Blocks.deliver t b o .done given = (b.orderEnded o.slot).runWritten o.slot := by
  unfold Blocks.deliver
  rw [hp]
  simp only [Blocks.registryOutcome, held, Bool.false_eq_true, if_false, if_true]
  rfl

theorem Blocks.deliver_served (hp : o.purpose = .registry .writeSet) (t : Nat) (given : List (List Byte)) :
    Blocks.deliver t b o .done given = b.orderEnded o.slot := by
  unfold Blocks.deliver
  rw [hp]
  simp only [Blocks.registryOutcome, held, Bool.false_eq_true, if_false]
  rfl

theorem Blocks.deliver_covers {s : SlotId} {run : Nat} (hp : o.purpose = .registry (.coverRun s run)) (t : Nat)
    (given : List (List Byte)) :
    Blocks.deliver t b o .done given = (b.orderEnded o.slot).coverRunWritten o.slot s run := by
  unfold Blocks.deliver
  rw [hp]
  simp only [Blocks.registryOutcome, held, Bool.false_eq_true, if_false, if_true]
  rfl

theorem Blocks.deliver_term {term : Nat} (hp : o.purpose = .registry (.setTerm term)) (t : Nat) (given : List (List Byte)) :
    Blocks.deliver t b o .done given = (b.orderEnded o.slot).termGiven o.slot term := by
  unfold Blocks.deliver
  rw [hp]
  simp only [Blocks.registryOutcome, held, Bool.false_eq_true, if_false, if_true]
  rfl

/-- R86, R87, R89, R92: what these orders do at a slot in service when they do not complete DONE. -/
theorem Blocks.deliver_unserved {use : RegistryUse} (hp : o.purpose = .registry use)
    (loads : use ≠ .identify ∧ ∀ reverts, use ≠ .clear reverts) (serves : (b.slot o.slot).state.inService = true) (t : Nat)
    (given : List (List Byte)) :
    LostFor (Blocks.deliver t b o .noAnswer given) o.slot .silent ∧ LostFor (Blocks.deliver t b o .refused given) o.slot .mismatch
      ∧ ((b.slot o.slot).state ≠ .live → LostFor (Blocks.deliver t b o .fresh given) o.slot .mismatch)
      ∧ ((b.slot o.slot).state = .live →
        Blocks.deliver t b o .fresh given = (b.orderEnded o.slot).cardRestart o.slot) := by
  have failed := fun out (h : out ≠ OrderOutcome.done) => Blocks.deliver_failed hp held loads h t given
  have state : ((b.orderEnded o.slot).slot o.slot).state = (b.slot o.slot).state := by rw [Blocks.orderEnded_slot]
  have lost := Blocks.loseInService_lostFor (state ▸ serves)
  rw [failed _ (by decide), failed _ (by decide), failed _ (by decide)]
  refine ⟨lost .silent, lost .mismatch, fun away => ?_, fun live => ?_⟩
  · have dead : ¬(b.orderEnded o.slot).isLive o.slot = true := by rw [Blocks.isLive_iff, state]; exact away
    rw [Blocks.orderFailed, if_neg dead]
    exact lost .mismatch
  · exact if_pos (Blocks.isLive_iff.mpr (state.trans live))

end

/-- Settles O38, from what the DONE of each of these orders does at its slot, and from what the other outcomes do. -/
theorem loadingRunsAndTermAreCounted : Obligations.LoadingRunsAndTermAreCounted := by
  intro t b o use given hp held i r got ended
  have own : ended.slot i = { r with order := none } := b.orderEnded_slot i
  refine ⟨fun ld p read loads plan => ?_, fun ld p write loads plan => ?_, fun served => ?_, fun s run cover => ⟨?_, ?_⟩,
    fun term given => ⟨fun away => ?_, fun loading => ?_⟩, fun other uncleared serves => ?_⟩
  · subst read
    have reads := Blocks.runRead_eq (b := ended) (i := i) (by rw [own]; exact loads) (by rw [own]; exact plan) given
    have taken : got .done = ended.runRead i given := Blocks.deliver_read held hp t given
    intro absent buffer
    dsimp only at reads
    rw [taken, reads, own]
    refine ⟨fun more => ?_, fun last => if_pos last⟩
    rw [if_neg (by omega)]
    exact Blocks.modSlot_modSlot ..
  · subst write
    have taken : got .done = ended.runWritten i := Blocks.deliver_written held hp t given
    have ports : ended.sourcePorts i = p.portCount := (b.sourcePorts_orderEnded i).trans (Blocks.sourcePorts_eq plan)
    rw [taken, Blocks.runWritten, ports]
    refine (Blocks.modSlot_modSlot ..).trans (Blocks.modSlot_of_record ?_)
    have loads' : (b.slot i).loading = some ld := loads
    simp only [loads', Option.map_some, Loading.advance_eq]
  · subst served
    exact Blocks.deliver_served held hp t given
  · intro cl holds load runs
    subst cover runs
    have taken : got .done = ended.coverRunWritten i s cl.runs := Blocks.deliver_covers held hp t given
    rw [taken, Blocks.coverRunWritten_counts (by rw [own]; exact holds) (by rw [own]; exact load)]
    exact Blocks.modSlot_modSlot ..
  · intro late
    subst cover
    have taken : got .done = ended.coverRunWritten i s run := Blocks.deliver_covers held hp t given
    rw [taken]
    exact Blocks.coverRunWritten_late (by rw [own]; exact late)
  · subst given
    have taken : got .done = ended.termGiven i term := Blocks.deliver_term held hp t _
    rw [taken]
    exact if_neg (by rw [own]; exact away)
  · subst given
    have taken : got .done = (b.orderEnded i).termGiven i term := Blocks.deliver_term held hp t _
    rw [taken]
    exact Blocks.termGiven_becomesLive loading term
  · obtain ⟨silent, refused, fresh, restart⟩ := Blocks.deliver_unserved held hp ⟨other, uncleared⟩ serves t given
    refine ⟨silent, refused, fresh, fun live _ => ?_⟩
    obtain ⟨record, detached, ep⟩ := Blocks.cardRestart_record (b := ended) (i := i) (by rw [own]) (by rw [own]; exact live)
    intro c q
    have hc : c = ended.cardRestart i := restart live
    have hq : q = _ := (congrArg (fun c : Blocks => c.slot i) hc).trans record
    rw [own] at hq ep
    rw [← hc] at detached ep
    exact ⟨by rw [hq]; rfl, by rw [hq], by rw [hq], by rw [hq]; rfl, by rw [hq]; rfl, detached, ep⟩

end Sys2Proof.Machine
end

section
/-! CERTIFICATE. The outcomes of an IDENTIFY (R83 to R85, R91, R92): the card judged by its fit and its term, and the loading that
begins with a fresh one (R98, R100, R114). -/

namespace Sys2Proof.Machine

section
variable {b : Blocks} {i j : SlotId} {p : Plan} {d : Identity}

theorem Plan.fits_iff : p.fits d = true ↔
    d.cardType = p.cardType ∧ p.minRevision ≤ d.revision ∧ p.portCount ≤ d.portCount := by
  simp [Plan.fits, and_assoc]

/-! ### A loading begins (R98, R100, R101, R114) -/

theorem Blocks.mergePorts_slot (plan : Plan) (i : SlotId) (reports : List PortReport) (ports : List (Fin 32))
    (acc : Blocks × List GroupSet) (j : SlotId) : ((ports.foldl (Blocks.mergeOne plan i reports) acc).1).slot j = acc.1.slot j := by
  refine foldl_keeps (fun acc : Blocks × List GroupSet => acc.1.slot j) (fun acc p => ?_) ports acc
  unfold Blocks.mergeOne
  dsimp only
  split <;> rfl

theorem Blocks.mergePorts_tells {e : Event} (plan : Plan) (i : SlotId) (reports : List PortReport) (ports : List (Fin 32))
    {acc : Blocks × List GroupSet} (h : e ∈ acc.1.raised) :
    e ∈ ((ports.foldl (Blocks.mergeOne plan i reports) acc).1).raised := by
  induction ports generalizing acc with
  | nil => exact h
  | cons p ports ih =>
    refine ih ?_
    unfold Blocks.mergeOne
    dsimp only
    split
    · exact List.mem_append_left _ h
    · exact h

/-- R101, R103: the merge moves the loading and the read buffer of its slot, and no other record. -/
theorem Blocks.merge_record (b : Blocks) (plan : Plan) (i : SlotId) (reports : List PortReport) :
    (∃ write, (b.merge plan i reports).slot i =
        { b.slot i with loading := some { step := .writes, next := 0, write }, readBuffer := [] })
      ∧ (∀ j, j ≠ i → (b.merge plan i reports).slot j = b.slot j)
      ∧ ∀ e ∈ b.raised, e ∈ (b.merge plan i reports).raised := by
  have kept := Blocks.mergePorts_slot plan i reports (portsBelow plan.portCount) (b, [])
  refine ⟨⟨((portsBelow plan.portCount).foldl (Blocks.mergeOne plan i reports) (b, [])).2, ?_⟩, fun j hj => ?_,
    fun e he => Blocks.mergePorts_tells (acc := (b, [])) plan i reports _ he⟩
  · rw [Blocks.merge, Blocks.slot_modSlot_same, kept]
  · rw [Blocks.merge, Blocks.slot_modSlot_other _ _ _ _ hj, kept]

/-- R98, R100, R114: the record of a slot whose loading begins. -/
theorem Blocks.beginLoading_record (planned : (b.slot i).plan.isSome = true) :
    (∃ ld, (b.beginLoading i).slot i = { b.slot i with
          writeSet := [], readBuffer := [], loading := some ld
          coverLoad := if (b.slot i).coveredSlot.isSome = true then some { runs := 0, done := false } else (b.slot i).coverLoad }
        ∧ ld.next = 0
        ∧ ld.step = if (b.slot i).coveredSlot = none ∧ (b.slot i).identity.any Identity.storedConfig = true then .reads else .writes)
      ∧ (∀ j, j ≠ i → (b.beginLoading i).slot j = b.slot j)
      ∧ ∀ e ∈ b.raised, e ∈ (b.beginLoading i).raised := by
  have own := Blocks.slot_modSlot_same b i (fun r => { r with writeSet := [], readBuffer := [] })
  have others := fun j (hj : j ≠ i) => Blocks.slot_modSlot_other b i j (fun r => { r with writeSet := [], readBuffer := [] }) hj
  obtain ⟨plan, hplan⟩ := Option.isSome_iff_exists.mp planned
  unfold Blocks.beginLoading
  dsimp only
  rw [own]
  dsimp only
  cases held : (b.slot i).coveredSlot with
  | some s =>
    refine ⟨⟨{ step := .writes, next := 0, write := [] }, ?_, rfl, rfl⟩, fun j hj => ?_, fun e he => he⟩
    · dsimp only
      rw [Blocks.slot_modSlot_same, own]
      simp [held]
    · dsimp only
      rw [Blocks.slot_modSlot_other _ _ _ _ hj, others j hj]
  | none =>
    rw [hplan]
    dsimp only
    split
    next stored =>
      refine ⟨⟨{ step := .reads, next := 0, write := [] }, ?_, rfl, by simp [stored]⟩, fun j hj => ?_, fun e he => he⟩
      · rw [Blocks.slot_modSlot_same, own]
        simp [held, hplan]
      · rw [Blocks.slot_modSlot_other _ _ _ _ hj, others j hj]
    next blank =>
      obtain ⟨⟨write, record⟩, kept, told⟩ := (b.modSlot i fun r => { r with writeSet := [], readBuffer := [] }).merge_record plan i []
      refine ⟨⟨{ step := .writes, next := 0, write }, ?_, rfl, by simp [blank]⟩, fun j hj => (kept j hj).trans (others j hj), told⟩
      rw [record, own]
      simp [held, hplan]

/-- R85, R91: a fresh card's loading has begun, with what its slot keeps. -/
theorem Blocks.beginLoading_begun (loading : (b.slot i).state = .loading) (fresh : (b.slot i).latestId = some .fresh)
    (identity : (b.slot i).identity = some d) (idle : (b.slot i).order = none) (planned : (b.slot i).plan.isSome = true) :
    LoadingBegun (b.beginLoading i) i d ∧ ((b.beginLoading i).slot i).deadline = (b.slot i).deadline
      ∧ ((b.beginLoading i).slot i).storedTerm = (b.slot i).storedTerm
      ∧ ((b.beginLoading i).slot i).coveredSlot = (b.slot i).coveredSlot
      ∧ ((b.beginLoading i).slot i).attention = (b.slot i).attention := by
  obtain ⟨⟨ld, record, next, step⟩, -, -⟩ := Blocks.beginLoading_record planned
  have first : ld.step = if (b.slot i).coveredSlot = none ∧ d.storedConfig = true then .reads else .writes := by
    rw [step, identity]
    rfl
  rw [LoadingBegun, record]
  exact ⟨⟨loading, fresh, identity, idle, rfl, rfl, ⟨ld, rfl, next, first⟩, fun held => if_pos held⟩, rfl, rfl, rfl, rfl⟩

/-! ### The card is judged (R84, R85, R91) -/

section
variable (plan : (b.slot i).plan = some p)
include plan

theorem Blocks.identified_unfit (unfit : p.fits d = false) (serves : (b.slot i).state.inService = true) :
    LostFor ((b.orderEnded i).identified i d) i .mismatch := by
  have own : ((b.orderEnded i).modSlot i fun r => { r with identity := some d }).slot i =
      { b.slot i with order := none, identity := some d } := by
    rw [Blocks.slot_modSlot_same, Blocks.orderEnded_slot]
  unfold Blocks.identified
  simp only [own, plan, unfit, Bool.not_false, if_true]
  exact Blocks.loseInService_lostFor (by rw [own]; exact serves) _

variable (fits : p.fits d = true)
include fits

/-- R85: an intact card of a slot in IDENTIFYING. -/
theorem Blocks.identified_intact (identifying : (b.slot i).state = .identifying) (intact : (b.slot i).storedTerm = some d.term) :
    (b.orderEnded i).identified i d =
      let c := ((b.modSlot i (fun r => { r with order := none, identity := some d, latestId := some .intact })).enterState i
        .live).tally Episode.countSlotIntact
      if d.cause = .alarm then c.raise (.slotAlarm i d.cause) else c := by
  simp only [Blocks.identified, Blocks.orderEnded, Blocks.modSlot_modSlot, Blocks.slot_modSlot_same, plan, fits, identifying, intact,
    Bool.not_true, Bool.false_eq_true, if_false, beq_self_eq_true, if_true]

/-- R85, R92: a fresh card of a slot in IDENTIFYING. -/
theorem Blocks.identified_fresh (identifying : (b.slot i).state = .identifying) (fresh : (b.slot i).storedTerm ≠ some d.term) :
    (b.orderEnded i).identified i d =
      let c := (b.modSlot i (fun r => { r with order := none, identity := some d, latestId := some .fresh })).enterState i .loading
      (if (b.slot i).latestId = some .fresh then c else (c.slotInPlace i).tally Episode.countSlotFresh).beginLoading i := by
  simp only [Blocks.identified, Blocks.orderEnded, Blocks.modSlot_modSlot, Blocks.slot_modSlot_same, plan, fits, identifying,
    Bool.not_true, Bool.false_eq_true, if_false, beq_iff_eq, fresh]

/-- R91: an intact card of a LIVE slot. -/
theorem Blocks.identified_attended (live : (b.slot i).state = .live) (intact : (b.slot i).storedTerm = some d.term) :
    (b.orderEnded i).identified i d =
      let c := b.modSlot i (fun r => { r with order := none, identity := some d, attention := false })
      if d.cause = .alarm then c.raise (.slotAlarm i d.cause) else c := by
  simp only [Blocks.identified, Blocks.orderEnded, Blocks.modSlot_modSlot, Blocks.slot_modSlot_same, plan, fits, live, intact,
    Bool.not_true, Bool.false_eq_true, if_false, beq_self_eq_true, if_true]

/-- R91: a fresh card of a LIVE slot. -/
theorem Blocks.identified_replaced (live : (b.slot i).state = .live) (fresh : (b.slot i).storedTerm ≠ some d.term) :
    (b.orderEnded i).identified i d =
      ((((((b.modSlot i (fun r => { r with
        order := none, identity := some d, attention := false, latestId := some .fresh })).enterState i .loading).startDeadline
          i).slotInPlace i).tally Episode.countSlotFresh).beginLoading i) := by
  simp only [Blocks.identified, Blocks.orderEnded, Blocks.modSlot_modSlot, Blocks.slot_modSlot_same, plan, fits, live,
    Bool.not_true, Bool.false_eq_true, if_false, beq_iff_eq, fresh]

end

/-- R113: the slot that a spare covered is LOST with its cover reason once the spare has left LIVE. -/
theorem Blocks.leavesLive_held {st : SlotState} (away : st ≠ .live) (live : (b.slot i).state = .live)
    (holds : (b.slot i).coveredSlot = some j) (apart : j ≠ i) (covered : (b.slot j).state = .covered) :
    ((b.enterState i st).slot j).state = .lost ∧ ((b.enterState i st).slot j).lostReason = (b.slot j).coverReason := by
  have holds' : ((b.changeState i st).slot i).coveredSlot = some j :=
    (Blocks.changeState_keeps SlotRec.coveredSlot (fun _ _ => rfl) (fun _ _ => rfl) b i i st).trans holds
  have other := b.changeState_other st apart
  rw [Blocks.enterState_away away, if_pos live]
  simp only [Blocks.spareLeftLive, holds', other, covered, if_true, Blocks.slot_tally]
  refine ⟨Blocks.changeState_state _ j .lost, ?_⟩
  rw [Blocks.changeState_lostReason, Blocks.slot_modSlot_same, other]

theorem EndsDetached.same {c : Blocks} (h : EndsDetached b i) (store : c.store = b.store) : EndsDetached c i := by
  intro l hl
  rw [store] at hl
  exact h l hl

end

section
variable {b : Blocks} {o : BusOrder} (hp : o.purpose = .registry .identify)
  (held : (b.slot o.slot).order.any RegistryOrder.abandoned = false)
include hp held

theorem Blocks.deliver_identity {given : List (List Byte)} {d : Identity} (card : given.head?.bind readIdentity = some d) (t : Nat) :
    Blocks.deliver t b o .done given = (b.orderEnded o.slot).identified o.slot d := by
  unfold Blocks.deliver
  rw [hp]
  simp only [Blocks.registryOutcome, held, Bool.false_eq_true, if_false, if_true, card]
  rfl

/-- R84, R89: a FRESH completion of an IDENTIFY is a mismatch. -/
theorem Blocks.deliver_unidentified {out : OrderOutcome} (failed : out ≠ .done) (t : Nat) (given : List (List Byte)) :
    Blocks.deliver t b o out given
      = (b.orderEnded o.slot).loseInService o.slot (if out = .noAnswer then .silent else .mismatch) := by
  unfold Blocks.deliver
  rw [hp]
  simp only [Blocks.registryOutcome, held, Bool.false_eq_true, if_false]
  cases out with
  | done => exact absurd rfl failed
  | refused | fresh | noAnswer => rfl

end

/-- R40, R69, R85: a slot found fresh is reported. -/
theorem Blocks.freshReported (b : Blocks) (i : SlotId) :
    let c := (b.slotInPlace i).tally Episode.countSlotFresh
    (∀ j, c.slot j = b.slot j) ∧ EndsDetached c i ∧ c.raised = b.raised ∧ c.ep = b.ep.modOpen Episode.countSlotFresh := by
  obtain ⟨reg, -, ep, raised, -⟩ := b.slotInPlace_frame i
  exact ⟨Blocks.slot_congr reg, Blocks.endsDetached_slotInPlace b i, raised, congrArg (·.modOpen Episode.countSlotFresh) ep⟩

section
variable {b : Blocks} {i : SlotId} {p : Plan} {d : Identity} (plan : (b.slot i).plan = some p) (fits : p.fits d = true)
include plan fits

/-- R85: what an intact card of a slot in IDENTIFYING brings. -/
theorem Blocks.identified_becomesLive (identifying : (b.slot i).state = .identifying)
    (intact : (b.slot i).storedTerm = some d.term) :
    let c := (b.orderEnded i).identified i d
    let q := c.slot i
    q.state = .live ∧ q.latestId = some .intact ∧ q.identity = some d ∧ q.deadline = none
      ∧ q.storedTerm = (b.slot i).storedTerm ∧ q.order = none ∧ c.store = b.store ∧ c.engine = b.engine ∧ ClearJudged b c i
      ∧ ((b.slot i).coveredSlot = none → c.ep = b.ep.modOpen Episode.countSlotIntact)
      ∧ .slotState i .identifying .live none ∈ c.raised
      ∧ (d.cause = .alarm → .slotAlarm i .alarm ∈ c.raised)
      ∧ ∀ s, (b.slot i).coveredSlot = some s → (b.slot s).state = .lost → (c.slot s).state = .covered := by
  intro c q
  obtain ⟨⟨clearWanted, record⟩, store, engine, ep, told, judged, covered⟩ :=
    Blocks.becomesLive_after (b := b) (i := i) (f := fun r => { r with
      order := none, identity := some d, latestId := some .intact }) rfl rfl (by rw [identifying]; decide)
  have hc : c = _ := Blocks.identified_intact plan fits identifying intact
  clear_value c
  rw [identifying] at told
  generalize (b.modSlot i _).enterState i .live = x at record store engine ep told judged covered hc
  have after : c.reg = x.reg ∧ c.store = x.store ∧ c.engine = x.engine ∧ c.ep = x.ep.modOpen Episode.countSlotIntact
      ∧ (∀ e ∈ x.raised, e ∈ c.raised) ∧ (d.cause = .alarm → .slotAlarm i .alarm ∈ c.raised) := by
    rw [hc]
    dsimp only
    split
    next alarm =>
      rw [alarm]
      exact ⟨rfl, rfl, rfl, rfl, fun e he => List.mem_append_left _ he, fun _ => List.mem_append_right _ (List.mem_singleton_self _)⟩
    next calm => exact ⟨rfl, rfl, rfl, rfl, fun e he => he, fun alarm => absurd alarm calm⟩
  obtain ⟨reg, hstore, hengine, hep, htold, alarm⟩ := after
  have slots := Blocks.slot_congr reg
  have hq : q = _ := (slots i).trans record
  refine ⟨by rw [hq]; rfl, by rw [hq]; rfl, by rw [hq]; rfl, by rw [hq]; rfl, by rw [hq]; rfl, by rw [hq]; rfl,
    hstore.trans store, hengine.trans engine, ?_, fun free => hep.trans (by rw [ep free]), htold _ told, alarm,
    fun s holds lost => ?_⟩
  · simpa only [ClearJudged, slots] using judged
  · rw [slots]
    refine covered s ?_ holds lost
    rintro rfl
    cases lost.symm.trans identifying

/-- R85, R92: what a fresh card of a slot in IDENTIFYING brings. -/
theorem Blocks.identified_loads (identifying : (b.slot i).state = .identifying)
    (fresh : (b.slot i).storedTerm ≠ some d.term) :
    let c := (b.orderEnded i).identified i d
    let q := c.slot i
    LoadingBegun c i d ∧ q.deadline = (b.slot i).deadline ∧ q.storedTerm = (b.slot i).storedTerm
      ∧ q.coveredSlot = (b.slot i).coveredSlot ∧ .slotState i .identifying .loading none ∈ c.raised
      ∧ ((b.slot i).latestId = some .fresh → c.store = b.store ∧ c.engine = b.engine ∧ c.ep = b.ep)
      ∧ ((b.slot i).latestId ≠ some .fresh → EndsDetached c i ∧ c.ep = b.ep.modOpen Episode.countSlotFresh) := by
  intro c q
  have hc : c = _ := Blocks.identified_fresh plan fits identifying fresh
  have own := Blocks.slot_modSlot_same b i (fun r => { r with order := none, identity := some d, latestId := some .fresh })
  have frame := b.modSlot_frame i (fun r => { r with order := none, identity := some d, latestId := some .fresh })
  dsimp only at hc
  generalize (b.modSlot i _) = x at own frame hc
  have state : (x.slot i).state = .identifying := by rw [own]; exact identifying
  have record := Blocks.enterState_record (b := x) (st := .loading) (by rw [own]) (by rw [state]; decide) (by decide) (by decide)
  have told := Blocks.enterState_notice (b := x) (i := i) (st := .loading) (by decide) (by decide) (by rw [state]; decide)
  have ep := Blocks.enterState_ep (b := x) (i := i) (st := .loading) (by decide) (.inl (by rw [state]; decide))
  have moved := x.enterState_frame i .loading
  rw [own] at record
  rw [state] at told
  rw [frame.2.2.2.2.1] at ep
  generalize x.enterState i .loading = y at record told ep moved hc
  generalize hz : (if (b.slot i).latestId = some .fresh then y else (y.slotInPlace i).tally Episode.countSlotFresh) = z at hc
  obtain ⟨zslots, zdetached, zraised, zep⟩ := y.freshReported i
  have ztold : z.raised = y.raised := by rw [← hz]; split; exacts [rfl, zraised]
  have zrecord : z.slot i = _ := Eq.trans (by rw [← hz]; split; exacts [rfl, zslots i]) record
  obtain ⟨begun, deadline, term, covered, -⟩ := Blocks.beginLoading_begun (b := z) (i := i) (d := d) (by rw [zrecord]; rfl)
    (by rw [zrecord]; rfl) (by rw [zrecord]; rfl) (by rw [zrecord]; rfl) (by rw [zrecord]; exact plan ▸ rfl)
  obtain ⟨-, -, tells⟩ := Blocks.beginLoading_record (b := z) (i := i) (by rw [zrecord]; exact plan ▸ rfl)
  have loaded := z.beginLoading_frame i
  rw [zrecord] at deadline term covered
  rw [← hc] at begun deadline term covered tells loaded
  refine ⟨begun, deadline, term, covered, tells _ (ztold ▸ told), fun reported => ?_, fun unreported => ?_⟩
  · rw [if_pos reported] at hz
    subst hz
    exact ⟨loaded.2.2.1.trans (moved.2.1.trans frame.2.2.1), loaded.2.2.2.1.trans (moved.2.2.1.trans frame.2.2.2.1),
      loaded.2.2.2.2.1.trans ep⟩
  · rw [if_neg unreported] at hz
    subst hz
    exact ⟨EndsDetached.same zdetached loaded.2.2.1, loaded.2.2.2.2.1.trans (by rw [zep, ep])⟩

/-- R91: what a fresh card of a LIVE slot brings. -/
theorem Blocks.identified_reloads (live : (b.slot i).state = .live) (fresh : (b.slot i).storedTerm ≠ some d.term) :
    let c := (b.orderEnded i).identified i d
    let q := c.slot i
    LoadingBegun c i d ∧ q.deadline = some (p.returnDeadline * 1000) ∧ q.attention = false
      ∧ q.storedTerm = (b.slot i).storedTerm ∧ q.coveredSlot = (b.slot i).coveredSlot ∧ EndsDetached c i
      ∧ .slotState i .live .loading none ∈ c.raised
      ∧ ((b.slot i).coveredSlot = none → c.ep = b.ep.modOpen Episode.countSlotFresh)
      ∧ ∀ s, (b.slot i).coveredSlot = some s → (b.slot s).state = .covered →
          (c.slot s).state = .lost ∧ (c.slot s).lostReason = (b.slot s).coverReason := by
  intro c q
  have hc : c = _ := Blocks.identified_replaced plan fits live fresh
  have own := Blocks.slot_modSlot_same b i (fun r => { r with
    order := none, identity := some d, attention := false, latestId := some .fresh })
  have others := fun s (hs : s ≠ i) => Blocks.slot_modSlot_other b i s (fun r => { r with
    order := none, identity := some d, attention := false, latestId := some .fresh }) hs
  have frame := b.modSlot_frame i (fun r => { r with
    order := none, identity := some d, attention := false, latestId := some .fresh })
  generalize (b.modSlot i _) = x at own others frame hc
  have state : (x.slot i).state = .live := by rw [own]; exact live
  have record := Blocks.enterState_record (b := x) (st := .loading) (by rw [own]) (by rw [state]; decide) (by decide) (by decide)
  have told := Blocks.enterState_notice (b := x) (i := i) (st := .loading) (by decide) (by decide) (by rw [state]; decide)
  have ep := fun free => Blocks.enterState_ep (b := x) (i := i) (st := .loading) (by decide) (.inr free)
  have left := fun s => Blocks.leavesLive_held (b := x) (i := i) (j := s) (st := .loading) (by decide) state
  rw [own] at record ep left
  rw [state] at told
  rw [frame.2.2.2.2.1] at ep
  generalize x.enterState i .loading = y at record told ep left hc
  have timed := Blocks.slot_modSlot_same y i (fun r => { r with deadline := some r.deadlineTime })
  have untimed := fun s (hs : s ≠ i) => Blocks.slot_modSlot_other y i s (fun r => { r with deadline := some r.deadlineTime }) hs
  obtain ⟨slots, detached, ztold, zep⟩ := (y.startDeadline i).freshReported i
  generalize ((y.startDeadline i).slotInPlace i).tally Episode.countSlotFresh = z at hc slots detached ztold zep
  have zrecord : z.slot i = _ := (slots i).trans (timed.trans (by rw [record]))
  have time : ((b.slot i).plan.map Plan.returnDeadline).getD 0 = p.returnDeadline := by rw [plan]; rfl
  obtain ⟨begun, deadline, term, covered, attention⟩ := Blocks.beginLoading_begun (b := z) (i := i) (d := d) (by rw [zrecord]; rfl)
    (by rw [zrecord]; rfl) (by rw [zrecord]; rfl) (by rw [zrecord]; rfl) (by rw [zrecord]; exact plan ▸ rfl)
  obtain ⟨-, kept, tells⟩ := Blocks.beginLoading_record (b := z) (i := i) (by rw [zrecord]; exact plan ▸ rfl)
  have loaded := z.beginLoading_frame i
  rw [zrecord] at deadline term covered attention
  rw [← hc] at begun deadline term covered attention kept tells loaded
  refine ⟨begun, deadline.trans (congrArg (fun n => some (n * 1000)) time), attention, term, covered,
    EndsDetached.same detached loaded.2.2.1, tells _ (ztold ▸ told), fun free => ?_, fun s holds down => ?_⟩
  · exact loaded.2.2.2.2.1.trans (zep.trans (congrArg (·.modOpen Episode.countSlotFresh) (ep free)))
  · have apart : s ≠ i := by
      rintro rfl
      cases down.symm.trans live
    rw [kept s apart, slots s, Blocks.startDeadline, untimed s apart, ← others s apart]
    exact left s holds apart (by rw [others s apart]; exact down)

end

/-- Settles O36, by the outcome, and for a card that answered by its fit, the state of its slot and its term. -/
theorem identificationIsJudgedByFitAndTerm : Obligations.IdentificationIsJudgedByFitAndTerm := by
  intro t b o out given i r c q
  refine ⟨fun use hp left => Blocks.deliver_abandoned hp left t out given, fun hp held => ⟨fun idle failed => ?_, fun serves => ?_⟩⟩
  · have lost : c = _ := Blocks.deliver_unidentified hp held failed t given
    rw [lost]
    exact if_neg (by rw [Blocks.orderEnded_slot]; exact ne_true_of_eq_false idle)
  have lost : ∀ reason, LostFor ((b.orderEnded i).loseInService i reason) i reason :=
    Blocks.loseInService_lostFor (by rw [Blocks.orderEnded_slot]; exact serves)
  refine ⟨fun mismatch => ?_, fun silent => ?_, fun d p done card plan => ?_⟩
  · have taken : c = _ := Blocks.deliver_unidentified hp held (by rintro rfl; simp at mismatch) t given
    rw [taken, if_neg (by rintro rfl; simp at mismatch)]
    exact lost .mismatch
  · subst silent
    have taken : c = _ := Blocks.deliver_unidentified hp held (by decide) t given
    rw [taken]
    exact lost .silent
  · subst done
    have taken : c = (b.orderEnded i).identified i d := Blocks.deliver_identity hp held card t
    clear_value c
    subst taken
    intro fits intact
    have fit_iff : p.fits d = true ↔ fits := Plan.fits_iff
    refine ⟨fun unfit => ?_, fun fit identifying known => ?_, fun fit identifying fresh => ?_, fun fit live known => ?_,
      fun fit live fresh => ?_⟩
    · exact Blocks.identified_unfit plan (by rw [← fit_iff] at unfit; simpa using unfit) serves
    · exact Blocks.identified_becomesLive plan (fit_iff.mpr fit) identifying known
    · exact Blocks.identified_loads plan (fit_iff.mpr fit) identifying fresh
    · rw [Blocks.identified_attended plan (fit_iff.mpr fit) live known]
      dsimp only
      split
      next alarm => rw [alarm]; rfl
      next calm => rw [List.append_nil]; rfl
    · exact Blocks.identified_reloads plan (fit_iff.mpr fit) live fresh

end Sys2Proof.Machine
end

section
/-! SUPPORT. The records and the ports of an order (R99, R102, R106): the records of consecutive ports, the unbroken succession at the
head of a write set, and the test states of a held slot. -/

namespace Sys2Proof.Machine

/-! ### The records of consecutive ports (R99) -/

/-- The ports of an unbroken run, by their numbers. -/
theorem map_val_portsFrom {first count : Nat} (fits : first + count ≤ 32) :
    (((portsBelow 32).filter (fun p => decide (first ≤ p.val) && decide (p.val < first + count))).map Fin.val)
      = List.range' first count := by
  have parts : List.range 32 = List.range' 0 first ++ (List.range' first count ++
      List.range' (first + count) (32 - (first + count))) := by
    have upper : List.range' first count ++ List.range' (first + count) (32 - (first + count)) = List.range' first (32 - first) := by
      rw [List.range'_append_1]
      congr 1
      omega
    have whole := List.range'_append_1 (s := 0) (m := first) (n := 32 - first)
    rw [upper, List.range_eq_range', ← show first + (32 - first) = 32 by omega, ← whole]
    simp
  have read : (fun p : Fin 32 => decide (first ≤ p.val) && decide (p.val < first + count))
      = (fun n : Nat => decide (first ≤ n) && decide (n < first + count)) ∘ Fin.val := rfl
  have ports : (portsBelow 32).map Fin.val = List.range 32 := by
    rw [portsBelow, List.filter_eq_self.mpr (by simp), List.map_coe_finRange_eq_range]
  have below : (List.range' 0 first).filter (fun n => decide (first ≤ n) && decide (n < first + count)) = [] := by
    simp only [List.filter_eq_nil_iff, List.mem_range'_1, Bool.and_eq_true, decide_eq_true_eq]
    omega
  have above : (List.range' (first + count) (32 - (first + count))).filter
      (fun n => decide (first ≤ n) && decide (n < first + count)) = [] := by
    simp only [List.filter_eq_nil_iff, List.mem_range'_1, Bool.and_eq_true, decide_eq_true_eq]
    omega
  have within : (List.range' first count).filter (fun n => decide (first ≤ n) && decide (n < first + count))
      = List.range' first count := by
    simp only [List.filter_eq_self, List.mem_range'_1, Bool.and_eq_true, decide_eq_true_eq]
    omega
  rw [read, ← List.filter_map, ports, parts, List.filter_append, List.filter_append, below, within, above, List.nil_append,
    List.append_nil]

theorem Blocks.portRecords_eq {b : Blocks} {i : SlotId} {first count : Nat} (fits : first + count ≤ 32 ∨ count = 0)
    (groups : Nat → GroupSet) (test : PortRec → TestState) :
    (b.portRecords i first count groups test).length = count
      ∧ ∀ (k : Nat) (h : first + k < 32), k < count → (b.portRecords i first count groups test)[k]? =
        some (portRecordBytes (groups (first + k)) (test (b.port (b.recordSource i) ⟨first + k, h⟩))
          (b.port (b.recordSource i) ⟨first + k, h⟩)) := by
  unfold Blocks.portRecords
  dsimp only
  rcases fits with fits | rfl
  · have numbers := map_val_portsFrom fits
    generalize (portsBelow 32).filter _ = ports at numbers
    have length : ports.length = count := by rw [← List.length_map Fin.val, numbers, List.length_range']
    refine ⟨(List.length_map _).trans length, fun k h hk => ?_⟩
    have port : ports[k]? = some ⟨first + k, h⟩ := by
      have number := congrArg (·[k]?) numbers
      simp only [List.getElem?_map, List.getElem?_range' hk, Nat.one_mul] at number
      obtain ⟨p, same, value⟩ := Option.map_eq_some_iff.mp number
      rw [same, Fin.ext (a := p) (b := ⟨first + k, h⟩) value]
    rw [List.getElem?_map, port]
    rfl
  · have empty : (portsBelow 32).filter (fun p => decide (first ≤ p.val) && decide (p.val < first + 0)) = [] := by
      simp only [List.filter_eq_nil_iff, Bool.and_eq_true, decide_eq_true_eq]
      omega
    rw [empty]
    exact ⟨rfl, fun k _ hk => absurd hk (Nat.not_lt_zero k)⟩

/-! ### The unbroken succession (R106) -/

/-- R106: the ports at the head of a write set that follow each other, at most as many as the order may name. -/
theorem successionLength_spec (n : Nat) (p : Fin 32) (rest : List (Fin 32)) :
    let len := successionLength (n + 1) (p :: rest)
    1 ≤ len ∧ len ≤ n + 1 ∧ (∀ k, k < len → ((p :: rest)[k]?).map Fin.val = some (p.val + k))
      ∧ (len = n + 1 ∨ ((p :: rest)[len]?).map Fin.val ≠ some (p.val + len)) := by
  induction n generalizing p rest with
  | zero =>
    have one : successionLength 1 (p :: rest) = 1 := by
      cases rest with
      | nil => rfl
      | cons q rest => simp [successionLength]
    simp [one]
  | succ n ih =>
    cases rest with
    | nil => simp [successionLength]
    | cons q rest =>
      by_cases next : q.val = p.val + 1
      · obtain ⟨low, high, runs, ends⟩ := ih q rest
        have len : successionLength (n + 2) (p :: q :: rest) = successionLength (n + 1) (q :: rest) + 1 := by
          rw [successionLength, if_pos next, Nat.add_comm]
        rw [len]
        refine ⟨by omega, by omega, fun k hk => ?_, ends.imp (by omega) fun other same => other ?_⟩
        · cases k with
          | zero => rfl
          | succ k =>
            rw [List.getElem?_cons_succ, runs k (by omega), next]
            exact congrArg some (by omega)
        · rw [List.getElem?_cons_succ] at same
          rw [same, next]
          exact congrArg some (by omega)
      · have one : successionLength (n + 2) (p :: q :: rest) = 1 := by rw [successionLength, if_neg next]
        simp [one, next]

/-! ### The test states of a held slot (R102, R112) -/

theorem mem_portsBelow {n : Nat} {p : Fin 32} : p ∈ portsBelow n ↔ p.val < n := by simp [portsBelow]

theorem Blocks.port_foldl_modPort {f : PortRec → PortRec} (idem : ∀ r, f (f r) = f r) (s : SlotId) (ports : List (Fin 32))
    (b : Blocks) (j : SlotId) (q : Fin 32) : (ports.foldl (fun b p => b.modPort s p f) b).port j q =
      if j = s ∧ q ∈ ports then f (b.port j q) else b.port j q := by
  induction ports generalizing b with
  | nil => simp
  | cons p ports ih =>
    rw [List.foldl_cons, ih]
    by_cases own : j = s ∧ q = p
    · obtain ⟨rfl, rfl⟩ := own
      simp [idem]
    · rw [Blocks.port_modPort_other _ _ _ _ _ _ own]
      refine if_congr ⟨fun ⟨same, later⟩ => ⟨same, List.mem_cons_of_mem _ later⟩, fun ⟨same, there⟩ => ⟨same, ?_⟩⟩ rfl rfl
      exact (List.mem_cons.mp there).resolve_left fun first => own ⟨same, first⟩

theorem Blocks.resetHeldTests_port {b : Blocks} {s : SlotId} {plan : Plan} (planned : (b.slot s).plan = some plan) (j : SlotId)
    (q : Fin 32) : (b.resetHeldTests s).port j q =
      if j = s ∧ q.val < plan.portCount then { b.port j q with test := .normal } else b.port j q := by
  have ports : ((b.slot s).plan.map Plan.portCount).getD 0 = plan.portCount := by rw [planned]; rfl
  unfold Blocks.resetHeldTests
  rw [ports, Blocks.port_foldl_modPort (f := fun r => { r with test := .normal }) fun _ => rfl]
  simp only [mem_portsBelow]

end Sys2Proof.Machine
end

section
/-! CERTIFICATE. The order a slot without one wants, and its placement (R83, R86, R91, R98, R100, R104, R106, R112, R114, R117). -/

namespace Sys2Proof.Machine

section
variable {b : Blocks} {i : SlotId} {o : BusOrder}

/-! ### The placement of an order (R83) -/

theorem Blocks.placeWanted_of (wanted : b.wanted i = some o) : b.placeWanted i =
    { b with bus := { b.bus with registryQueue := b.bus.registryQueue ++ [o] } }.notePlacement i o := by
  unfold Blocks.placeWanted
  rw [wanted]

/-- R83: what wants no order has none placed. -/
theorem Blocks.placeWanted_idle (idle : b.wanted i = none) : b.placeWanted i = b := by
  unfold Blocks.placeWanted
  rw [idle]

theorem Blocks.eq_of_frame {c : Blocks} (h : c.power = b.power ∧ c.bus = b.bus ∧ c.store = b.store ∧ c.engine = b.engine
    ∧ c.ep = b.ep ∧ c.raised = b.raised ∧ c.passOutcome = b.passOutcome) : c = { b with reg := c.reg } := by
  cases c
  obtain ⟨rfl, rfl, rfl, rfl, rfl, rfl, rfl⟩ := h
  rfl

theorem Blocks.notePlacement_order (b : Blocks) (i : SlotId) (o : BusOrder) :
    ((b.notePlacement i o).slot i).order = some { code := o.code, abandoned := false } := by
  have first := Blocks.slot_modSlot_same b i (fun r => { r with order := some { code := o.code, abandoned := false } })
  unfold Blocks.notePlacement
  dsimp only
  split
  · split
    · rw [Blocks.slot_testsReset, Blocks.slot_modSlot_same, first]
    · rw [Blocks.slot_modSlot_same, first]
  · rw [Blocks.slot_modSlot_same, first]
  · rw [Blocks.slot_modSlot_same, first]
  · rw [first]

/-- R83, R150: the wanted order stands placed. -/
theorem Blocks.placeWanted_placed (wanted : b.wanted i = some o) : Placed b (b.placeWanted i) i o := by
  rw [Blocks.placeWanted_of wanted]
  exact ⟨Blocks.eq_of_frame (Blocks.notePlacement_frame ..), Blocks.notePlacement_order ..⟩

/-- R78, R86: the loading of a slot whose SET TERM is placed. -/
theorem Blocks.notePlacement_term (code : o.code = .setTerm) :
    ((b.notePlacement i o).slot i).loading = (b.slot i).loading.map (fun ld => { ld with step := .setTerm }) := by
  unfold Blocks.notePlacement
  rw [code]
  dsimp only
  rw [Blocks.slot_modSlot_same, Blocks.slot_modSlot_same]

/-- R117: a CLEAR once placed is wanted no more. -/
theorem Blocks.notePlacement_clear (code : o.code = .clear) : ((b.notePlacement i o).slot i).clearWanted = false := by
  unfold Blocks.notePlacement
  rw [code]
  dsimp only
  rw [Blocks.slot_modSlot_same]

/-- R112, R114: the order is the first run of the cover load, where its slot holds one. -/
def BusOrder.startsCoverLoad (o : BusOrder) : Bool :=
  match o.purpose with
  | .registry .loadWrite => o.first == 0
  | .registry (.coverRun _ run) => run == 0
  | _ => false

/-- R78, R98: the record of a slot whose WRITE PORTS is placed. -/
def SlotRec.writes (r : SlotRec) (o : BusOrder) : SlotRec :=
  { r with
    order := some { code := o.code, abandoned := false }
    writeSet := r.writeSet.filter (fun p => !(decide (o.first ≤ p.val) && decide (p.val < o.first + o.count))) }

theorem Blocks.notePlacement_write (code : o.code = .writePorts) : b.notePlacement i o =
    match (b.slot i).coveredSlot with
    | some s => if o.startsCoverLoad then (b.modSlot i (fun r => r.writes o)).resetHeldTests s else b.modSlot i (fun r => r.writes o)
    | none => b.modSlot i (fun r => r.writes o) := by
  unfold Blocks.notePlacement
  rw [code]
  dsimp only
  rw [Blocks.modSlot_modSlot, Blocks.slot_modSlot_same]
  dsimp only
  rw [← code]
  rfl

/-- R78, R98, R102: what the placement of a WRITE PORTS leaves in the record of its slot and in the port table. -/
theorem Blocks.notePlacement_writes {p : Plan} (code : o.code = .writePorts)
    (plan : (b.slot ((b.slot i).coveredSlot.getD i)).plan = some p) :
    (b.notePlacement i o).slot i = (b.slot i).writes o
      ∧ ((b.slot i).coveredSlot.isSome = true ∧ o.startsCoverLoad = true → ∀ (j : SlotId) (q : Fin 32),
          (b.notePlacement i o).port j q = if j = (b.slot i).coveredSlot.getD i ∧ q.val < p.portCount
            then { b.port j q with test := .normal } else b.port j q)
      ∧ (¬((b.slot i).coveredSlot.isSome = true ∧ o.startsCoverLoad = true) → (b.notePlacement i o).reg.ports = b.reg.ports) := by
  have record := Blocks.slot_modSlot_same b i (fun r => r.writes o)
  rw [Blocks.notePlacement_write code]
  cases held : (b.slot i).coveredSlot with
  | none => exact ⟨record, by simp, fun _ => rfl⟩
  | some s =>
    dsimp only
    refine ⟨?_, fun ⟨_, starts⟩ j q => ?_, fun later => ?_⟩
    · rw [Blocks.slot_testsReset, record]
    · rw [held] at plan
      have planned : ((b.modSlot i (fun r => r.writes o)).slot s).plan = some p :=
        (Blocks.modSlot_keeps SlotRec.plan b i s (f := fun r => r.writes o) fun _ => rfl).trans plan
      rw [if_pos starts, Blocks.resetHeldTests_port planned]
      rfl
    · rw [if_neg fun starts => later ⟨rfl, starts⟩]
      rfl

/-- R98, R102, R104, R106, R112: the WRITE PORTS that a slot wants, placed. -/
theorem Blocks.placeWanted_writes {p : Plan} {first count : Nat} {groups : Nat → GroupSet} {test : PortRec → TestState}
    {use : RegistryUse} (plan : (b.slot ((b.slot i).coveredSlot.getD i)).plan = some p) (fits : first + count ≤ 32 ∨ count = 0)
    (wanted : b.wanted i = some { slot := i, code := .writePorts, first, count, send := b.portRecords i first count groups test,
                                  purpose := .registry use })
    (runs : use = .writeSet ∨ use = .loadWrite ∨ ∃ s run, use = .coverRun s run ∧ first = 8 * run) :
    WritePlaced b (b.placeWanted i) i p first count groups test use := by
  have placed := Blocks.placeWanted_placed wanted
  obtain ⟨record, resets, keeps⟩ := Blocks.notePlacement_writes (i := i) (o := BusOrder.mk i .writePorts first count
    (b.portRecords i first count groups test) (.registry use))
    (b := { b with bus := { b.bus with registryQueue := b.bus.registryQueue ++ [_] } }) rfl plan
  rw [← Blocks.placeWanted_of wanted] at record resets keeps
  obtain ⟨length, sends⟩ := Blocks.portRecords_eq (b := b) (i := i) fits groups test
  have starts : (BusOrder.mk i .writePorts first count (b.portRecords i first count groups test) (.registry use)).startsCoverLoad = true
      ↔ first = 0 ∧ use ≠ .writeSet := by
    rcases runs with rfl | rfl | ⟨s, run, rfl, rfl⟩ <;> simp [BusOrder.startsCoverLoad]
  rw [starts] at resets keeps
  refine ⟨⟨_, placed, length, sends⟩, ?_, resets, keeps⟩
  rw [record]
  refine List.filter_congr fun q _ => ?_
  simp only [Bool.not_and, ← decide_not, Nat.not_le, Nat.not_lt]

end

/-! ### What a slot wants (R83, R104, R106, R112, R117) -/

section
variable {b : Blocks} {i : SlotId} (idle : (b.slot i).order = none)
include idle

theorem Blocks.wanted_loading {ld : Loading} (loading : (b.slot i).state = .loading) (loads : (b.slot i).loading = some ld) :
    b.wanted i = some (b.loadingOrder i ld) := by
  simp [Blocks.wanted, idle, loading, loads]

theorem Blocks.wanted_live (live : (b.slot i).state = .live) : b.wanted i = b.liveOrder i := by
  simp [Blocks.wanted, idle, live]

end

section
variable {b : Blocks} {i : SlotId} {p : Plan} (plan : (b.slot ((b.slot i).coveredSlot.getD i)).plan = some p)
include plan

theorem Blocks.sourceGroups_eq : b.sourceGroups i = p.mergeGroups := by
  simp [Blocks.sourceGroups, Blocks.sourcePlan, Blocks.recordSource, plan]

/-- R106: the write set that a slot wants written, served. -/
theorem Blocks.placeWanted_served (wanted : b.wanted i = b.writeSetOrder i) : WriteSetServed b (b.placeWanted i) i p := by
  refine ⟨fun empty => Blocks.placeWanted_idle ?_, fun q rest set => ?_⟩
  · rw [wanted, Blocks.writeSetOrder, empty]
  · obtain ⟨low, high, runs, ends⟩ := successionLength_spec 7 q rest
    refine ⟨successionLength 8 (q :: rest), low, high, runs, ends, ?_⟩
    have last := runs (successionLength 8 (q :: rest) - 1) (Nat.sub_lt low Nat.one_pos)
    obtain ⟨top, -, value⟩ := Option.map_eq_some_iff.mp last
    refine Blocks.placeWanted_writes plan (.inl ?_) ?_ (.inl rfl)
    · have := top.isLt
      omega
    · rw [wanted, Blocks.writeSetOrder, set]
      dsimp only
      rw [Blocks.sourceGroups_eq plan]

/-- R112: a cover load that waits for its next run: the slot held, and the runs already written. -/
def Blocks.NextRun (b : Blocks) (i : SlotId) (p : Plan) (s : SlotId) (k : Nat) : Prop :=
  (b.slot i).coveredSlot = some s ∧ (b.slot i).coverLoad.map CoverLoad.runs = some k ∧ 8 * k < p.portCount

variable (quiet : (b.slot i).attention = false)
include quiet

/-- R112: the next run of a cover load whose held slot does not revert. -/
theorem Blocks.liveOrder_run {s : SlotId} {k : Nat} (next : b.NextRun i p s k) (stays : (b.slot s).revertMark = false) :
    b.liveOrder i = some (b.writeRun i k p.portCount (fun _ => p.mergeGroups) (.coverRun s k)) := by
  obtain ⟨holds, runs, more⟩ := next
  obtain ⟨cl, load, rfl⟩ := Option.map_eq_some_iff.mp runs
  have left : cl.runs < runsOf p.portCount := by rw [← Nat.not_le, runsOf_le]; omega
  simp only [Blocks.liveOrder, quiet, holds, load, Blocks.sourcePorts_eq plan, Blocks.sourceGroups_eq plan, left, stays, and_self,
    if_true, Bool.false_eq_true, if_false]

/-- R112, R117: a slot with no run to place: a wanted CLEAR comes first, and the write set is held back while runs are left. -/
theorem Blocks.liveOrder_waits (reverts : ∀ s k, b.NextRun i p s k → (b.slot s).revertMark = true) :
    ((b.slot i).clearWanted = true → b.liveOrder i = some (plainOrder i .clear [] (.clear true)))
      ∧ ((b.slot i).clearWanted = false → (∃ s k, b.NextRun i p s k) → b.liveOrder i = none)
      ∧ ((b.slot i).clearWanted = false → (∀ s k, ¬b.NextRun i p s k) → b.liveOrder i = b.writeSetOrder i) := by
  have ports := Blocks.sourcePorts_eq plan
  unfold Blocks.liveOrder
  dsimp only
  rw [quiet, ports, if_neg Bool.false_ne_true]
  cases holds : (b.slot i).coveredSlot with
  | none =>
    refine ⟨fun clear => if_pos clear, fun _ ⟨s, _, next⟩ => ?_, fun unwanted _ => if_neg (by simp [unwanted])⟩
    rw [Blocks.NextRun, holds] at next
    cases next.1
  | some s =>
    cases load : (b.slot i).coverLoad with
    | none =>
      refine ⟨fun clear => if_pos clear, fun _ ⟨_, _, next⟩ => ?_, fun unwanted _ => if_neg (by simp [unwanted])⟩
      rw [Blocks.NextRun, load] at next
      cases next.2.1
    | some cl =>
      have next_iff : ∀ u k, b.NextRun i p u k ↔ u = s ∧ k = cl.runs ∧ 8 * cl.runs < p.portCount := by
        intro u k
        simp only [Blocks.NextRun, holds, load, Option.map_some, Option.some.injEq, @eq_comm _ s, @eq_comm _ cl.runs]
        constructor
        · rintro ⟨rfl, rfl, more⟩; exact ⟨rfl, rfl, more⟩
        · rintro ⟨rfl, rfl, more⟩; exact ⟨rfl, rfl, more⟩
      have left : runsOf p.portCount ≤ cl.runs ↔ ¬8 * cl.runs < p.portCount := by rw [runsOf_le, Nat.not_lt]
      dsimp only
      rw [if_neg fun ⟨more, stays⟩ => by
        rw [← Nat.not_le, left, not_not] at more
        rw [reverts s cl.runs ((next_iff _ _).mpr ⟨rfl, rfl, more⟩)] at stays
        cases stays]
      refine ⟨fun clear => if_pos clear, fun unwanted ⟨u, k, next⟩ => ?_, fun unwanted none => ?_⟩
      · rw [if_neg (by simp [unwanted]), if_neg (left.not.mpr (not_not.mpr ((next_iff u k).mp next).2.2))]
      · rw [if_neg (by simp [unwanted]), if_pos (left.mpr fun more => none s cl.runs ((next_iff _ _).mpr ⟨rfl, rfl, more⟩))]

end

/-- R100, R104, R112: the ports of a run are below the port count. -/
theorem runCount_fits {ports : Nat} (few : ports ≤ 32) (run : Nat) : 8 * run + runCount ports run ≤ 32 ∨ runCount ports run = 0 := by
  unfold runCount
  omega

/-- R83: a slot with an order, or out of service, wants none. -/
theorem Blocks.wanted_none {b : Blocks} {i : SlotId} (h : (b.slot i).order.isSome = true
    ∨ (b.slot i).state ∉ [SlotState.identifying, .loading, .live]) : b.wanted i = none := by
  unfold Blocks.wanted
  dsimp only
  split
  · rfl
  next free =>
    have away := h.resolve_left free
    split
    next identifying => simp [identifying] at away
    next loading _ => simp [loading] at away
    next live => simp [live] at away
    · rfl

/-- Settles O37, by the state of the slot, and for a LOADING slot by the step of its loading. -/
theorem wantedOrdersArePlaced : Obligations.WantedOrdersArePlaced := by
  refine ⟨fun b i h => Blocks.placeWanted_idle (Blocks.wanted_none h), fun b i idle => ?_⟩
  intro r c plain
  refine ⟨fun identifying => ?_, fun live pending => ?_, fun p plan few => ⟨fun ld loading loads => ?_, fun live quiet => ?_⟩⟩
  · exact Blocks.placeWanted_placed (o := plainOrder i .identify [] .identify) (by
      have state : (b.slot i).state = .identifying := identifying
      simp [Blocks.wanted, idle, state])
  · have wanted : b.wanted i = some (plainOrder i .identify [] .identify) := by
      rw [Blocks.wanted_live idle live]
      exact if_pos pending
    exact Blocks.placeWanted_placed wanted
  · have wanted := Blocks.wanted_loading idle loading loads
    have ports := Blocks.sourcePorts_eq plan
    have groups := Blocks.sourceGroups_eq plan
    refine ⟨fun reads => ?_, fun writes => ?_, fun rest => ?_⟩
    · rw [Blocks.loadingOrder, reads, ports] at wanted
      exact Blocks.placeWanted_placed wanted
    · rw [Blocks.loadingOrder, writes, ports, groups] at wanted
      exact Blocks.placeWanted_writes plan (runCount_fits few ld.next) wanted (.inr (.inl rfl))
    · have served : b.loadingOrder i ld = (b.writeSetOrder i).getD
          (plainOrder i .setTerm [[byte (b.slot i).nextTerm]] (.setTerm (b.slot i).nextTerm)) := by
        rcases rest with step | step <;> (rw [Blocks.loadingOrder, step]; dsimp only; cases b.writeSetOrder i <;> rfl)
      rw [served] at wanted
      refine ⟨fun set => Blocks.placeWanted_served plan ?_, fun empty => ?_⟩
      · obtain ⟨q, tail, hset⟩ := List.exists_cons_of_ne_nil set
        have hset' : (b.slot i).writeSet = q :: tail := hset
        rw [wanted, Blocks.writeSetOrder, hset']
        rfl
      · have empty' : (b.slot i).writeSet = [] := empty
        rw [Blocks.writeSetOrder, empty'] at wanted
        refine ⟨Blocks.placeWanted_placed wanted, ?_⟩
        have loads' : (b.slot i).loading = some ld := loads
        rw [show c = _ from Blocks.placeWanted_of wanted]
        refine (Blocks.notePlacement_term (b := { b with bus := _ }) rfl).trans ?_
        exact congrArg (Option.map _) loads'
  · have wanted := Blocks.wanted_live idle live
    intro nextRun
    refine ⟨fun s k next stays => ?_, fun clear reverts => ?_, fun unwanted ⟨s, k, next, mark⟩ => ?_, fun unwanted none => ?_⟩
    · rw [Blocks.liveOrder_run plan quiet next stays] at wanted
      exact Blocks.placeWanted_writes plan (runCount_fits few k) wanted (.inr (.inr ⟨s, k, rfl, rfl⟩))
    · rw [(Blocks.liveOrder_waits plan quiet reverts).1 clear] at wanted
      refine ⟨Blocks.placeWanted_placed wanted, ?_⟩
      rw [show c = _ from Blocks.placeWanted_of wanted]
      exact Blocks.notePlacement_clear rfl
    · refine Blocks.placeWanted_idle (wanted.trans ((Blocks.liveOrder_waits plan quiet fun u l other => ?_).2.1 unwanted ⟨s, k, next⟩))
      obtain rfl := Option.some.inj (next.1.symm.trans other.1)
      exact mark
    · exact Blocks.placeWanted_served plan (wanted.trans
        ((Blocks.liveOrder_waits plan quiet fun u l other => absurd other (none u l)).2.2 unwanted none))

end Sys2Proof.Machine
end

section
/-! CERTIFICATE. The merge (R100 to R103): what the merge function makes of one group, of one port, and of the ports of a plan. -/

namespace Sys2Proof.Machine

/-! ### One group (R101) -/

/-- R101: a group of a record copied from a report, where it was reported and the merge function copies it. -/
def PortRec.copied {α : Type} (set : PortRec → α → PortRec) (copy : Bool) (report : Option α) (p : PortRec) : PortRec :=
  match report with
  | some v => if copy then set p v else p
  | none => p

section
variable {α β : Type} {set : PortRec → α → PortRec} {copy : Bool} {report : Option α} {p : PortRec}

/-- A reading that the group does not touch. -/
theorem PortRec.copied_keeps (read : PortRec → β) (keeps : ∀ p v, read (set p v) = read p) :
    read (p.copied set copy report) = read p := by
  cases report with
  | none => rfl
  | some v =>
    change read (if copy then set p v else p) = read p
    split
    · exact keeps p v
    · rfl

/-- The reading of the group itself. -/
theorem PortRec.copied_reads (read : PortRec → β) (limited : α → β) (reads : ∀ p v, read (set p v) = limited v) :
    read (p.copied set copy report) = report.elim (read p) fun v => if copy then limited v else read p := by
  cases report with
  | none => rfl
  | some v => exact (apply_ite read _ _ _).trans (by rw [reads]; rfl)

end

/-- R101: the table of the merge function, for a group that is reported as the model reports it. -/
theorem MergeFunction.groupMerged {α : Type} {fit : α → Prop} {limited : α → α} {before : α} {reported : α → Reported}
    (fits : ∀ v, (reported v).fit = true ↔ fit v) (equal : ∀ v, (reported v).equal = true ↔ v = before)
    (whole : ∀ v, fit v → limited v = v) (fn : MergeFunction) (inPlan : Bool) (report : Option α) :
    GroupMerged fn inPlan report fit limited before
      (report.elim before fun v => if inPlan && (fn.choose (report.map reported)).copy then limited v else before)
      (inPlan && (fn.choose (report.map reported)).write) (inPlan && (fn.choose (report.map reported)).mark) := by
  cases report with
  | none => simp [GroupMerged, MergeFunction.choose]
  | some v =>
    refine ⟨fun out => by simp [out], fun within => ⟨nofun, fun w same => ?_⟩⟩
    obtain rfl := Option.some.inj same
    have fitV := fits v
    have equalV := equal v
    simp only [within, Bool.true_and, Option.map_some, Option.elim_some]
    refine ⟨?_, ?_, ?_, ?_⟩ <;> rintro rfl
    · exact ⟨rfl, rfl, rfl⟩
    · simp [MergeFunction.choose, ← fitV]
    · rw [← fitV, ← equalV]
      cases h : (reported v).fit <;> cases h' : (reported v).equal <;> simp [MergeFunction.choose, h, h']
    · refine ⟨fun fit => ?_, fun unfit => ?_, ?_, rfl⟩
      · exact (if_pos (fitV.mpr fit)).trans (whole v fit)
      · exact if_neg (unfit ∘ fitV.mp)
      · simp [MergeFunction.choose, ← fitV]

/-! ### One port (R101) -/

def PortRec.line (p : PortRec) : Nat × Nat := (p.lineKind, p.termination)

def PortRec.level (p : PortRec) : Int × Int := (p.txLevel, p.rxLevel)

def PortRec.signal (p : PortRec) : Nat × Nat := (p.scheme, p.timing)

def PortRec.setLine (p : PortRec) (v : Nat × Nat) : PortRec := { p with lineKind := min v.1 15, termination := min v.2 3 }

def PortRec.setLevel (p : PortRec) (v : Int × Int) : PortRec :=
  { p with txLevel := clampInt (-120) 60 v.1, rxLevel := clampInt (-120) 60 v.2 }

def PortRec.setSignal (p : PortRec) (v : Nat × Nat) : PortRec := { p with scheme := min v.1 7, timing := min v.2 15 }

def PortRec.setAdmin (p : PortRec) (v : Bool) : PortRec := { p with blocked := v }

/-- R97, R101: how a reported group stands against the table's. -/
def PortRec.lineReported (p : PortRec) (v : Nat × Nat) : Reported :=
  { fit := decide (v.1 ≤ 15) && decide (v.2 ≤ 3), equal := v.1 == p.lineKind && v.2 == p.termination }

def PortRec.levelReported (p : PortRec) (v : Int × Int) : Reported :=
  { fit := levelFits v.1 && levelFits v.2, equal := v.1 == p.txLevel && v.2 == p.rxLevel }

def PortRec.signalReported (p : PortRec) (v : Nat × Nat) : Reported :=
  { fit := decide (v.1 ≤ 7) && decide (v.2 ≤ 15), equal := v.1 == p.scheme && v.2 == p.timing }

def PortRec.adminReported (p : PortRec) (v : Bool) : Reported := { fit := true, equal := v == p.blocked }

/-- R101: the four groups of a port record before and after the merge, with the groups to be written and the groups marked. -/
def PortMerged (fn : MergeFunction) (groups : GroupSet) (old : PortRec) (told : PortReport) (new : PortRec)
    (write marks : GroupSet) : Prop :=
  GroupMerged fn groups.line told.line (fun v => v.1 ≤ 15 ∧ v.2 ≤ 3) (fun v => (min v.1 15, min v.2 3))
      old.line new.line write.line marks.line
    ∧ GroupMerged fn groups.level told.level (fun v => -120 ≤ v.1 ∧ v.1 ≤ 60 ∧ -120 ≤ v.2 ∧ v.2 ≤ 60)
      (fun v => (max (-120) (min 60 v.1), max (-120) (min 60 v.2))) old.level new.level write.level marks.level
    ∧ GroupMerged fn groups.signal told.signal (fun v => v.1 ≤ 7 ∧ v.2 ≤ 15) (fun v => (min v.1 7, min v.2 15))
      old.signal new.signal write.signal marks.signal
    ∧ GroupMerged fn groups.admin told.admin (fun _ => True) id old.blocked new.blocked write.admin marks.admin

section
variable (fn : MergeFunction) (groups : GroupSet) (p : PortRec) (r : PortReport)

/-- R101: the record of a port, group after group. -/
theorem mergePort_record : (mergePort fn groups p r).1 =
    (((p.copied .setLine (groups.line && (fn.choose (r.line.map p.lineReported)).copy) r.line).copied
      .setLevel (groups.level && (fn.choose (r.level.map p.levelReported)).copy) r.level).copied
      .setSignal (groups.signal && (fn.choose (r.signal.map p.signalReported)).copy) r.signal).copied
      .setAdmin (groups.admin && (fn.choose (r.admin.map p.adminReported)).copy) r.admin := by
  obtain ⟨line, level, signal, admin⟩ := r
  cases line <;> cases level <;> cases signal <;> cases admin <;> rfl

/-- R97, R103: the merge of a port's groups leaves its test state, its disagreed field and its count. -/
theorem mergePort_keeps : (mergePort fn groups p r).1.disagreed = p.disagreed
    ∧ (mergePort fn groups p r).1.disagreements = p.disagreements := by
  have kept : ∀ {β : Type} (read : PortRec → β), (∀ p v, read (PortRec.setLine p v) = read p) →
      (∀ p v, read (PortRec.setLevel p v) = read p) → (∀ p v, read (PortRec.setSignal p v) = read p) →
      (∀ p v, read (PortRec.setAdmin p v) = read p) → read (mergePort fn groups p r).1 = read p := by
    intro β read line level signal admin
    rw [mergePort_record, PortRec.copied_keeps read admin, PortRec.copied_keeps read signal, PortRec.copied_keeps read level,
      PortRec.copied_keeps read line]
  exact ⟨kept PortRec.disagreed (fun _ _ => rfl) (fun _ _ => rfl) (fun _ _ => rfl) fun _ _ => rfl,
    kept PortRec.disagreements (fun _ _ => rfl) (fun _ _ => rfl) (fun _ _ => rfl) fun _ _ => rfl⟩

/-- R101: the LINE group of a merged record. -/
theorem mergePort_line : (mergePort fn groups p r).1.line = r.line.elim p.line fun v =>
    if groups.line && (fn.choose (r.line.map p.lineReported)).copy then (min v.1 15, min v.2 3) else p.line := by
  rw [mergePort_record, PortRec.copied_keeps (set := .setAdmin) PortRec.line fun _ _ => rfl,
    PortRec.copied_keeps (set := .setSignal) PortRec.line fun _ _ => rfl,
    PortRec.copied_keeps (set := .setLevel) PortRec.line fun _ _ => rfl]
  exact PortRec.copied_reads PortRec.line _ fun _ _ => rfl

/-- R101: the LEVEL group of a merged record. -/
theorem mergePort_level : (mergePort fn groups p r).1.level = r.level.elim p.level fun v =>
    if groups.level && (fn.choose (r.level.map p.levelReported)).copy then
      (max (-120) (min 60 v.1), max (-120) (min 60 v.2)) else p.level := by
  rw [mergePort_record, PortRec.copied_keeps (set := .setAdmin) PortRec.level fun _ _ => rfl,
    PortRec.copied_keeps (set := .setSignal) PortRec.level fun _ _ => rfl,
    PortRec.copied_reads PortRec.level (fun v => (max (-120) (min 60 v.1), max (-120) (min 60 v.2))) fun _ _ => rfl,
    PortRec.copied_keeps (set := .setLine) PortRec.level fun _ _ => rfl]

/-- R101: the SIGNAL group of a merged record. -/
theorem mergePort_signal : (mergePort fn groups p r).1.signal = r.signal.elim p.signal fun v =>
    if groups.signal && (fn.choose (r.signal.map p.signalReported)).copy then (min v.1 7, min v.2 15) else p.signal := by
  rw [mergePort_record, PortRec.copied_keeps (set := .setAdmin) PortRec.signal fun _ _ => rfl,
    PortRec.copied_reads PortRec.signal (fun v => (min v.1 7, min v.2 15)) fun _ _ => rfl,
    PortRec.copied_keeps (set := .setLevel) PortRec.signal fun _ _ => rfl,
    PortRec.copied_keeps (set := .setLine) PortRec.signal fun _ _ => rfl]

/-- R101: the ADMIN group of a merged record. -/
theorem mergePort_admin : (mergePort fn groups p r).1.blocked = r.admin.elim p.blocked fun v =>
    if groups.admin && (fn.choose (r.admin.map p.adminReported)).copy then id v else p.blocked := by
  rw [mergePort_record, PortRec.copied_reads PortRec.blocked id fun _ _ => rfl,
    PortRec.copied_keeps (set := .setSignal) PortRec.blocked fun _ _ => rfl,
    PortRec.copied_keeps (set := .setLevel) PortRec.blocked fun _ _ => rfl,
    PortRec.copied_keeps (set := .setLine) PortRec.blocked fun _ _ => rfl]

/-- R101: the groups of a merged port, each as the table of the merge function gives. -/
theorem mergePort_groups : PortMerged fn groups p r (mergePort fn groups p r).1 (mergePort fn groups p r).2.1
    (mergePort fn groups p r).2.2 := by
  refine ⟨?_, ?_, ?_, ?_⟩
  · rw [mergePort_line]
    refine MergeFunction.groupMerged (reported := p.lineReported) (fun v => ?_) (fun v => ?_) (fun v fit => ?_) fn _ _
    · simp [PortRec.lineReported]
    · simp [PortRec.lineReported, PortRec.line, Prod.ext_iff]
    · simp [fit.1, fit.2]
  · rw [mergePort_level]
    refine MergeFunction.groupMerged (reported := p.levelReported) (fun v => ?_) (fun v => ?_) (fun v fit => ?_) fn _ _
    · simp [PortRec.levelReported, levelFits, and_assoc]
    · simp [PortRec.levelReported, PortRec.level, Prod.ext_iff]
    · obtain ⟨low, high, low', high'⟩ := fit
      simp [low, high, low', high']
  · rw [mergePort_signal]
    refine MergeFunction.groupMerged (reported := p.signalReported) (fun v => ?_) (fun v => ?_) (fun v fit => ?_) fn _ _
    · simp [PortRec.signalReported]
    · simp [PortRec.signalReported, PortRec.signal, Prod.ext_iff]
    · simp [fit.1, fit.2]
  · rw [mergePort_admin]
    refine MergeFunction.groupMerged (reported := p.adminReported) (fun v => ?_) (fun v => ?_) (fun v fit => rfl) fn _ _
    · simp [PortRec.adminReported]
    · simp [PortRec.adminReported]

end

/-! ### The ports of a plan (R100, R102, R103) -/

section
variable (b : Blocks) (plan : Plan) (i : SlotId) (reports : List PortReport)

/-- R100, R101: what the merge makes of one port of the slot: its record, the groups to be written, the groups marked. A report
shorter than the plan counts as absent. -/
def Blocks.portMerged (p : Fin 32) : PortRec × GroupSet × GroupSet :=
  mergePort plan.mergeFunction plan.mergeGroups (b.port i p) ((reports[p.val]?).getD .absent)

/-- R103: the port is marked. -/
def Blocks.portMarked (p : Fin 32) : Bool := !(b.portMerged plan i reports p).2.2.isEmpty

/-- R101 to R103: the port record after the merge. -/
def Blocks.mergedRec (p : Fin 32) : PortRec :=
  let rec1 : PortRec := { (b.portMerged plan i reports p).1 with test := .normal }
  if plan.mergeFunction = .agree then
    { rec1 with
      disagreed := b.portMarked plan i reports p
      disagreements := if b.portMarked plan i reports p then satAdd 255 rec1.disagreements else rec1.disagreements }
  else rec1

/-- R103: the notices of the ports merged. -/
def Blocks.mergeNotices (ports : List (Fin 32)) : List Event :=
  if plan.mergeFunction = .agree then
    (ports.filter (b.portMarked plan i reports)).map fun p => .slotDisagreed i p.val (b.portMerged plan i reports p).2.2
  else []

variable {b plan i reports}

/-- R101: the mark, its count and the test state stand apart from the groups merged. -/
theorem Blocks.mergedRec_groups (p : Fin 32) : PortMerged plan.mergeFunction plan.mergeGroups (b.port i p)
    ((reports[p.val]?).getD .absent) (b.mergedRec plan i reports p) (b.portMerged plan i reports p).2.1
    (b.portMerged plan i reports p).2.2 := by
  unfold Blocks.mergedRec
  split <;> exact mergePort_groups ..

/-- R102: TEST is set to NORMAL. -/
theorem Blocks.mergedRec_test (p : Fin 32) : (b.mergedRec plan i reports p).test = .normal := by
  unfold Blocks.mergedRec
  split <;> rfl

/-- R103: the mark of a merged port and its count. -/
theorem Blocks.mergedRec_marks (p : Fin 32) :
    (plan.mergeFunction ≠ .agree → (b.mergedRec plan i reports p).disagreed = (b.port i p).disagreed
      ∧ (b.mergedRec plan i reports p).disagreements = (b.port i p).disagreements)
    ∧ (plan.mergeFunction = .agree → (b.mergedRec plan i reports p).disagreed = b.portMarked plan i reports p
      ∧ (b.mergedRec plan i reports p).disagreements =
        if b.portMarked plan i reports p then min ((b.port i p).disagreements + 1) 255 else (b.port i p).disagreements) := by
  obtain ⟨disagreed, count⟩ : (b.portMerged plan i reports p).1.disagreed = (b.port i p).disagreed
      ∧ (b.portMerged plan i reports p).1.disagreements = (b.port i p).disagreements := mergePort_keeps ..
  unfold Blocks.mergedRec
  dsimp only
  refine ⟨fun other => ?_, fun agree => ?_⟩
  · rw [if_neg other]
    exact ⟨disagreed, count⟩
  · rw [if_pos agree, count]
    exact ⟨rfl, rfl⟩

theorem Blocks.mergeOne_eq (acc : Blocks × List GroupSet) (p : Fin 32) : Blocks.mergeOne plan i reports acc p =
    ({ acc.1.modPort i p (fun _ => acc.1.mergedRec plan i reports p) with
        raised := acc.1.raised ++ acc.1.mergeNotices plan i reports [p] },
      acc.2 ++ [(acc.1.portMerged plan i reports p).2.1]) := by
  change ((if plan.mergeFunction = .agree ∧ acc.1.portMarked plan i reports p = true then
      (acc.1.modPort i p fun _ => acc.1.mergedRec plan i reports p).raise
        (.slotDisagreed i p.val (acc.1.portMerged plan i reports p).2.2)
    else acc.1.modPort i p fun _ => acc.1.mergedRec plan i reports p), _) = _
  unfold Blocks.mergeNotices
  split
  next told => rw [if_pos told.1, List.filter_singleton, told.2]; rfl
  next untold =>
    have silent : (if plan.mergeFunction = .agree then
        ([p].filter (acc.1.portMarked plan i reports)).map fun p => .slotDisagreed i p.val (acc.1.portMerged plan i reports p).2.2
      else []) = ([] : List Event) := by
      refine ite_eq_right_iff.mpr fun agree => ?_
      rw [List.filter_singleton, Bool.eq_false_iff.mpr fun marked => untold ⟨agree, marked⟩]
      rfl
    rw [silent, List.append_nil]
    rfl

/-- R101 to R103: where a merge stands once it has taken some of the ports. -/
structure Blocks.MergedTo (b : Blocks) (plan : Plan) (i : SlotId) (reports : List PortReport) (done : List (Fin 32))
    (acc : Blocks × List GroupSet) : Prop where
  port : ∀ j p, acc.1.port j p = if j = i ∧ p ∈ done then b.mergedRec plan i reports p else b.port j p
  write : acc.2 = done.map fun p => (b.portMerged plan i reports p).2.1
  raised : acc.1.raised = b.raised ++ b.mergeNotices plan i reports done

theorem Blocks.MergedTo.step {done : List (Fin 32)} {acc : Blocks × List GroupSet} {p : Fin 32} (fresh : p ∉ done)
    (h : b.MergedTo plan i reports done acc) : b.MergedTo plan i reports (done ++ [p]) (Blocks.mergeOne plan i reports acc p) := by
  have same : acc.1.portMerged plan i reports p = b.portMerged plan i reports p := by
    rw [Blocks.portMerged, h.port, if_neg fun own => fresh own.2, Blocks.portMerged]
  have marked : acc.1.portMarked plan i reports p = b.portMarked plan i reports p := by
    rw [Blocks.portMarked, same, Blocks.portMarked]
  have record : acc.1.mergedRec plan i reports p = b.mergedRec plan i reports p := by
    simp only [Blocks.mergedRec, same, marked]
  rw [Blocks.mergeOne_eq]
  refine ⟨fun j q => ?_, ?_, ?_⟩
  · change (acc.1.modPort i p fun _ => acc.1.mergedRec plan i reports p).port j q = _
    by_cases own : j = i ∧ q = p
    · obtain ⟨rfl, rfl⟩ := own
      rw [Blocks.port_modPort_same, record, if_pos ⟨rfl, by simp⟩]
    · rw [Blocks.port_modPort_other _ _ _ _ _ _ own, h.port]
      refine if_congr ⟨fun ⟨slot, taken⟩ => ⟨slot, List.mem_append_left _ taken⟩, fun ⟨slot, taken⟩ => ⟨slot, ?_⟩⟩ rfl rfl
      exact (List.mem_append.mp taken).resolve_right fun last => own ⟨slot, List.mem_singleton.mp last⟩
  · rw [h.write, same, List.map_append]
    rfl
  · change acc.1.raised ++ acc.1.mergeNotices plan i reports [p] = _
    have told : acc.1.mergeNotices plan i reports [p] = b.mergeNotices plan i reports [p] := by
      simp only [Blocks.mergeNotices, List.filter_singleton, marked]
      cases b.portMarked plan i reports p <;> simp [same]
    rw [h.raised, told, List.append_assoc]
    congr 1
    unfold Blocks.mergeNotices
    split <;> simp

/-- R100 to R103: the whole merge. -/
theorem Blocks.mergedTo_all (b : Blocks) (plan : Plan) (i : SlotId) (reports : List PortReport) :
    b.MergedTo plan i reports (portsBelow plan.portCount)
      ((portsBelow plan.portCount).foldl (Blocks.mergeOne plan i reports) (b, [])) :=
  foldl_done (P := b.MergedTo plan i reports) (fun _ _ _ fresh h => h.step fresh)
    ((List.nodup_finRange 32).filter _) ⟨by simp, rfl, by simp [Blocks.mergeNotices]⟩

/-- The ports below a port count, by their number. -/
theorem portsBelow_eq_take (n : Nat) : portsBelow n = (List.finRange 32).take n := by
  by_cases few : n ≤ 32
  · revert n
    decide
  · rw [List.take_of_length_le (by simp; omega)]
    exact List.filter_eq_self.mpr fun p _ => by simp; omega

theorem portsBelow_length (n : Nat) : (portsBelow n).length = min n 32 := by
  rw [portsBelow_eq_take, List.length_take, List.length_finRange]

theorem portsBelow_getElem? {n : Nat} {p : Fin 32} (below : p.val < n) : (portsBelow n)[p.val]? = some p := by
  rw [portsBelow_eq_take, List.getElem?_take_of_lt below]
  simp

end

/-- Blocks that differ in the registry and in what is told alone. -/
theorem Blocks.eq_of_frame_told {b c : Blocks} (h : c.power = b.power ∧ c.bus = b.bus ∧ c.store = b.store ∧ c.engine = b.engine
    ∧ c.ep = b.ep ∧ c.passOutcome = b.passOutcome) : c = { b with reg := c.reg, raised := c.raised } := by
  cases c
  obtain ⟨rfl, rfl, rfl, rfl, rfl, rfl⟩ := h
  rfl

theorem GroupSet.not_isEmpty (g : GroupSet) : (!g.isEmpty) = (g.line || g.level || g.signal || g.admin) := by
  simp [GroupSet.isEmpty]

/-- Settles O39: the ports of the plan taken one after another, each by what the merge makes of its groups. -/
theorem mergeFollowsTheFunction : Obligations.MergeFollowsTheFunction := by
  intro b plan i reports c fn groups
  obtain ⟨ports, write, raised⟩ := b.mergedTo_all plan i reports
  have slots := Blocks.mergePorts_slot plan i reports (portsBelow plan.portCount) (b, [])
  have port : ∀ j p, c.port j p = if j = i ∧ p ∈ portsBelow plan.portCount then b.mergedRec plan i reports p else b.port j p :=
    ports
  refine ⟨(portsBelow plan.portCount).map fun p => (b.portMerged plan i reports p).2.1,
    fun p => (b.portMerged plan i reports p).2.2, ?_, ?_, fun j hj => ?_, fun j p other => ?_, ?_, ?_, fun p below => ?_⟩
  · rw [List.length_map, portsBelow_length]
  · rw [← write]
    exact (Blocks.slot_modSlot_same ..).trans (by rw [slots])
  · exact (Blocks.slot_modSlot_other _ _ _ _ hj).trans (slots j)
  · exact (port j p).trans (if_neg fun ⟨same, taken⟩ => other.elim (· same) (mem_portsBelow.mp taken).not_ge)
  · exact Blocks.eq_of_frame_told (b.merge_frame plan i reports)
  · refine Eq.trans (b := b.raised ++ b.mergeNotices plan i reports (portsBelow plan.portCount)) raised ?_
    simp only [Blocks.mergeNotices, portsBelow, List.filter_filter, Bool.and_comm, ← GroupSet.not_isEmpty]
    rfl
  · have own : c.port i p = b.mergedRec plan i reports p := (port i p).trans (if_pos ⟨rfl, mem_portsBelow.mpr below⟩)
    have write : ((portsBelow plan.portCount).map fun p => (b.portMerged plan i reports p).2.1)[p.val]?
        = some (b.portMerged plan i reports p).2.1 := by rw [List.getElem?_map, portsBelow_getElem? below]; rfl
    obtain ⟨line, level, signal, admin⟩ := b.mergedRec_groups (plan := plan) (i := i) (reports := reports) p
    obtain ⟨others, agree⟩ := b.mergedRec_marks (plan := plan) (i := i) (reports := reports) p
    rw [Blocks.portMarked, GroupSet.not_isEmpty] at agree
    rw [own]
    exact ⟨_, write, line, level, signal, admin, b.mergedRec_test p, others, agree⟩

end Sys2Proof.Machine
end

section
/-! SUPPORT. The port table but for its test states (R97, R102): the end of an event moves nothing else of it. -/

namespace Sys2Proof.Machine

/-- R97: a port record but for its test state. -/
def PortRec.butTest (r : PortRec) : PortRec := { r with test := .normal }

/-- R102, R112: a port of the table, but for its test state, that an operation leaves as it is. -/
def Blocks.KeepsPorts (b c : Blocks) : Prop := ∀ i p, (c.port i p).butTest = (b.port i p).butTest

namespace Blocks.KeepsPorts

variable {b c d : Blocks}

theorem refl (b : Blocks) : b.KeepsPorts b := fun _ _ => rfl

theorem trans (h : b.KeepsPorts c) (h' : c.KeepsPorts d) : b.KeepsPorts d := fun i p => (h' i p).trans (h i p)

theorem of_ports (h : c.reg.ports = b.reg.ports) : b.KeepsPorts c := fun i p => by
  unfold Blocks.port
  rw [h]

theorem of_reg (h : c.reg = b.reg) : b.KeepsPorts c := of_ports (by rw [h])

theorem ite {q : Prop} [Decidable q] (h : b.KeepsPorts c) (h' : b.KeepsPorts d) : b.KeepsPorts (if q then c else d) := by
  split
  · exact h
  · exact h'

theorem foldl {α : Type} {f : Blocks → α → Blocks} (hf : ∀ (b : Blocks) x, b.KeepsPorts (f b x)) (xs : List α) (b : Blocks) :
    b.KeepsPorts (xs.foldl f b) := fun i p =>
  foldl_keeps (fun b => (b.port i p).butTest) (fun b x => hf b x i p) xs b

/-- R102, R112: the test states of a held slot are set to NORMAL. -/
theorem resetHeldTests (b : Blocks) (s : SlotId) : b.KeepsPorts (b.resetHeldTests s) := by
  refine foldl (fun b p j q => ?_) _ b
  by_cases own : j = s ∧ q = p
  · obtain ⟨rfl, rfl⟩ := own
    rw [Blocks.port_modPort_same]
    rfl
  · rw [Blocks.port_modPort_other _ _ _ _ _ _ own]

theorem notePlacement (b : Blocks) (i : SlotId) (o : BusOrder) : b.KeepsPorts (b.notePlacement i o) := by
  unfold Blocks.notePlacement
  dsimp only
  split
  · split
    · exact ite ((of_ports rfl).trans (resetHeldTests _ _)) (of_ports rfl)
    · exact of_ports rfl
  all_goals exact of_ports rfl

theorem placeRegistry (b : Blocks) : b.KeepsPorts b.placeRegistry := by
  refine foldl (fun b i => ?_) _ b
  unfold Blocks.placeWanted
  split
  · exact refl b
  next o _ => exact (of_ports rfl).trans (notePlacement _ i o)

theorem finishCoverLoads (b : Blocks) : b.KeepsPorts b.finishCoverLoads := by
  refine foldl (fun b i => ?_) _ b
  unfold Blocks.finishCoverLoad
  split <;> exact of_ports rfl

/-- R54, R61: a freeze, with the recovery that may follow it at once. -/
theorem freeze (b : Blocks) : b.KeepsPorts b.freeze := by
  obtain ⟨down, up⟩ := b.freeze_frozen
  cases supply : b.ep.supply with
  | down => obtain ⟨-, -, -, ports, -⟩ := down supply; exact of_ports ports
  | up =>
    obtain ⟨m, ⟨-, -, -, ports, -⟩, ⟨-, -, -, -, ports', -⟩⟩ := up supply
    exact of_ports (ports'.trans ports)

theorem judgeSettled (t : Nat) (b : Blocks) : b.KeepsPorts (b.judgeSettled t) := by
  unfold Blocks.judgeSettled
  split
  · exact (freeze b).trans (of_reg (by simp))
  · exact refl b

theorem admitSlot (b : Blocks) (i : SlotId) : b.KeepsPorts (b.admitSlot i) := by
  unfold Blocks.admitSlot
  split
  · exact refl b
  · dsimp only
    split
    · exact of_ports (Blocks.enterState_ports (by decide))
    · exact of_ports rfl

theorem judgeAdmission (b : Blocks) : b.KeepsPorts b.judgeAdmission := by
  suffices loop : ∀ n (b : Blocks), b.KeepsPorts (Blocks.admitLoop n b) from loop 16 b
  intro n
  induction n with
  | zero => exact refl
  | succ n ih =>
    intro b
    unfold Blocks.admitLoop
    split
    · exact (admitSlot b _).trans (ih _)
    · exact refl b

theorem judgeClose (t : Nat) (b : Blocks) : b.KeepsPorts (b.judgeClose t) := of_reg (by simp)

theorem placeBacklog (b : Blocks) : b.KeepsPorts b.placeBacklog := of_reg (by simp)

theorem grant (b : Blocks) : b.KeepsPorts b.grant := of_reg (by simp)

/-- R102: the end of an event moves of the port table nothing but test states. -/
theorem settle (t : Nat) (b : Blocks) : b.KeepsPorts (b.settle t) := by
  have engine : b.KeepsPorts (Blocks.judgeEngine t b.finishCoverLoads).standDown :=
    (finishCoverLoads b).trans (of_reg (by simp))
  have admitted := (engine.trans (judgeSettled t _)).trans (judgeAdmission _)
  exact (((admitted.trans (judgeClose t _)).trans (placeRegistry _)).trans (placeBacklog _)).trans (grant _)

end Blocks.KeepsPorts

end Sys2Proof.Machine
end

section
/-! CERTIFICATE. SET PORT (R38, R105): what its body spells, the record it replaces, the write sets its port joins, and the links it
frees. -/

namespace Sys2Proof.Machine

/-! ### The body of a SET PORT (R105 step 1) -/

theorem TestState.ofCode_eq_some {n : Nat} {v : TestState} :
    TestState.ofCode n = some v ↔ (n, v) ∈ [(0, TestState.normal), (1, .loopInner), (2, .loopOuter)] := by
  unfold TestState.ofCode
  split <;> cases v <;> simp_all

/-- R105 step 1: the nine bytes read as groups, one by one. -/
theorem readPortFields_eq_some {presence kind termination tx rx scheme timing test admin : Byte} {g : PortFields} :
    readPortFields [presence, kind, termination, tx, rx, scheme, timing, test, admin] = some g ↔
      presence.toNat < 32
        ∧ whenPresent (presence.getLsbD 0) (if kind.toNat ≤ 15 ∧ termination.toNat ≤ 3 then
            some (kind.toNat, termination.toNat) else none) = some g.line
        ∧ whenPresent (presence.getLsbD 1) (some (tx.toInt, rx.toInt)) = some g.level
        ∧ whenPresent (presence.getLsbD 2) (if scheme.toNat ≤ 7 ∧ timing.toNat ≤ 15 then
            some (scheme.toNat, timing.toNat) else none) = some g.signal
        ∧ whenPresent (presence.getLsbD 3) (TestState.ofCode test.toNat) = some g.test
        ∧ whenPresent (presence.getLsbD 4) (readYesNo admin) = some g.admin := by
  have level : ∀ field, whenPresent (presence.getLsbD 1) (some (tx.toInt, rx.toInt)) = some field ↔
      field = if presence.getLsbD 1 then some (tx.toInt, rx.toInt) else none := fun field => by
    cases presence.getLsbD 1 <;> simp [whenPresent, eq_comm]
  unfold readPortFields
  dsimp only
  rw [level]
  constructor
  · intro h
    split at h
    next range =>
      split at h
      next hl hs ht ha => cases h; exact ⟨range, hl, rfl, hs, ht, ha⟩
      · cases h
    · cases h
  · rintro ⟨range, hl, hv, hs, ht, ha⟩
    rw [if_pos range, hl, hs, ht, ha]
    dsimp only
    rw [← hv]

/-- R105 step 1, 11.4: the groups are read exactly as they are spelled. -/
theorem readPortFields_iff {rest : List Byte} (len : rest.length = 9) {g : PortFields} :
    readPortFields rest = some g ↔ PortFieldsSpelled rest g := by
  match rest, len with
  | [presence, kind, termination, tx, rx, scheme, timing, test, admin], _ =>
    have within : ∀ {q : Prop} [Decidable q] (n m : Nat) (v : Nat × Nat),
        (if q then some (n, m) else none) = some v ↔ v = (n, m) ∧ q := fun n m v => by
      simp [eq_comm, and_comm]
    rw [readPortFields_eq_some]
    simp only [whenPresent_eq_some, within, TestState.ofCode_eq_some, readYesNo_eq_some, Option.some.injEq, PortFieldsSpelled,
      numberAt, List.getD_cons_zero, List.getD_cons_succ, eq_comm (a := (tx.toInt, rx.toInt))]

/-! ### The record that is replaced (R105 step 2) -/

/-- R105: the present groups as brought into range, each absent group as it was, and the mark no. -/
theorem PortRec.update_clamped (r : PortRec) (g : PortFields) : r.update g.clamped =
    { lineKind := (g.line.map Prod.fst).getD r.lineKind, termination := (g.line.map Prod.snd).getD r.termination
      txLevel := (g.level.map (fun v => max (-120) (min 60 v.1))).getD r.txLevel
      rxLevel := (g.level.map (fun v => max (-120) (min 60 v.2))).getD r.rxLevel
      scheme := (g.signal.map Prod.fst).getD r.scheme, timing := (g.signal.map Prod.snd).getD r.timing
      test := g.test.getD r.test, blocked := g.admin.getD r.blocked, disagreed := false
      disagreements := r.disagreements } := by
  obtain ⟨line, level, signal, test, admin⟩ := g
  cases level <;> rfl

/-- R105, R167: the answer is CLAMPED where a level was brought into range. -/
theorem PortFields.accepted_clamped (g : PortFields) : Status.accepted (g.clamped != g) =
    if g.level.all (fun v => decide (max (-120) (min 60 v.1) = v.1 ∧ max (-120) (min 60 v.2) = v.2)) then .ok
    else .clamped := by
  obtain ⟨line, level, signal, test, admin⟩ := g
  cases level with
  | none => simp [PortFields.clamped, Status.accepted]
  | some v =>
    have same : ((PortFields.mk line (some v) signal test admin).clamped = PortFields.mk line (some v) signal test admin) ↔
        max (-120) (min 60 v.1) = v.1 ∧ max (-120) (min 60 v.2) = v.2 := by
      simp [PortFields.clamped, clampInt, Prod.ext_iff]
    by_cases inRange : max (-120) (min 60 v.1) = v.1 ∧ max (-120) (min 60 v.2) = v.2
    · simp [same.mpr inRange, Status.accepted, inRange]
    · simp [bne, beq_false_of_ne (mt same.mp inRange), Status.accepted, inRange]

/-! ### The write sets (R98, R105) -/

theorem mem_insertPort {p q : Fin 32} {ports : List (Fin 32)} : q ∈ insertPort p ports ↔ q ∈ ports ∨ q = p := by
  induction ports with
  | nil => simp [insertPort]
  | cons r ports ih =>
    unfold insertPort
    split
    next same => subst same; simp only [List.mem_cons]; tauto
    next => split <;> simp only [List.mem_cons, ih] <;> tauto

section
variable {b : Blocks} {i j : SlotId} {p q : Fin 32} {g : PortFields}

theorem Blocks.mem_joinWriteSet : q ∈ ((b.joinWriteSet i p).slot j).writeSet ↔ q ∈ (b.slot j).writeSet ∨ (q = p ∧ j = i) := by
  unfold Blocks.joinWriteSet
  by_cases own : j = i
  · subst own
    rw [Blocks.slot_modSlot_same, mem_insertPort]
    simp
  · rw [Blocks.slot_modSlot_other _ _ _ _ own]
    simp [own]

/-- R105: the cards that a port's record is written to: the one in the slot that holds it, and its own while that reverts. -/
def Blocks.WrittenFrom (b : Blocks) (i j : SlotId) : Prop :=
  (∀ t, b.holder i = some t → j = t ∨ (j = i ∧ (b.slot i).revertMark = true))
    ∧ (b.holder i = none → j = i ∧ (b.slot i).coveredSlot = none)

theorem Blocks.mem_portJoins : q ∈ ((b.portJoins i p g).slot j).writeSet ↔ q ∈ (b.slot j).writeSet
    ∨ (q = p ∧ (b.slot i).plan.any (fun plan => plan.writes p g) = true ∧ b.WrittenFrom i j) := by
  unfold Blocks.portJoins Blocks.WrittenFrom
  split
  next joins =>
    cases held : b.holder i with
    | some t =>
      dsimp only
      split
      next reverts => simp [Blocks.mem_joinWriteSet, joins, reverts]; tauto
      next stays => simp [Blocks.mem_joinWriteSet, joins, stays]
    | none =>
      dsimp only
      split
      next holds => simp [Option.isSome_iff_ne_none.mp holds]
      next free => simp [Blocks.mem_joinWriteSet, joins, Option.not_isSome_iff_eq_none.mp free]
  next apart => simp [apart]

/-- R105: the write sets alone are joined. -/
theorem Blocks.portJoins_frame (b : Blocks) (i : SlotId) (p : Fin 32) (g : PortFields) :
    (b.portJoins i p g).reg.ports = b.reg.ports ∧ (b.portJoins i p g).store = b.store := by
  unfold Blocks.portJoins
  split
  · split <;> split <;> exact ⟨rfl, rfl⟩
  · exact ⟨rfl, rfl⟩

/-- R105: what makes a port join. -/
theorem Plan.writes_iff {plan : Plan} : plan.writes p g = true ↔ p.val < plan.portCount
    ∧ (g.test.isSome = true ∨ (g.line.isSome = true ∧ plan.mergeGroups.line = true)
      ∨ (g.level.isSome = true ∧ plan.mergeGroups.level = true)
      ∨ (g.signal.isSome = true ∧ plan.mergeGroups.signal = true)
      ∨ (g.admin.isSome = true ∧ plan.mergeGroups.admin = true)) := by
  simp only [Plan.writes, Bool.and_eq_true, Bool.or_eq_true, decide_eq_true_eq]
  tauto

/-! ### An accepted SET PORT (R38, R105) -/

theorem Blocks.setPort_port (b : Blocks) (i j : SlotId) (p q : Fin 32) (g : PortFields) :
    (b.setPort i p g).port j q = if j = i ∧ q = p then (b.port i p).update g else b.port j q := by
  have ports : (b.setPort i p g).port j q = (b.modPort i p fun r => r.update g).port j q := by
    change ((b.modPort i p fun r => r.update g).portJoins i p g).port j q = _
    unfold Blocks.port
    rw [(Blocks.portJoins_frame ..).1]
  rw [ports]
  split
  next own => obtain ⟨rfl, rfl⟩ := own; exact Blocks.port_modPort_same ..
  next other => exact Blocks.port_modPort_other _ _ _ _ _ _ other

/-- R105: the record that a SET PORT names. -/
theorem Blocks.setPort_own (b : Blocks) (i : SlotId) (p : Fin 32) (g : PortFields) :
    (b.setPort i p g).port i p = (b.port i p).update g := (Blocks.setPort_port ..).trans (if_pos ⟨rfl, rfl⟩)

theorem Blocks.mem_setPort_writeSet : q ∈ ((b.setPort i p g).slot j).writeSet ↔ q ∈ (b.slot j).writeSet
    ∨ (q = p ∧ (b.slot i).plan.any (fun plan => plan.writes p g) = true ∧ b.WrittenFrom i j) :=
  Blocks.mem_portJoins (b := b.modPort i p fun r => r.update g)

/-- R38: the links with an end on the port are free to start again. -/
theorem Blocks.setPort_links (b : Blocks) (i : SlotId) (p : Fin 32) (g : PortFields) :
    (b.setPort i p g).store.links = b.store.links.map fun l => if l.onPort i p then l.retried else l := by
  change ((b.modPort i p fun r => r.update g).portJoins i p g).store.links.map _ = _
  rw [(Blocks.portJoins_frame ..).2]
  rfl

theorem Link.onPort_iff {l : Link} : l.onPort i p = true ↔ ((l.epA.slot = i ∨ l.epA.home = some i) ∧ l.epA.port = p)
    ∨ ((l.epB.slot = i ∨ l.epB.home = some i) ∧ l.epB.port = p) := by
  simp [Link.onPort, Endpoint.names]

end

/-! ### The request -/

/-- What the end of an event leaves of the port table once a request was carried out. -/
theorem State.carriedOut_ports (s : State) (f : Frame) (effect : Blocks → Blocks) (st : Status) (fields : List Byte) :
    (effect s.blk).KeepsPorts (s.carriedOut f effect st fields).blk := by
  have blk : (s.carriedOut f effect st fields).blk = ((effect s.blk).settle s.time).told := by
    rw [State.carriedOut, State.deliver_blk]
    simp only [State.replied, State.settled, State.holding]
  rw [blk]
  exact (Blocks.KeepsPorts.settle s.time _).trans (.of_reg (Blocks.told_frame _).1)

theorem Blocks.KeepsPorts.levels {b c : Blocks} (h : b.KeepsPorts c) (i : SlotId) (p : Fin 32) :
    (c.port i p).txLevel = (b.port i p).txLevel ∧ (c.port i p).rxLevel = (b.port i p).rxLevel :=
  ⟨(congrArg PortRec.txLevel (h i p) :), (congrArg PortRec.rxLevel (h i p) :)⟩

section
variable {rest : List Byte} (tag slot port : Byte) (s : State)

theorem judgeRequest_setPort (len : rest.length = 9) :
    judgeRequest { kind := 0x11, tag, body := slot :: port :: rest } s = ownSetPort (slot :: port :: rest) s :=
  if_pos (c := (slot :: port :: rest).length ∈ [11]) (by simp [len])

theorem ownSetPort_refused (h : readPlace slot port = none ∨ readPortFields rest = none) :
    ownSetPort (slot :: port :: rest) s = s.refuse .badArg := by
  unfold ownSetPort
  dsimp only
  split
  next place fields => rw [place, fields] at h; simp at h
  · rfl

theorem ownSetPort_accepted {i : SlotId} {p : Fin 32} {g : PortFields} (place : readPlace slot port = some (i, p))
    (fields : readPortFields rest = some g) : ownSetPort (slot :: port :: rest) s =
      (s.settled (Blocks.setPort i p g.clamped), some (Status.accepted (g.clamped != g),
        [levelByte ((s.blk.port i p).update g.clamped).txLevel, levelByte ((s.blk.port i p).update g.clamped).rxLevel])) := by
  obtain ⟨tx, rx⟩ := (Blocks.KeepsPorts.settle s.time (s.blk.setPort i p g.clamped)).levels i p
  simp only [ownSetPort, place, fields, State.accept, State.settled_blk, tx, rx, Blocks.setPort_own]

end

/-- R105: what a SET PORT leaves once it was carried out: the levels it stored, and everything apart from the blocks and the port
as it was. -/
theorem State.setPort_leaves (s : State) (f : Frame) (i : SlotId) (p : Fin 32) (g : PortFields) (st : Status)
    (fields : List Byte) :
    let t := s.carriedOut f (Blocks.setPort i p g) st fields
    (t.blk.port i p).txLevel = ((s.blk.port i p).update g).txLevel ∧ (t.blk.port i p).rxLevel = ((s.blk.port i p).update g).rxLevel
      ∧ t.feed = s.feed ∧ t.time = s.time ∧ t.pending = s.pending := by
  have own := s.blk.setPort_own i p g
  obtain ⟨tx, rx⟩ := (s.carriedOut_ports f (Blocks.setPort i p g) st fields).levels i p
  obtain ⟨-, rest⟩ := s.carriedOut_settles f (Blocks.setPort i p g) st fields
  exact ⟨own ▸ tx, own ▸ rx, rest⟩

/-- R105 step 1: the place and the groups that a SET PORT names are read where it spells them. -/
theorem setPort_unread {rest : List Byte} (len : rest.length = 9) {slot port : Byte}
    (refused : 16 ≤ slot.toNat ∨ 32 ≤ port.toNat ∨ ∀ g, ¬PortFieldsSpelled rest g) :
    readPlace slot port = none ∨ readPortFields rest = none := by
  rcases refused with h | h | unspelled
  · exact .inl (readPlace_eq_none (.inl h))
  · exact .inl (readPlace_eq_none (.inr h))
  · exact .inr (Option.eq_none_iff_forall_ne_some.mpr fun g h => unspelled g ((readPortFields_iff len).mp h))

/-- R105: the levels as brought into range leave a group present or absent. -/
theorem PortFields.clamped_present (g : PortFields) : g.clamped.line = g.line ∧ g.clamped.level.isSome = g.level.isSome
    ∧ g.clamped.signal = g.signal ∧ g.clamped.test = g.test ∧ g.clamped.admin = g.admin :=
  ⟨rfl, Option.isSome_map, rfl, rfl, rfl⟩

/-- Settles O22, from what a body spells and what an accepted SET PORT makes of the record, the write sets and the links. -/
theorem setPortReplacesTheGroups : Obligations.SetPortReplacesTheGroups := by
  intro s tag slot port rest ready len body f
  refine ⟨fun refused => exec_answers ready rfl ?_, fun i p g hi hp spelled => ?_⟩
  · exact (judgeRequest_setPort _ _ _ _ len).trans (ownSetPort_refused _ _ _ (setPort_unread len refused))
  · intro level r r'
    have taken := ownSetPort_accepted slot port (s.holding f) (readPlace_eq_some.mpr ⟨hi, hp⟩) ((readPortFields_iff len).mpr spelled)
    have updated : (s.blk.port i p).update g.clamped = r' := PortRec.update_clamped ..
    rw [State.holding_blk, updated, PortFields.accepted_clamped] at taken
    refine ⟨_, exec_carriedOut ready rfl ((judgeRequest_setPort _ _ _ _ len).trans taken), rfl, fun b j q => ?_, fun b => ?_,
      fun b => b.setPort_own i p _, updated, fun b j q other => (Blocks.setPort_port ..).trans (if_neg other), ?_⟩
    · obtain ⟨line, level, signal, test, admin⟩ := g.clamped_present
      simp only [Blocks.mem_setPort_writeSet, Option.any_eq_true, Plan.writes_iff, line, level, signal, test, admin]
      rfl
    · simp only [Blocks.setPort_links, Link.onPort_iff]
      rfl
    · rw [← updated]
      exact s.setPort_leaves ..

end Sys2Proof.Machine
end

section
/-! SUPPORT. The transfer in progress (R149) under the operations of the relink engine, the power sequencer and the slot registry: none
of them touches it. -/

namespace Sys2Proof.Machine

section
variable (b : Blocks) (t id : Nat) (i j : SlotId)

/-! ### The relink engine -/

@[simp] theorem Blocks.leaveInFlight_transfer : (b.leaveInFlight id).bus.transfer = b.bus.transfer := rfl

@[simp] theorem Blocks.release_transfer : (b.release id).bus.transfer = b.bus.transfer := rfl

@[simp] theorem Blocks.defer_transfer (r : DeferReason) : (b.defer t id r).bus.transfer = b.bus.transfer := by
  unfold Blocks.defer
  split <;> rfl

@[simp] theorem Blocks.returnLink_transfer : (b.returnLink id).bus.transfer = b.bus.transfer := by
  unfold Blocks.returnLink
  split
  · rfl
  · split
    case h_1 | h_2 | h_3 | h_4 => split <;> simp
    all_goals simp

@[simp] theorem Blocks.slotInPlace_transfer : (b.slotInPlace i).bus.transfer = b.bus.transfer :=
  (foldl_keeps (fun b : Blocks => b.bus.transfer) (by simp) _ _).trans (by simp)

@[simp] theorem Blocks.coverReport_transfer : (b.coverReport i).bus.transfer = b.bus.transfer :=
  foldl_keeps (fun b : Blocks => b.bus.transfer) (by simp) _ _

@[simp] theorem Blocks.dropLinks_transfer (p : Link → Bool) : (b.dropLinks p).bus.transfer = b.bus.transfer := by
  refine foldl_keeps (fun b : Blocks => b.bus.transfer) (fun b id => ?_) _ _
  unfold Blocks.dropLink
  split <;> simp

/-! ### Switches and slot states -/

@[simp] theorem Blocks.openSwitch_transfer : (b.openSwitch i).bus.transfer = b.bus.transfer := by
  unfold Blocks.openSwitch
  split <;> rfl

@[simp] theorem Blocks.powerOff_transfer : (b.powerOff i).bus.transfer = b.bus.transfer := b.openSwitch_transfer i

@[simp] theorem Blocks.abandonOrder_transfer : (b.abandonOrder i).bus.transfer = b.bus.transfer := by
  unfold Blocks.abandonOrder
  split
  · rfl
  · split <;> rfl

@[simp] theorem Blocks.changeState_transfer (st : SlotState) : (b.changeState i st).bus.transfer = b.bus.transfer := by
  unfold Blocks.changeState
  dsimp only
  split <;> simp

@[simp] theorem Blocks.spareLeftLive_transfer : (b.spareLeftLive i).bus.transfer = b.bus.transfer := by
  unfold Blocks.spareLeftLive
  split
  · rfl
  · split <;> simp

@[simp] theorem Blocks.coverAgain_transfer : (b.coverAgain i).bus.transfer = b.bus.transfer := by
  unfold Blocks.coverAgain
  split
  · rfl
  · split <;> simp

@[simp] theorem Blocks.enterState_transfer (st : SlotState) : (b.enterState i st).bus.transfer = b.bus.transfer := by
  unfold Blocks.enterState
  dsimp only
  split
  · simp
  · split <;> simp

/-! ### Loss, cover and restart -/

@[simp] theorem Blocks.takeCover_transfer (r : LossReason) : (b.takeCover i j r).bus.transfer = b.bus.transfer := by
  simp [Blocks.takeCover]

@[simp] theorem Blocks.spareLost_transfer (r : LossReason) : (b.spareLost i j r).bus.transfer = b.bus.transfer := by
  unfold Blocks.spareLost
  dsimp only
  split
  · simp
  · split <;> simp

@[simp] theorem Blocks.retireHeld_transfer : (b.retireHeld i).bus.transfer = b.bus.transfer := by
  unfold Blocks.retireHeld
  dsimp only
  split
  · split <;> simp
  · simp

@[simp] theorem Blocks.endClearRevert_transfer : (b.endClearRevert i).bus.transfer = b.bus.transfer := rfl

@[simp] theorem Blocks.revertingLost_transfer (r : LossReason) : (b.revertingLost i r).bus.transfer = b.bus.transfer := by
  unfold Blocks.revertingLost
  dsimp only
  split
  · simp
  · split
    · split <;> simp
    · simp

@[simp] theorem Blocks.settleLoss_transfer (r : LossReason) : (b.settleLoss i r).bus.transfer = b.bus.transfer := by
  unfold Blocks.settleLoss
  split
  · simp
  · split
    · simp
    · split <;> simp

@[simp] theorem Blocks.loseInService_transfer (r : LossReason) : (b.loseInService i r).bus.transfer = b.bus.transfer := by
  unfold Blocks.loseInService Blocks.lose
  split <;> simp

@[simp] theorem Blocks.cardRestart_transfer : (b.cardRestart i).bus.transfer = b.bus.transfer := by
  unfold Blocks.cardRestart
  split <;> simp

@[simp] theorem Blocks.busReport_transfer (out : OrderOutcome) : (b.busReport i out).bus.transfer = b.bus.transfer := by
  unfold Blocks.busReport
  split <;> simp

/-! ### What the relink engine judges -/

@[simp] theorem Blocks.flagPass_transfer : b.flagPass.bus.transfer = b.bus.transfer := by
  refine foldl_keeps (fun b : Blocks => b.bus.transfer) (fun b id => ?_) _ _
  split <;> simp

@[simp] theorem Blocks.refusalPass_transfer : (b.refusalPass t).bus.transfer = b.bus.transfer := by
  refine foldl_keeps (fun b : Blocks => b.bus.transfer) (fun b id => ?_) _ _
  unfold Blocks.refuse
  split
  · split
    · split
      · simp
      · split <;> simp
    · rfl
  · rfl

@[simp] theorem Blocks.judgeHead_transfer (n : Nat) : (Blocks.judgeHead t n b).bus.transfer = b.bus.transfer := by
  induction n generalizing b with
  | zero => rfl
  | succ n ih =>
    unfold Blocks.judgeHead
    dsimp only
    split
    · simp
    · split
      · simp
      · split <;> simp [ih]

@[simp] theorem Blocks.judgeEngine_transfer : (b.judgeEngine t).bus.transfer = b.bus.transfer := by
  simp [Blocks.judgeEngine]

@[simp] theorem Blocks.standDown_transfer : b.standDown.bus.transfer = b.bus.transfer := by
  unfold Blocks.standDown
  split
  · refine foldl_keeps (fun b : Blocks => b.bus.transfer) (fun b id => ?_) _ _
    split <;> simp
  · rfl

end

end Sys2Proof.Machine
end

section
/-! CERTIFICATE. CARD PORTS (R108, R152, R161, R177): its checks and its place, its reply, and its end at a freeze. -/

namespace Sys2Proof.Machine

/-! ### The end at a freeze (R152, R161) -/

/-- R161: what a freeze tells of a CARD PORTS is what the cut tells. -/
theorem Blocks.freeze_passOutcome (b : Blocks) : b.freeze.passOutcome = b.cutBus.passOutcome := by
  have slots : (allSlots.foldl Blocks.freezeSlot b.cutBus.endRegistryOrders.freezeLinks).passOutcome = b.cutBus.passOutcome :=
    (foldl_keeps (fun b : Blocks => b.passOutcome) (by simp) _ _).trans (by simp)
  unfold Blocks.freeze
  dsimp only
  split <;> simp [slots]

/-- R152, R161: the bus after a freeze is the cut one, but for the pause that a recovery ends. -/
theorem Blocks.freeze_bus (b : Blocks) : ∃ paused, b.freeze.bus = { b.cutBus.bus with paused } := by
  have frozen := Blocks.frozenTo_all b.stilled_still
  rw [Blocks.freeze_eq]
  generalize allSlots.foldl Blocks.freezeSlot b.stilled = c at frozen ⊢
  have bus : c.heldUp.bus = b.cutBus.bus := (c.heldUp_frame.2.1.trans frozen.bus).trans b.stilled_bus
  split
  · obtain ⟨-, -, -, -, -, recovered, -⟩ := c.heldUp.recover_recovered
    refine ⟨false, (recovered fun i _ => ?_).trans (by rw [bus])⟩
    obtain ⟨-, -, -, -, -, slots⟩ := Blocks.heldUp_frozen frozen
    obtain ⟨-, -, -, -, -, -, order, -⟩ := slots i
    exact order
  · exact ⟨_, bus⟩

theorem CardBus.cutsPass_iff {bus : CardBus} : bus.cutsPass = true ↔
    ∃ tr, bus.transfer = some tr ∧ tr.requester = .passThrough ∧ tr.phase ≠ .release .cut := by
  simp [CardBus.cutsPass, Option.any_eq_true]

/-- R161: the pass-through order that is on the bus at a freeze ends there, and one that is not keeps its place. -/
theorem Blocks.freeze_pass (b : Blocks) :
    (b.bus.cutsPass = true → b.freeze.bus.pass = none ∧ b.freeze.passOutcome = some .cut)
    ∧ (¬b.bus.cutsPass = true → b.freeze.bus.pass = b.bus.pass ∧ b.freeze.bus.passAttempts = b.bus.passAttempts
      ∧ b.freeze.passOutcome = b.passOutcome) := by
  obtain ⟨paused, bus⟩ := b.freeze_bus
  have kept := b.bus.cutTransfer_frame
  rw [bus, b.freeze_passOutcome, Blocks.cutBus]
  refine ⟨fun cuts => ?_, fun stays => ?_⟩
  · simp [cuts]
  · rw [kept]
    simp [stays]

/-! ### The reply (R108, R177) -/

/-- R51, R161: with the bus free no end of an event tells of a CARD PORTS. -/
theorem Blocks.settle_passOutcome {b : Blocks} (t : Nat) (free : b.bus.transfer = none) :
    (b.settle t).passOutcome = b.passOutcome := by
  have settled : ∀ c : Blocks, c.bus.transfer = none → (c.judgeSettled t).passOutcome = c.passOutcome := by
    intro c free
    unfold Blocks.judgeSettled
    split
    · exact (Blocks.judgeEngine_frame t _).2.2.2.trans (c.freeze_pass.2 (by simp [CardBus.cutsPass, free])).2.2
    · rfl
  have stood : (Blocks.judgeEngine t b.finishCoverLoads).standDown.bus.transfer = none := by simp [free]
  unfold Blocks.settle
  simp [settled _ stood]

/-- R156, R157: the order of a CARD PORTS comes to its end, with the records that the card gave where it is DONE. -/
theorem Blocks.finishOrder_pass {b : Blocks} {tr : Transfer} {o : BusOrder} (t : Nat) (out : OrderOutcome)
    (requester : tr.requester = .passThrough) (pass : b.bus.pass = some o) (purpose : o.purpose = .passThrough) :
    (Blocks.finishOrder t b tr out).passOutcome = some (.outcome out (if out = .done then tr.given else []))
      ∧ (Blocks.finishOrder t b tr out).bus.transfer = b.bus.transfer := by
  have head : b.bus.head .passThrough = some o := pass
  unfold Blocks.finishOrder
  rw [requester, head]
  dsimp only
  unfold Blocks.deliver
  rw [purpose]
  exact ⟨Blocks.busReport_frame .., Blocks.busReport_transfer ..⟩

/-- R171, R177: the reply to the CARD PORTS in hand, and then the notices of the event (log 10). -/
theorem SupervisionPort.hear_pass {p : SupervisionPort} {f : Frame} {rest : List Frame} (buffer : p.buffer = f :: rest) (t : Nat)
    (x : PassOutcome) (raised : List Event) : p.hear t (some x) raised = raised.foldl (SupervisionPort.takeNotice t)
      (p.reply t { kind := f.kind, tag := f.tag, status := x.answer.1, fields := x.answer.2, inHand := true }) := by
  simp [SupervisionPort.hear, SupervisionPort.answer, buffer]

section
variable {s : State} {tr : Transfer} {o : BusOrder} {f : Frame} {rest : List Frame}

/-- R153: the end of RELEASE. -/
theorem exec_releaseEnd {ending : Ending} (awake : s.Awake) (transfer : s.blk.bus.transfer = some tr)
    (phase : tr.phase = .release ending) :
    exec .releaseEnd s = .next (s.event fun b => Blocks.releaseEnded s.time b) := by
  change execReleaseEnd s = _
  unfold execReleaseEnd State.running
  rw [awake]
  simp [transfer, phase]

/-- R108, R157, R177: the end of RELEASE that ends a CARD PORTS answers it. -/
theorem releaseEnd_answers {ending : Ending} {out : OrderOutcome} (awake : s.Awake) (transfer : s.blk.bus.transfer = some tr)
    (requester : tr.requester = .passThrough) (pass : s.blk.bus.pass = some o) (purpose : o.purpose = .passThrough)
    (buffer : s.port.buffer = f :: rest) (phase : tr.phase = .release ending)
    (ends : Blocks.endAttempt s.time s.blk tr ending =
      Blocks.finishOrder s.time { s.blk with bus := s.blk.bus.setTransfer none } tr out) :
    ∃ t events, exec .releaseEnd s = .next t
      ∧ t.port = List.foldl (SupervisionPort.takeNotice s.time) (s.port.reply s.time
          { kind := f.kind, tag := f.tag, status := .ok
            fields := byte out.code :: byte (if out = .done then tr.given else []).length
              :: ((if out = .done then tr.given else []).map relayPortRecord).flatten, inHand := true }) events := by
  have ended : Blocks.releaseEnded s.time s.blk = Blocks.endAttempt s.time s.blk tr ending := by
    unfold Blocks.releaseEnded
    rw [transfer]
    dsimp only
    rw [phase]
  obtain ⟨told, free⟩ := Blocks.finishOrder_pass (b := { s.blk with bus := s.blk.bus.setTransfer none }) s.time out requester
    pass purpose
  rw [← ends, ← ended] at told free
  refine ⟨_, (Blocks.settle s.time (Blocks.releaseEnded s.time s.blk)).raised, exec_releaseEnd awake transfer phase, ?_⟩
  rw [State.event, State.deliver_port, Blocks.settle_passOutcome s.time free, told]
  exact SupervisionPort.hear_pass buffer _ _ _

end

/-! ### The request (R108) -/

section
variable (tag slot first count : Byte) (s : State)

/-- R108: a slot, a first port or a count out of range. -/
theorem ownCardPorts_outside (outside : ¬(slot.toNat < 16 ∧ first.toNat < 32 ∧ 1 ≤ count.toNat ∧ count.toNat ≤ 8
    ∧ first.toNat + count.toNat ≤ 32)) : ownCardPorts [slot, first, count] s = s.refuse .badArg := by
  unfold ownCardPorts
  dsimp only
  split
  next i p place =>
    obtain ⟨hi, hp⟩ := readPlace_eq_some.mp place
    exact if_neg (by omega)
  · rfl

/-- R108: the episode, the slot and the plan of a request in range. -/
theorem ownCardPorts_inRange {i : SlotId} (hi : slot.toNat = i.val) (port : first.toNat < 32)
    (range : 1 ≤ count.toNat ∧ count.toNat ≤ 8 ∧ first.toNat + count.toNat ≤ 32) :
    ownCardPorts [slot, first, count] s =
      if s.blk.ep.isOpen = false ∧ (s.blk.slot i).state = .live
          ∧ ∃ p, (s.blk.slot i).plan = some p ∧ first.toNat + count.toNat ≤ p.portCount then
        ({ s with blk := s.blk.placePass (passOrder i first.toNat count.toNat) }, none)
      else s.refuse .state := by
  have place : readPlace slot first = some (i, ⟨first.toNat, port⟩) := readPlace_eq_some.mpr ⟨hi, rfl⟩
  have allowed : (s.blk.isLive i = true
      ∧ (s.blk.slot i).plan.any (fun plan => decide (first.toNat + count.toNat ≤ plan.portCount)) = true) ↔
      (s.blk.slot i).state = .live ∧ ∃ p, (s.blk.slot i).plan = some p ∧ first.toNat + count.toNat ≤ p.portCount := by
    rw [Blocks.isLive_iff]
    simp [Option.any_eq_true]
  unfold ownCardPorts
  dsimp only
  rw [place]
  dsimp only
  rw [if_pos range, if_congr allowed rfl rfl]
  cases opened : s.blk.ep.isOpen <;> simp

/-- R108, R177: an accepted CARD PORTS stands in the pass-through place, and its reply waits for the outcome. -/
theorem exec_cardPorts_placed {i : SlotId} (ready : s.Ready) (hi : slot.toNat = i.val) (port : first.toNat < 32)
    (range : 1 ≤ count.toNat ∧ count.toNat ≤ 8 ∧ first.toNat + count.toNat ≤ 32)
    (allowed : s.blk.ep.isOpen = false ∧ (s.blk.slot i).state = .live
      ∧ ∃ p, (s.blk.slot i).plan = some p ∧ first.toNat + count.toNat ≤ p.portCount) :
    exec (.cardPorts tag [slot, first, count]) s =
      .next { s.holding { kind := 0x13, tag, body := [slot, first, count] } with
        blk := s.blk.placePass (passOrder i first.toNat count.toNat) } := by
  let f : Frame := { kind := 0x13, tag, body := [slot, first, count] }
  let placed := { s.holding f with blk := s.blk.placePass (passOrder i first.toNat count.toNat) }
  have taken : judgeRequest f (s.holding f) = (placed, none) :=
    (ownCardPorts_inRange slot first count (s.holding f) hi port range).trans (if_pos allowed)
  calc exec (.cardPorts tag [slot, first, count]) s
      = .next (State.answered (judgeRequest f (s.holding f))).deliver := exec_ready ready rfl
    _ = .next placed.deliver := congrArg (fun a => Host.Outcome.next (State.answered a).deliver) taken
    _ = .next placed := congrArg Host.Outcome.next (State.deliver_quiet (s := placed) ready.2.1)

end

/-- Settles O23, from the checks of a CARD PORTS in their order, the end of RELEASE that ends it with the bus free, and what the
cut of a freeze leaves of its place. -/
theorem cardPortsIsPlacedAndAnswered : Obligations.CardPortsIsPlacedAndAnswered := by
  refine ⟨fun s tag slot first count ready => ⟨fun outside => exec_answers ready rfl ?_, fun i hi range => ⟨fun bars => ?_, fun allowed => ?_⟩⟩,
    fun s tr o f rest awake quiet transfer requester pass purpose buffer => ?_, fun b => ?_, fun t p f rest raised buffer => ?_⟩
  · exact ownCardPorts_outside slot first count _ outside
  · exact exec_answers ready rfl ((ownCardPorts_inRange slot first count _ hi range.2.1 range.2.2).trans (if_neg bars))
  · exact exec_cardPorts_placed tag slot first count s ready hi range.2.1 range.2.2 allowed
  · have answers := fun ending out => releaseEnd_answers (ending := ending) (out := out) awake transfer requester pass purpose buffer
    refine ⟨fun phase => answers _ .done phase rfl, fun phase => answers _ .refused phase rfl, fun phase => answers _ .fresh phase rfl,
      fun phase last => answers _ .noAnswer phase ?_⟩
    unfold Blocks.endAttempt
    dsimp only
    rw [requester]
    exact if_neg (Nat.not_lt.mpr last)
  · rw [← CardBus.cutsPass_iff]
    exact b.freeze_pass
  · exact SupervisionPort.hear_pass buffer t .cut raised

end Sys2Proof.Machine
end
